-- ==== Sys2Proof/Word.lean ====
section
/-! DEFINITION. The words of the part: bytes of the two links, 16-bit CRCs, the 32-bit time base. -/

namespace Sys2Proof

/-- A character of the host link or the head link (R155, R195). -/
abbrev Byte := BitVec 8

/-- A CRC-16 (R156). -/
abbrev Half := BitVec 16

/-- A value of the 32-bit centisecond time base (R1). -/
abbrev Time := BitVec 32

/-- A 32-bit word of the profile store: a generation or a CRC-32 (R196). -/
abbrev Word32 := BitVec 32

end Sys2Proof
end

