-- ==== Sys2Proof/Syntax.lean ====
section
/-! DEFINITION. The names and configured records of the part, and its commands: one constructor of `Instr` for
each row of spec/opcode_table.json. -/

namespace Sys2Proof

/-! ### Numbered things (00_scope.md, Identifiers) -/

/-- Cameras C1–C6; the camera's number is the index plus 1. -/
abbrev CameraId := Fin 6
/-- Zones Z0–Z47. -/
abbrev ZoneId := Fin 48
/-- Sensitivity classes K0–K7. -/
abbrev ClassId := Fin 8
/-- Watch rules W0–W23. -/
abbrev RuleId := Fin 24
/-- Views V0–V11. -/
abbrev ViewId := Fin 12
/-- Contact lines L1–L8; the line's number is the index plus 1. -/
abbrev LineId := Fin 8
/-- Head addresses 0–15, where 0 is broadcast. -/
abbrev HeadAddr := Fin 16
/-- Head presets 0–63. -/
abbrev Preset := Fin 64

/-! ### Named values -/

/-- The two video standards. -/
inductive Standard where
  | s525 | s625
  deriving DecidableEq, Repr, Inhabited

/-- The parity of a field, as its timing codes state it (R4). -/
inductive Parity where
  | odd | even
  deriving DecidableEq, Repr

/-- The measure parity setting of a camera (R2). -/
inductive MeasureParity where
  | odd | even | both
  deriving DecidableEq, Repr

/-- The four camera states (§1.3). -/
inductive CameraState where
  | off | searching | locked | lost
  deriving DecidableEq, Repr

/-- The component a zone measures (R21). -/
inductive Component where
  | y | cb | cr
  deriving DecidableEq, Repr

/-- The electrical level of a pin. -/
inductive Level where
  | low | high
  deriving DecidableEq, Repr

/-- The four host link rates (R155). -/
inductive HostRate where
  | r9600 | r38400 | r115200 | r460800
  deriving DecidableEq, Repr

/-- The two head link rates (R137). -/
inductive HeadRate where
  | r19200 | r38400
  deriving DecidableEq, Repr

/-- The nine report kinds (R104). -/
inductive ReportKind where
  | camera | zone | rule | contact | screen | request | relay | profile | session
  deriving DecidableEq, Repr

/-- The party that placed a request or a head transaction. -/
inductive Origin where
  | host
  | rule (r : RuleId)
  deriving DecidableEq, Repr

/-- The two profile slots. -/
inductive SlotId where
  | a | b
  deriving DecidableEq, Repr

/-- Levels of the start-up straps S0–S3 (00_scope.md, Pin Summary). -/
structure Straps where
  s0 : Level
  s1 : Level
  s2 : Level
  s3 : Level
  deriving DecidableEq, Repr

/-! ### A field at a camera port (R4, R14) -/

/-- The samples of one cell in one field: four lines of 8 luminance samples and of 4 samples of each chroma
component, in any order (§1.5). -/
structure CellSamples where
  col : Nat
  row : Nat
  y : List Byte
  cb : List Byte
  cr : List Byte
  deriving DecidableEq, Repr

/-- The active picture of one field, cell by cell. A cell that is not listed carries samples of 0 (log 22). -/
abbrev Picture := List CellSamples

/-- What the input finds when a field's end code arrives: the conditions by which R4 classes the field, its parity
and its picture. -/
structure FieldInfo where
  /-- The timing codes are complete and well formed, and no active line is short or long. -/
  wellFormed : Bool
  /-- Active lines of the field. -/
  activeLines : Nat
  /-- Luminance samples on an active line. -/
  lineSamples : Nat
  /-- Lines of the field in all. -/
  totalLines : Nat
  parity : Parity
  picture : Picture
  deriving DecidableEq, Repr

/-! ### Configured records: what a profile holds (R197) -/

/-- The configured fields of a camera (R2). -/
structure CameraConfig where
  enabled : Bool
  parity : MeasureParity
  deriving DecidableEq, Repr

/-- The nine fields of a sensitivity class (R19). -/
structure SensClass where
  threshold : Nat
  darkFloor : Nat
  window : Nat
  kOn : Nat
  kOff : Nat
  hold : Nat
  learn : Nat
  adapt : Nat
  maxActive : Nat
  deriving DecidableEq, Repr

/-- The report causes of a zone: a subset of five (R21). -/
structure CauseFlags where
  onset : Bool
  calm : Bool
  stale : Bool
  learned : Bool
  lost : Bool
  deriving DecidableEq, Repr

/-- The configured fields of a zone (R21). An absent label is the empty list. -/
structure ZoneConfig where
  camera : CameraId
  col0 : Nat
  row0 : Nat
  col1 : Nat
  row1 : Nat
  component : Component
  cls : ClassId
  enabled : Bool
  causes : CauseFlags
  priority : Nat
  label : List Byte
  deriving DecidableEq, Repr

/-- The mode of a watch rule (R46). -/
inductive Mode where
  | any
  | all
  | count (n : Nat)
  | order
  deriving DecidableEq, Repr

/-- The operand of a term (R46). -/
inductive Operand where
  | zone (z : ZoneId)
  | line (l : LineId)
  deriving DecidableEq, Repr

/-- One term of a rule (R46). -/
structure Term where
  operand : Operand
  negate : Bool
  deriving DecidableEq, Repr

/-- What a LINE action claims (R46): a pulse of so many 10 ms steps, or a latch. -/
inductive LineForm where
  | pulse (steps : Nat)
  | latch
  deriving DecidableEq, Repr

/-- One action of a rule (R46). -/
inductive Action where
  | report (priority : Nat) (clearReport : Bool)
  | showView (view : ViewId) (priority dwell lifetime : Nat) (withdraw : Bool)
  | line (l : LineId) (form : LineForm)
  | recall (head : HeadAddr) (preset : Preset)
  deriving DecidableEq, Repr

/-- The configured fields of a watch rule (R46). -/
structure RuleConfig where
  armed : Bool
  mode : Mode
  terms : List Term
  window : Nat
  cooldown : Nat
  actions : List Action
  deriving DecidableEq, Repr

/-- The layout of a view (R76). -/
inductive Layout where
  | single | quad
  deriving DecidableEq, Repr

/-- A view (R76). An absent title is the empty list. -/
structure ViewConfig where
  layout : Layout
  tiles : List (Option CameraId)
  title : List Byte
  deriving DecidableEq, Repr

/-- An entry of the rotation list (R80). -/
structure RotationEntry where
  view : ViewId
  dwell : Nat
  deriving DecidableEq, Repr

/-- The mode of a contact line (R126). -/
inductive LineMode where
  | unused | input | output
  deriving DecidableEq, Repr

/-- The configured fields of a contact line (R126). -/
structure LineConfig where
  mode : LineMode
  activeLevel : Level
  debounce : Nat
  deriving DecidableEq, Repr

/-- The settings of the head link (R137). -/
structure HeadSettings where
  rate : HeadRate
  timeout : Nat
  retries : Nat
  gap : Nat
  deriving DecidableEq, Repr

/-- The report filter's entry for one kind (R107). -/
structure FilterEntry where
  enable : Bool
  minPriority : Nat
  deriving DecidableEq, Repr

/-- The report filter, one entry per kind in kind-code order (R107, R184). -/
abbrev Filter := Vector FilterEntry 9

/-- A profile: the configured state of every configuration-owning block (R197). -/
structure Profile where
  cameras : Vector CameraConfig 6
  classes : Vector SensClass 8
  zones : Vector (Option ZoneConfig) 48
  rules : Vector (Option RuleConfig) 24
  views : Vector (Option ViewConfig) 12
  rotation : List RotationEntry
  minShow : Nat
  lines : Vector LineConfig 8
  head : HeadSettings
  filter : Filter
  deriving DecidableEq, Repr

/-- The contents of a slot: the bytes as the store arranges them, and the profile that this arrangement spells,
where it spells one (R196, R197; log 7). -/
structure SlotContents where
  bytes : List Byte
  profile : Option Profile
  deriving DecidableEq, Repr

/-- The length, contents and CRC fields of a slot, as a write phase leaves them (R196, R201). -/
structure SlotImage where
  length : Nat
  contents : SlotContents
  crc : Word32
  deriving DecidableEq, Repr

/-- The parts in which a restored profile is handed to the owning blocks (R204). -/
inductive Part where
  | rulesRemove
  | zones
  | lines
  | filter
  | headLink
  | camera (c : CameraId)
  | schedule
  | rulesArm
  deriving DecidableEq, Repr

/-! ### The composed monitor output (R18, R99) -/

/-- What one tile of the output shows (R18, R99). A picture is drawn from the two newest fields of the camera's
frame store, converted when the camera's standard differs from the output's. -/
inductive TileImage where
  | black
  | noSignal (c : CameraId)
  | picture (c : CameraId) (converted : Bool) (odd even : Option Picture)
  deriving DecidableEq, Repr

/-- A composed output frame (R99): flat black, or tiles with an optional title band over them. -/
inductive OutputFrame where
  | blank
  | tiles (layout : Layout) (images : List TileImage) (title : List Byte)
  deriving DecidableEq, Repr, Inhabited

/-! ### The commands -/

/-- The commands of the part: one constructor per row of spec/opcode_table.json.

A row that is a host command (`putZone`, `ack`, …) is the taking of that command by the command processor (R164):
its frame is the oldest of the command queue. A row that is a message between two blocks takes the oldest such
message in transit; its operand says on which path (log 1). -/
inductive Instr where
  -- resets and time
  | powerOn (straps : Straps)
  | resetLine (straps : Straps)
  | timeBaseTick
  -- camera inputs
  | fieldEnd (c : CameraId) (f : FieldInfo)
  | runDeadlineExpiry (c : CameraId)
  | lossDeadlineExpiry (c : CameraId)
  | lostDeadlineExpiry (c : CameraId)
  | setCamera
  | getCamera
  -- zone engine
  | fieldSummary (c : CameraId)
  | cameraNoticeAtZones (c : CameraId)
  | setClass
  | getClass
  | putZone
  | dropZone
  | relearnZone
  | getZone
  | restoreZones
  -- rule engine
  | zoneTransition
  | lineTransition (l : LineId)
  | restartNotice
  | stepDeadlineExpiry (r : RuleId)
  | cooldownDeadlineExpiry (r : RuleId)
  | putRule
  | dropRule
  | armRule
  | getRule
  | restoreRulesRemove
  | restoreRulesArm
  -- presentation scheduler
  | viewRequest
  | withdrawal
  | cameraNoticeAtScheduler (c : CameraId)
  | dwellDeadlineExpiry
  | lifetimeDeadlineExpiry (o : Origin)
  | rotationDeadlineExpiry
  | deferralDeadlineExpiry
  | putView
  | dropView
  | setRotation
  | setMinshow
  | showView
  | withdraw
  | hold
  | release
  | getScreen
  | restoreSchedule
  -- screen compositor
  | presentation
  | outputFrameStart
  -- report queue
  | reportOffer (k : ReportKind)
  | setFilter
  | restoreFilter
  | pull
  | ack
  | retransmitDeadlineExpiry
  | pushStallNotice
  -- contact block
  | pinLevelChange (l : LineId)
  | debounceDeadlineExpiry (l : LineId)
  | latchClaim
  | latchDrop
  | pulseClaim
  | pulseDeadlineExpiry (l : LineId)
  | setLine
  | driveLine
  | getLines
  | restoreLines
  -- head link controller
  | recall
  | relay
  | cancelRelay
  | setHeadlink
  | getRelays
  | restoreHeadlink
  | requestFrameComplete
  /-- A run of one or more characters from the heads (R145; log 37). -/
  | replyFrame (rate : HeadRate) (stopGood : Bool) (first : Byte) (rest : List Byte)
  | replyDeadlineExpiry
  | turnaroundGapEnd
  -- host link controller
  | hostByteReceived (b : Byte) (stopGood : Bool)
  | gapDeadlineExpiry
  | silenceDeadlineExpiry
  /-- With the level on strap S3, which RESTART's full reset samples (R206; log 25). -/
  | frameTxComplete (s3 : Level)
  | unknownKind
  | hello
  | openSession
  | closeSession
  | ping
  | setLink
  | restart
  | time
  -- profile store
  | commit
  | commitWriteDone (stored : Option SlotImage)
  | commitVerifyDone (readGood : Bool)
  | generationWriteDone (readBack afterErase : Word32)
  | restore
  | restoreReadDone (readGood : Bool)
  | restoreCamera (c : CameraId)
  | partTakenNotice (p : Part)
  | eraseProfile
  | erasePrepareDone (readA readB : Word32)
  | getProfile
  -- camera inputs, the first active line of a field
  | firstActiveLine (c : CameraId)
  deriving DecidableEq, Repr

end Sys2Proof
end

