-- ==== Sys2Proof/Decode.lean ====
section
/-! DEFINITION. The words of the opcode table. -/

namespace Sys2Proof

/-- The command that a word spells by the table's bits. No row of spec/opcode_table.json gives bits ("fields" is
empty in each), so that no word spells one. -/
def decodeTableWord (_nbits _w : Nat) : Option Instr := none

end Sys2Proof
end

