-- ==== Sys2Proof/Machine/Crc.lean ====
section
/-! DEFINITION. Byte order of multi-byte fields, and the two checks: the CRC-16 of the host and head frames (R156,
R195) and the CRC-32 of the profile slots (R196). -/

namespace Sys2Proof.Machine

/-- A number as one byte. -/
def byte (n : Nat) : Byte := BitVec.ofNat 8 n

/-- Two bytes, most significant first (00_scope.md, Byte order and layouts). -/
def be16 (n : Nat) : List Byte := [byte (n / 256), byte n]

/-- Three bytes, most significant first. -/
def be24 (n : Nat) : List Byte := [byte (n / 65536), byte (n / 256), byte n]

/-- Four bytes, most significant first. -/
def be32 (n : Nat) : List Byte := [byte (n / 16777216), byte (n / 65536), byte (n / 256), byte n]

/-- The number that two bytes carry, most significant first. -/
def word16 (hi lo : Byte) : Nat := hi.toNat * 256 + lo.toNat

/-- One bit of the CRC-16 register: polynomial 1021h, most significant bit first (R156). -/
def crc16Bit (r : Half) : Half := if r.msb then (r <<< 1) ^^^ 0x1021 else r <<< 1

/-- One byte of the CRC-16 (R156). -/
def crc16Byte (r : Half) (b : Byte) : Half := Nat.repeat crc16Bit 8 (r ^^^ (b.setWidth 16 <<< 8))

/-- The CRC-16 over some bytes: the register starts at FFFFh and the result is not inverted (R156). -/
def crc16 (bytes : List Byte) : Half := bytes.foldl crc16Byte 0xFFFF

/-- One bit of the CRC-32 register: reflected polynomial EDB88320h, least significant bit first (R196). -/
def crc32Bit (r : Word32) : Word32 := if r.getLsbD 0 then (r >>> 1) ^^^ 0xEDB88320 else r >>> 1

/-- One byte of the CRC-32 (R196). -/
def crc32Byte (r : Word32) (b : Byte) : Word32 := Nat.repeat crc32Bit 8 (r ^^^ b.setWidth 32)

/-- The CRC-32 over some bytes: the register starts at FFFFFFFFh and the final value is inverted (R196). -/
def crc32 (bytes : List Byte) : Word32 := ~~~ (bytes.foldl crc32Byte 0xFFFFFFFF)

end Sys2Proof.Machine
end

