-- ==== Sys2Proof/Config.lean ====
section
/-! DEFINITION. What the manual leaves open: constants without a body, so that nothing can be proved of their
values. Each is marked in the assumption log. -/

namespace Sys2Proof

/-- FREE VALUE (log 5). Three field periods of a 525 camera are 50.05 ms (R4), which is no whole number of
centiseconds; whether the deadline then set is 6 counts away (`true`) or 5 (`false`) is not stated. The argument
is fresh at each use. -/
opaque Config.spanRoundsUp : Nat → Bool

/-- FREE VALUE (log 7). The arrangement of a profile's contents: "The arrangement of the contents is internal to
the store and is not seen on any link" (R197). -/
opaque Config.profileBytes : Profile → List Byte

/-- FREE VALUE (log 14). The frame composed while the applied presentation names a view that is no longer defined
(R99 gives none). The argument is fresh at each use. -/
opaque Config.undefinedViewFrame : Nat → OutputFrame

/-- FREE VALUE (log 37). What the receiver of the head link reads of characters that are sent at another rate than the
one it receives at, or whose stop bit is wrong (R145 and R195 give it for that rate and one stop bit only). The argument is
fresh at each use. -/
opaque Config.misread : Nat → List Byte

end Sys2Proof
end

