-- ==== Sys2Proof/Machine/Factory.lean ====
section
/-! DEFINITION. The factory defaults (R207), as the owning chapters give them. -/

namespace Sys2Proof.Machine

/-- Factory camera record (R2). -/
def factoryCamera : CameraConfig := ⟨true, .odd⟩

/-- A factory class with its threshold (R19). -/
def factoryClass (threshold : Nat) : SensClass :=
  { threshold := threshold, darkFloor := 128, window := 8, kOn := 3, kOff := 1, hold := 25, learn := 16,
    adapt := 4, maxActive := 0 }

/-- The factory classes K0–K7 (R19). -/
def factoryClasses : Vector SensClass 8 :=
  #v[factoryClass 20, factoryClass 40, factoryClass 60, factoryClass 90, factoryClass 130, factoryClass 180,
    factoryClass 250, factoryClass 350]

/-- A SINGLE view of one camera without a title (R76). -/
def singleView (c : CameraId) : ViewConfig := ⟨.single, [some c], []⟩

/-- The factory views V0–V11 (R76). -/
def factoryViews : Vector (Option ViewConfig) 12 :=
  #v[some (singleView 0), some (singleView 1), some (singleView 2), some (singleView 3), some (singleView 4),
    some (singleView 5), some ⟨.quad, [some 0, some 1, some 2, some 3], []⟩,
    some ⟨.quad, [some 4, some 5, none, none], []⟩, none, none, none, none]

/-- The factory rotation: V0–V5 at 5 s each (R80). -/
def factoryRotation : List RotationEntry :=
  [⟨0, 5⟩, ⟨1, 5⟩, ⟨2, 5⟩, ⟨3, 5⟩, ⟨4, 5⟩, ⟨5, 5⟩]

/-- The factory line record (R126). -/
def factoryLine : LineConfig := ⟨.unused, .high, 0⟩

/-- The factory head link settings (R137). -/
def factoryHead : HeadSettings := { rate := .r19200, timeout := 20, retries := 2, gap := 5 }

/-- The factory report filter, in kind-code order (R108). -/
def factoryFilter : Filter :=
  #v[⟨true, 0⟩, ⟨false, 0⟩, ⟨true, 0⟩, ⟨false, 0⟩, ⟨false, 0⟩, ⟨false, 0⟩, ⟨true, 0⟩, ⟨true, 0⟩, ⟨true, 0⟩]

/-- The factory defaults loaded at start-up when no slot is (R206, R207). -/
def factoryProfile : Profile :=
  { cameras := Vector.replicate 6 factoryCamera
    classes := factoryClasses
    zones := Vector.replicate 48 none
    rules := Vector.replicate 24 none
    views := factoryViews
    rotation := factoryRotation
    minShow := 20
    lines := Vector.replicate 8 factoryLine
    head := factoryHead
    filter := factoryFilter }

end Sys2Proof.Machine
end

