-- ==== Sys2Proof/Machine/State.lean ====
section
/-! DEFINITION. The state of the part: every record, queue, timer and pin the spec gives it, as plain data; the
messages in transit between its blocks; the queue of waiting commands; and the machine right after reset. -/

namespace Sys2Proof.Machine

/-! ### Camera inputs (chapter 01) -/

/-- The camera record (R2), the zones fixed at the first active line of the field in progress (R16) and the frame
store (R18). -/
structure Camera where
  enabled : Bool
  parity : MeasureParity
  state : CameraState
  /-- The recorded standard. -/
  standard : Option Standard
  runCount : Nat
  runStandard : Option Standard
  /-- Last transition stamp. -/
  stamp : Time
  lossDeadline : Option Time
  lostDeadline : Option Time
  runDeadline : Option Time
  /-- The zones that still qualify for the summary of the field in progress; none while no measurable field is. -/
  qualifying : Option (List ZoneId)
  storeOdd : Option Picture
  storeEven : Option Picture
  deriving DecidableEq, Repr

/-- A camera notice (R11). -/
structure CameraNotice where
  previous : CameraState
  new : CameraState
  standard : Option Standard
  deriving DecidableEq, Repr

/-- A field summary (R16): the field end time and one zone mean S per qualifying zone, in ascending zone order. -/
structure Summary where
  stamp : Time
  entries : List (ZoneId × Nat)
  deriving DecidableEq, Repr

/-- What one camera sends the zone engine, in the order it sends it (R11). -/
inductive CameraMessage where
  | notice (n : CameraNotice)
  /-- The notice of a transition that a restored record made, with its place among such notices (R44; log 10). -/
  | restored (place : Nat) (n : CameraNotice)
  | summary (f : Summary)
  deriving DecidableEq, Repr

/-! ### Zone engine (chapter 02) -/

/-- The judgement state of a zone (R26). -/
inductive ZoneState where
  | off | blind | learning | quiet | active
  deriving DecidableEq, Repr

/-- The cause of a zone transition (R40). -/
inductive ZoneCause where
  | enabled | disabled | lost | seen | notVisible | reset | learned | onset | calm | stale
  deriving DecidableEq, Repr

/-- The runtime record of a zone (R26). -/
structure ZoneRun where
  state : ZoneState
  reference : Option Nat
  learnSum : Nat
  learnCount : Nat
  /-- Hits (`true`) and misses, newest first. -/
  history : List Bool
  lastS : Option Nat
  lastD : Option Nat
  fieldsInState : Nat
  onsetCount : Nat
  lastCause : Option ZoneCause
  stamp : Time
  deriving DecidableEq, Repr

/-- A defined zone. -/
structure Zone where
  cfg : ZoneConfig
  run : ZoneRun
  deriving DecidableEq, Repr

/-- The zone engine's copy of a camera (R28). -/
structure CameraCopy where
  state : CameraState
  standard : Option Standard
  deriving DecidableEq, Repr

structure ZoneEngine where
  classes : Vector SensClass 8
  table : Vector (Option Zone) 48
  camCopy : Vector CameraCopy 6
  deriving DecidableEq, Repr

/-- A zone transition (R41). -/
structure ZoneTransition where
  zone : ZoneId
  previous : ZoneState
  new : ZoneState
  cause : ZoneCause
  stamp : Time
  deriving DecidableEq, Repr

/-- What the zone engine sends the rule engine, in the order it sends it (R41, R44). -/
inductive ZoneMessage where
  | transition (t : ZoneTransition)
  | restart
  deriving DecidableEq, Repr

/-! ### Rule engine (chapter 03) -/

/-- A term value (R39, R48). -/
inductive TermValue where
  | false | true | unknown
  deriving DecidableEq, Repr

/-- The debounced state of a contact line (R126). -/
inductive LineState where
  | inactive | active
  deriving DecidableEq, Repr

/-- The state of a watch rule (R51). -/
inductive RuleState where
  | disarmed | idle | stepping | fired | cooldown
  deriving DecidableEq, Repr

/-- The runtime record of a rule (R51). -/
structure RuleRun where
  state : RuleState
  /-- In STEPPING, the number of the awaited term. -/
  step : Option Nat
  stepDeadline : Option Time
  cooldownDeadline : Option Time
  fireCount : Nat
  lastFired : Option Time
  deriving DecidableEq, Repr

/-- A defined rule. -/
structure Rule where
  cfg : RuleConfig
  run : RuleRun
  deriving DecidableEq, Repr

structure RuleEngine where
  table : Vector (Option Rule) 24
  zoneCopy : Vector TermValue 48
  lineCopy : Vector LineState 8
  deriving DecidableEq, Repr

/-- Why a rule's release was taken (R63). -/
inductive ClearCause where
  | cooldownEnd | disarmed | replaced | dropped | restored
  deriving DecidableEq, Repr

/-- A view request (R64). -/
structure ViewRequest where
  origin : Origin
  view : ViewId
  priority : Nat
  dwell : Nat
  lifetime : Nat
  deriving DecidableEq, Repr

/-- What the rule engine sends the contact block (R57, R65). -/
inductive Claim where
  | latch (r : RuleId) (l : LineId)
  | drop (r : RuleId) (l : LineId)
  | pulse (l : LineId) (steps : Nat)
  deriving DecidableEq, Repr

/-- A recall sent by the rule engine (R66). -/
structure Recall where
  rule : RuleId
  head : HeadAddr
  preset : Preset
  deriving DecidableEq, Repr

/-! ### Presentation scheduler and compositor (chapter 04) -/

/-- An entry of the request set (R83). -/
structure Request where
  origin : Origin
  view : ViewId
  priority : Nat
  /-- Remaining dwell, in cs. -/
  remaining : Nat
  dwellDeadline : Option Time
  lifetime : Time
  arrival : Time
  deriving DecidableEq, Repr

/-- The screen source state (R89). -/
inductive SourceState where
  | blank | rotating | request | hold
  deriving DecidableEq, Repr

/-- The screen source record (R89). -/
structure Source where
  state : SourceState
  index : Nat
  shown : Option Origin
  start : Time
  rotationDeadline : Option Time
  deferral : Option Time
  deriving DecidableEq, Repr

structure Scheduler where
  views : Vector (Option ViewConfig) 12
  camCopy : Vector CameraState 6
  rotation : List RotationEntry
  minShow : Nat
  requests : List Request
  hold : Option ViewId
  source : Source
  deriving DecidableEq, Repr

/-- A presentation (R97). -/
inductive Presentation where
  | blank
  | rotating (view : ViewId) (index : Nat)
  | request (view : ViewId) (origin : Origin)
  | hold (view : ViewId)
  deriving DecidableEq, Repr

/-- The screen compositor (R97) and the frame it composes (R99). -/
structure Compositor where
  applied : Presentation
  pending : Option Presentation
  output : OutputFrame
  deriving DecidableEq, Repr

/-- How a request ended (R101). -/
inductive RequestOutcome where
  | done | expired | withdrawn | evicted | replaced | refusedFull | restored
  deriving DecidableEq, Repr

/-! ### Head link controller (chapter 07) -/

/-- The operation of a transaction with its body (R139). -/
inductive HeadOp where
  | recall (preset : Preset)
  | raw (bytes : List Byte)
  deriving DecidableEq, Repr

/-- Why an attempt failed (R147). -/
inductive Failure where
  | noReply | badReply
  deriving DecidableEq, Repr

/-- The result of a transaction (R151). -/
inductive RelayResult where
  | ok | headRefused | noReply | badReply | cancelled | superseded | queueFull
  deriving DecidableEq, Repr

/-- A transaction (R139). -/
structure Transaction where
  tid : Byte
  origin : Origin
  head : HeadAddr
  op : HeadOp
  attempts : Nat
  tag : Option Byte
  cancelPending : Bool
  failure : Option Failure
  deriving DecidableEq, Repr

/-- The link states (§7.3). -/
inductive LinkState where
  | idle | sending | awaitReply | gap
  deriving DecidableEq, Repr

/-- The request frame of the attempt in progress and the rate it is sent at (R138, R143). -/
structure HeadFrame where
  rate : HeadRate
  bytes : List Byte
  deriving DecidableEq, Repr

structure HeadLink where
  settings : HeadSettings
  queue : List Transaction
  /-- The oldest transaction of the queue is in flight (R140). -/
  inFlight : Bool
  nextTid : Byte
  nextTag : Byte
  link : LinkState
  replyDeadline : Option Time
  /-- The length in ms of the turnaround gap that is running (R138). -/
  gapLength : Option Nat
  /-- The attempt's request frame and its rate, while it is sent and while its reply is awaited. -/
  line : Option HeadFrame
  /-- The bytes of a reply frame that have been received, its start first; none while the start is searched (R145). -/
  received : List Byte
  deriving DecidableEq, Repr

/-! ### Contact block (chapter 06) -/

/-- The host drive of an output line (R126). -/
inductive HostDrive where
  | auto | on | off
  deriving DecidableEq, Repr

/-- The record of a contact line (R126). -/
structure Line where
  mode : LineMode
  activeLevel : Level
  debounce : Nat
  drive : HostDrive
  accepted : LineState
  /-- The debounce deadline of a pending change. -/
  pendingChange : Option Time
  /-- The latch-claimant set: for each rule, whether it is in the set. -/
  claimants : Vector Bool 24
  pulse : Option Time
  asserted : Bool
  deriving DecidableEq, Repr

/-- A line transition (R131). -/
structure LineChange where
  line : LineId
  previous : LineState
  new : LineState
  stamp : Time
  deriving DecidableEq, Repr

/-! ### Activity reports (chapter 05) -/

/-- The event of a RULE report (R63). -/
inductive RuleEvent where
  | fired | cleared
  deriving DecidableEq, Repr

/-- The event of a PROFILE report (R106). -/
inductive ProfileEvent where
  | loaded | factory | committed | commitFailed | restored | restoreFailed | erased | eraseFailed
  deriving DecidableEq, Repr

/-- The reason of a SESSION report (R168). -/
inductive SessionReason where
  | silence | pushStalled
  deriving DecidableEq, Repr

/-- The delivery mode of a session (R166). -/
inductive DeliveryMode where
  | pull | push
  deriving DecidableEq, Repr

/-- The detail of a report, by kind (R106). -/
inductive Detail where
  | camera (previous new : CameraState) (standard : Option Standard) (changed : Bool)
  | zone (previous new : ZoneState) (cause : ZoneCause) (s reference d : Option Nat) (onsets : Nat)
  | rule (event : RuleEvent) (cause : Option ClearCause) (mode : Mode) (values : List TermValue) (fires : Nat)
  | contact (previous new : LineState)
  | screen (state : SourceState) (index : Option Nat) (origin : Option Origin) (previousView : Option ViewId)
  | request (view : ViewId) (priority : Nat) (outcome : RequestOutcome) (remaining : Nat) (arrival : Time)
  | relay (tid : Option Byte) (head : HeadAddr) (op : HeadOp) (result : RelayResult) (attempts : Nat)
  | profile (event : ProfileEvent) (generation : Option Word32)
  | session (reason : SessionReason) (mode : DeliveryMode) (outstanding : Nat)
  deriving DecidableEq, Repr

/-- A report as its block offers it (R104). -/
structure Report where
  stamp : Time
  priority : Nat
  source : Nat
  detail : Detail
  deriving DecidableEq, Repr

/-- The delivery mark of a record (R104). -/
inductive DeliveryMark where
  | unsent | sending | pushed
  deriving DecidableEq, Repr

/-- A record of the report queue (R104). -/
structure Record where
  seq : Nat
  report : Report
  mark : DeliveryMark
  deriving DecidableEq, Repr

inductive SessionState where
  | closed | opened
  deriving DecidableEq, Repr

/-- The delivery state of the report queue (R115). -/
structure Delivery where
  session : SessionState
  mode : DeliveryMode
  window : Nat
  retransmit : Nat
  retry : Nat
  deadline : Option Time
  /-- During a retransmission, the sequences still to be sent again. -/
  round : Option (List Nat)
  deriving DecidableEq, Repr

structure ReportQueue where
  filter : Filter
  /-- Oldest first. -/
  records : List Record
  nextSeq : Nat
  dropped : Nat
  delivery : Delivery
  deriving DecidableEq, Repr

/-! ### Host link controller (chapter 08) -/

/-- A valid command frame (R156). -/
structure Frame where
  seq : Byte
  kind : Byte
  payload : List Byte
  crc : Half
  deriving DecidableEq, Repr

/-- The receiver's state with the partial frame it holds (§8.3). -/
inductive Receiver where
  | hunt
  | header (got : List Byte)
  | body (len seq kind : Byte) (got : List Byte)
  | check (len seq kind : Byte) (payload : List Byte) (got : List Byte)
  deriving DecidableEq, Repr

/-- The reason of a NAK (R188). -/
inductive NakReason where
  | badCrc | badSeq | oversize | gap
  deriving DecidableEq, Repr

/-- A frame of the immediate queue (R160): a NAK, or the BUSY refusal of a frame of this SEQ and KIND. -/
inductive ImmediateFrame where
  | nak (seq : Byte) (reason : NakReason)
  | busy (seq kind : Byte)
  deriving DecidableEq, Repr

/-- The sent mark of a cache entry (R163). -/
inductive SentMark where
  | unsent | sending | sent
  deriving DecidableEq, Repr

/-- What the completion of a reply's first transmission brings about (R172, R173). -/
inductive PostAction where
  | switchRate (r : HostRate)
  | restart
  deriving DecidableEq, Repr

/-- An entry of the reply cache (R163). -/
structure CacheEntry where
  seq : Byte
  crc : Half
  frame : List Byte
  mark : SentMark
  post : Option PostAction
  deriving DecidableEq, Repr

/-- Where the frame on the line came from (R165). -/
inductive TxSource where
  | immediate
  | reply
  | report (seq : Nat) (resend : Bool)
  deriving DecidableEq, Repr

/-- The frame on the line, with the rate it is sent at (R155, R165). -/
structure TxFrame where
  bytes : List Byte
  source : TxSource
  rate : HostRate
  deriving DecidableEq, Repr

/-- The session record (R166). -/
structure Session where
  state : SessionState
  mode : DeliveryMode
  window : Nat
  retransmit : Nat
  /-- Silence timeout in seconds; 0 means none. -/
  silence : Nat
  deadline : Option Time
  deriving DecidableEq, Repr

structure HostLink where
  rate : HostRate
  receiver : Receiver
  gap : Option Time
  /-- A character of the partial frame had its stop bit at the wrong level (R155). -/
  badStop : Bool
  commands : List Frame
  cache : List CacheEntry
  immediate : List ImmediateFrame
  /-- The frame on the line; none while the transmitter is free. -/
  tx : Option TxFrame
  session : Session
  restartPending : Bool
  deriving DecidableEq, Repr

/-! ### Profile store (chapter 10) -/

/-- A profile slot (R196). -/
structure Slot where
  generation : Word32
  length : Nat
  contents : SlotContents
  crc : Word32
  deriving DecidableEq, Repr

/-- What the directory holds of a valid slot (R198). -/
structure DirectoryEntry where
  generation : Word32
  length : Nat
  deriving DecidableEq, Repr

/-- The block state of the store (R199). -/
inductive BlockState where
  | idle | committing | restoring | erasing
  deriving DecidableEq, Repr

/-- The phase of a commit (R201). -/
inductive CommitPhase where
  | write | verify | generation
  deriving DecidableEq, Repr

structure ProfileStore where
  slotA : Slot
  slotB : Slot
  /-- Directory entry of slot A; none when the slot is invalid. -/
  dirA : Option DirectoryEntry
  dirB : Option DirectoryEntry
  block : BlockState
  target : Option SlotId
  targetGen : Option Word32
  snapshot : Option Profile
  phase : Option CommitPhase
  /-- The slot a restore reads (R203). -/
  restoreSlot : Option SlotId
  /-- The profile being applied (R204). -/
  applying : Option Profile
  /-- Parts handed to their blocks and not yet taken. -/
  handed : List Part
  /-- Notices of blocks that have taken their part, in transit to the store. -/
  notices : List Part
  /-- Parts whose notice the store has taken. -/
  taken : List Part
  /-- Start-up source; none for FACTORY. -/
  startSource : Option SlotId
  startGen : Option Word32
  deriving DecidableEq, Repr

/-! ### The paths between the blocks -/

/-- Messages in transit, oldest first (00_scope.md, Block Diagram; log 1). -/
structure Wires where
  camToZones : Vector (List CameraMessage) 6
  camToSched : Vector (List CameraNotice) 6
  zonesToRules : List ZoneMessage
  linesToRules : Vector (List LineChange) 8
  requests : List ViewRequest
  withdrawals : List Origin
  claims : List Claim
  recalls : List Recall
  presentations : List Presentation
  /-- Reports offered and not yet taken by the report queue. -/
  offers : List Report
  /-- A stall notice is on its way to the host link controller (R122). -/
  stall : Bool
  deriving DecidableEq, Repr

/-! ### The whole part -/

/-- The state of the part. -/
structure State where
  now : Time
  straps : Straps
  outputStandard : Standard
  /-- The level the outside puts on each contact pin. -/
  extPins : Vector Level 8
  cams : Vector Camera 6
  zoneEngine : ZoneEngine
  ruleEngine : RuleEngine
  sched : Scheduler
  comp : Compositor
  reports : ReportQueue
  lines : Vector Line 8
  head : HeadLink
  link : HostLink
  store : ProfileStore
  wires : Wires
  /-- The MODEL's own: the argument of the next free value (log 5). -/
  fresh : Nat
  /-- The commands that are waiting, first in, first out. -/
  pending : List Instr
  deriving DecidableEq, Repr

/-- Reasons for which the part stops: there is none. The spec describes no fault that stops the part; host, head
and storage errors are answered on their links and by reports (log 2). Safe. -/
inductive Fault where
  deriving DecidableEq, Repr

/-- Reasons for which the model gives a command no meaning. -/
inductive Refusal where
  /-- Raised by `exec` alone, for a command without a meaning in this model (none at present). Safe. -/
  | notModelled (mnemonic : String)
  deriving DecidableEq, Repr

/-! ### Reset -/

/-- An erased slot (R196; log 6). -/
def Slot.erased : Slot := { generation := 0xFFFFFFFF, length := 0, contents := ⟨[], none⟩, crc := 0 }

/-- No message in transit. -/
def Wires.empty : Wires :=
  { camToZones := Vector.replicate 6 [], camToSched := Vector.replicate 6 [], zonesToRules := []
    linesToRules := Vector.replicate 8 [], requests := [], withdrawals := [], claims := [], recalls := []
    presentations := [], offers := [], stall := false }

/-- The state right after power-on with both slots erased and every strap and contact pin low: the factory
defaults are loaded (R206, R207), every block holds its reset values, and the report queue holds the start-up
PROFILE report (R114). What stood in the slots and on the pins before is DESIGN CHOICE (log 6). -/
def State.reset : State where
  now := 0
  straps := ⟨.low, .low, .low, .low⟩
  outputStandard := .s525
  extPins := Vector.replicate 8 .low
  cams := Vector.replicate 6
    { enabled := true, parity := .odd, state := .searching, standard := none, runCount := 0, runStandard := none
      stamp := 0, lossDeadline := none, lostDeadline := none, runDeadline := none, qualifying := none
      storeOdd := none, storeEven := none }
  zoneEngine :=
    { classes := factoryClasses, table := Vector.replicate 48 none
      camCopy := Vector.replicate 6 ⟨.searching, none⟩ }
  ruleEngine :=
    { table := Vector.replicate 24 none, zoneCopy := Vector.replicate 48 .unknown
      lineCopy := Vector.replicate 8 .inactive }
  sched :=
    { views := factoryViews, camCopy := Vector.replicate 6 .searching, rotation := factoryRotation, minShow := 20
      requests := [], hold := none
      source := { state := .blank, index := 0, shown := none, start := 0, rotationDeadline := none
                  deferral := none } }
  comp := { applied := .blank, pending := none, output := .blank }
  reports :=
    { filter := factoryFilter
      records := [⟨1, { stamp := 0, priority := 2, source := 0, detail := .profile .factory none }, .unsent⟩]
      nextSeq := 2, dropped := 0
      delivery := { session := .closed, mode := .pull, window := 1, retransmit := 10, retry := 0
                    deadline := none, round := none } }
  lines := Vector.replicate 8
    { mode := .unused, activeLevel := .high, debounce := 0, drive := .auto, accepted := .inactive
      pendingChange := none, claimants := Vector.replicate 24 Bool.false, pulse := none, asserted := Bool.false }
  head :=
    { settings := factoryHead, queue := [], inFlight := false, nextTid := 0, nextTag := 0, link := .idle
      replyDeadline := none, gapLength := none, line := none, received := [] }
  link :=
    { rate := .r9600, receiver := .hunt, gap := none, badStop := false, commands := [], cache := []
      immediate := [], tx := none
      session := { state := .closed, mode := .pull, window := 1, retransmit := 10, silence := 0, deadline := none }
      restartPending := false }
  store :=
    { slotA := Slot.erased, slotB := Slot.erased, dirA := none, dirB := none, block := .idle, target := none
      targetGen := none, snapshot := none, phase := none, restoreSlot := none, applying := none, handed := []
      notices := [], taken := [], startSource := none, startGen := none }
  wires := Wires.empty
  fresh := 0
  pending := []

end Sys2Proof.Machine
end

