-- ==== Sys2Proof/Machine/Flags.lean ====
section
/-! DEFINITION. The judgements of the part: comparisons of time base values, the class of a field, visibility,
the zone mean, term values and conditions, showability, the report filter, the assertion of an output, the
validity of a slot. -/

namespace Sys2Proof.Machine

/-! ### Time base values (R1) -/

/-- `a` lies after `b`: their difference modulo 2^32 is from 1 to 7FFFFFFFh (R1). -/
def after (a b : Time) : Bool := decide (1 ≤ (a - b).toNat) && decide ((a - b).toNat ≤ 0x7FFFFFFF)

/-- The time base has reached a value: it is that value or lies after it (R1; log 30). -/
def reached (now d : Time) : Bool := decide ((now - d).toNat ≤ 0x7FFFFFFF)

/-- A deadline is held and has been reached. -/
def due (now : Time) : Option Time → Bool
  | none => false
  | some d => reached now d

/-- A deadline: a time base value plus a duration, modulo 2^32 (R1). -/
def later (t : Time) (cs : Nat) : Time := t + BitVec.ofNat 32 cs

/-- The time elapsed from `t` to `now` (R1). -/
def elapsed (now t : Time) : Nat := (now - t).toNat

/-- The time remaining to a deadline, 0 once it has been reached (log 17). -/
def remainingTo (d now : Time) : Nat := if after d now then (d - now).toNat else 0

/-- The later of a held deadline and a new one; a deadline of none counts as earlier than any time (R133). -/
def laterOf (old : Option Time) (new : Time) : Time :=
  match old with
  | none => new
  | some d => if after new d then new else d

/-! ### Fields and zones at the cameras -/

/-- The class of a field: valid 525, valid 625, or invalid (none) (R4). -/
def fieldClass (f : FieldInfo) : Option Standard :=
  if f.wellFormed && f.lineSamples == 720 then
    if f.activeLines == 240 && (f.totalLines == 262 || f.totalLines == 263) then some .s525
    else if f.activeLines == 288 && (f.totalLines == 312 || f.totalLines == 313) then some .s625
    else none
  else none

/-- Rows of cells under a standard (R13). -/
def rowsOf : Standard → Nat
  | .s525 => 60
  | .s625 => 72

/-- A zone has visible cells under a recorded standard (R13). -/
def hasVisibleCells (standard : Option Standard) (z : ZoneConfig) : Bool :=
  match standard with
  | none => false
  | some s => decide (z.row0 < rowsOf s)

/-- A field's parity is selected by the measure parity setting (R15). -/
def paritySelected : MeasureParity → Parity → Bool
  | .both, _ => true
  | .odd, .odd => true
  | .even, .even => true
  | _, _ => false

/-- Samples of a component in one cell of one field (R14). -/
def samplesPerCell : Component → Nat
  | .y => 32
  | _ => 16

/-- The samples of a component that a cell carries. -/
def cellSamples (k : Component) (c : CellSamples) : List Byte :=
  match k with
  | .y => c.y.take 32
  | .cb => c.cb.take 16
  | .cr => c.cr.take 16

/-- The sum of a component's samples in one cell of a field; a cell not listed carries zeros (log 22). -/
def cellSum (k : Component) (p : Picture) (col row : Nat) : Nat :=
  match p.find? (fun c => c.col == col && c.row == row) with
  | some c => ((cellSamples k c).map BitVec.toNat).sum
  | none => 0

/-- The sum of a zone's samples over its visible cells, of which the last row is `lastRow` (R14). -/
def zoneSum (z : ZoneConfig) (lastRow : Nat) (p : Picture) : Nat :=
  ((List.range' z.row0 (lastRow + 1 - z.row0)).map fun row =>
    ((List.range' z.col0 (z.col1 + 1 - z.col0)).map fun col => cellSum z.component p col row).sum).sum

/-- The last visible row of a zone under a standard (R13). -/
def lastVisibleRow (z : ZoneConfig) (s : Standard) : Nat := min z.row1 (rowsOf s - 1)

/-- The number of a zone's visible cells under a standard (R13). -/
def visibleCells (z : ZoneConfig) (s : Standard) : Nat :=
  if z.row0 < rowsOf s then (z.col1 + 1 - z.col0) * (lastVisibleRow z s + 1 - z.row0) else 0

/-- The zone mean S over one field, in 1/16-level units: floor of (sum × 16 / count) (R14). -/
def zoneMean (z : ZoneConfig) (s : Standard) (p : Picture) : Nat :=
  zoneSum z (lastVisibleRow z s) p * 16 / (samplesPerCell z.component * visibleCells z s)

/-! ### Terms and conditions (R39, R47–R49) -/

/-- The value a zone's state gives a term (R39). -/
def zoneValue : ZoneState → TermValue
  | .active => .true
  | .quiet => .false
  | _ => .unknown

/-- The value a line's state gives a term (R48). -/
def lineValue : LineState → TermValue
  | .active => .true
  | .inactive => .false

/-- Negation of a term value; UNKNOWN stays UNKNOWN (R48). -/
def negateValue : TermValue → TermValue
  | .true => .false
  | .false => .true
  | .unknown => .unknown

/-- The value of an operand, from the rule engine's term copies (R47). -/
def operandValue (e : RuleEngine) : Operand → TermValue
  | .zone z => e.zoneCopy.get z
  | .line l => lineValue (e.lineCopy.get l)

/-- The value of a term, negation applied (R48). -/
def termValue (e : RuleEngine) (t : Term) : TermValue :=
  if t.negate then negateValue (operandValue e t.operand) else operandValue e t.operand

/-- A term is true when its value is TRUE; UNKNOWN counts as false (R48). -/
def termTrue (e : RuleEngine) (t : Term) : Bool := termValue e t == .true

/-- The number of true terms (R49). -/
def trueTerms (e : RuleEngine) (terms : List Term) : Nat := terms.countP (termTrue e)

/-- The truth of the last term of a list. -/
def lastTermTrue (e : RuleEngine) (terms : List Term) : Bool :=
  match terms.getLast? with
  | some t => termTrue e t
  | none => false

/-- The condition of a rule (R49). An ORDER rule holds a completed sequence in FIRED and COOLDOWN only. -/
def condition (e : RuleEngine) (cfg : RuleConfig) (state : RuleState) : Bool :=
  match cfg.mode with
  | .any => decide (1 ≤ trueTerms e cfg.terms)
  | .all => trueTerms e cfg.terms == cfg.terms.length
  | .count n => decide (n ≤ trueTerms e cfg.terms)
  | .order => (state == .fired || state == .cooldown) && lastTermTrue e cfg.terms

/-- Term number `n` (counted from 1) rises from the copies `e` to the copies `e'` (R48). -/
def termRises (e e' : RuleEngine) (terms : List Term) (n : Nat) : Bool :=
  match terms[n - 1]? with
  | some t => decide (1 ≤ n) && !termTrue e t && termTrue e' t
  | none => false

/-- Some term of the list changes its truth from the copies `e` to the copies `e'` (R50). -/
def termsMove (e e' : RuleEngine) (terms : List Term) : Bool :=
  terms.any fun t => termTrue e t != termTrue e' t

/-- A rule has a term on this zone (R24, R50). -/
def namesZone (cfg : RuleConfig) (z : ZoneId) : Bool := cfg.terms.any fun t => t.operand == .zone z

/-- A rule has a term on this line (R50, R127). -/
def namesLine (cfg : RuleConfig) (l : LineId) : Bool := cfg.terms.any fun t => t.operand == .line l

/-- A rule has a LINE action on this line (R127). -/
def drivesLine (cfg : RuleConfig) (l : LineId) : Bool :=
  cfg.actions.any fun a => match a with
    | .line k _ => k == l
    | _ => false

/-- A rule has a SHOW action of this view (R78). -/
def showsView (cfg : RuleConfig) (v : ViewId) : Bool :=
  cfg.actions.any fun a => match a with
    | .showView w _ _ _ _ => w == v
    | _ => false

/-- Some defined rule has a property. -/
def anyRule (table : Vector (Option Rule) 24) (p : RuleConfig → Bool) : Bool :=
  table.toList.any fun o => match o with
    | some r => p r.cfg
    | none => false

/-! ### Showability (R79, R80) -/

/-- A view is showable: a tile names a camera whose copy is LOCKED (R79). -/
def viewShowable (s : Scheduler) (v : ViewId) : Bool :=
  match s.views.get v with
  | some cfg => cfg.tiles.any fun t => match t with
      | some c => s.camCopy.get c == .locked
      | none => false
  | none => false

/-- A rotation entry is showable: its dwell is above 0 and its view is showable (R80). -/
def entryShowable (s : Scheduler) (e : RotationEntry) : Bool := decide (0 < e.dwell) && viewShowable s e.view

/-- The rotation entry at a position is showable. -/
def positionShowable (s : Scheduler) (k : Nat) : Bool :=
  match s.rotation[k]? with
  | some e => entryShowable s e
  | none => false

/-- The search from k: the first showable entry among k, k + 1, … up to the last, then 0, … k − 1 (R80). -/
def search (s : Scheduler) (k : Nat) : Option Nat :=
  (List.range' k (s.rotation.length - k) ++ List.range (min k s.rotation.length)).find? (positionShowable s)

/-! ### Requests (R84) -/

/-- The top request: highest priority, and among those the earliest arrival (R84). The set is in arrival order. -/
def topRequest : List Request → Option Request
  | [] => none
  | r :: rs => match topRequest rs with
    | some t => if r.priority < t.priority then some t else some r
    | none => some r

/-- The eviction candidate: lowest priority, and among those the earliest arrival (R84). -/
def evictionCandidate : List Request → Option Request
  | [] => none
  | r :: rs => match evictionCandidate rs with
    | some t => if t.priority < r.priority then some t else some r
    | none => some r

/-- The request of an origin. -/
def requestOf (o : Origin) (rs : List Request) : Option Request := rs.find? fun r => r.origin == o

/-! ### Reports (R105–R107, R112) -/

/-- The kind of a report, from its detail (R106). -/
def reportKind (r : Report) : ReportKind :=
  match r.detail with
  | .camera .. => .camera
  | .zone .. => .zone
  | .rule .. => .rule
  | .contact .. => .contact
  | .screen .. => .screen
  | .request .. => .request
  | .relay .. => .relay
  | .profile .. => .profile
  | .session .. => .session

/-- The place of a kind in kind-code order (R184, R189). -/
def kindIndex : ReportKind → Fin 9
  | .camera => 0
  | .zone => 1
  | .rule => 2
  | .contact => 3
  | .screen => 4
  | .request => 5
  | .relay => 6
  | .profile => 7
  | .session => 8

/-- A report passes the filter (R107). -/
def passesFilter (f : Filter) (r : Report) : Bool :=
  (f.get (kindIndex (reportKind r))).enable && decide ((f.get (kindIndex (reportKind r))).minPriority ≤ r.priority)

/-- The overflow victim: the UNSENT record of lowest priority and, among those, the oldest (R112). -/
def victimOf : List Record → Option Record
  | [] => none
  | r :: rs => match victimOf rs with
    | some v => if r.mark == .unsent && decide (r.report.priority ≤ v.report.priority) then some r else some v
    | none => if r.mark == .unsent then some r else none

/-- The number of records marked SENDING or PUSHED (R119). -/
def inDelivery (rs : List Record) : Nat := rs.countP fun r => r.mark != .unsent

/-- The number of records marked PUSHED (R168). -/
def pushedCount (rs : List Record) : Nat := rs.countP fun r => r.mark == .pushed

/-- An offer made earlier reaches the queue before a later one (R101, R109, R204; log 8): offers of one block keep
their order; a REQUEST report of REPLACED or EVICTED precedes the SCREEN report of the choice that follows it; the
reports the blocks offer while taking their parts precede the RESTORED report. -/
def mustPrecede (earlier laterOne : Report) : Bool :=
  reportKind earlier == reportKind laterOne ||
  (match earlier.detail, laterOne.detail with
   | .request _ _ .replaced _ _, .screen .. => true
   | .request _ _ .evicted _ _, .screen .. => true
   | .request .., .profile .restored _ => true
   | .rule .., .profile .restored _ => true
   | .contact .., .profile .restored _ => true
   | .camera .., .profile .restored _ => true
   | _, _ => false)

/-! ### Contact lines (R126, R129, R134) -/

/-- The other level. -/
def otherLevel : Level → Level
  | .low => .high
  | .high => .low

/-- The other accepted state. -/
def otherState : LineState → LineState
  | .inactive => .active
  | .active => .inactive

/-- The level that an accepted state gives: the active level for ACTIVE, the other for INACTIVE (R129). -/
def levelOf (activeLevel : Level) : LineState → Level
  | .active => activeLevel
  | .inactive => otherLevel activeLevel

/-- An OUTPUT line is asserted when its drive is ON, or AUTO with a claimant or a pulse that lies in the future
(R134). -/
def lineAsserted (now : Time) (l : Line) : Bool :=
  match l.drive with
  | .on => true
  | .off => false
  | .auto => l.claimants.toList.any id || (match l.pulse with
      | some d => after d now
      | none => false)

/-- The level at a line's pin: driven in OUTPUT mode, else what the outside puts there (R126; log 26). -/
def pinLevel (ext : Level) (l : Line) : Level :=
  match l.mode with
  | .output => if l.asserted then l.activeLevel else otherLevel l.activeLevel
  | _ => ext

/-! ### Profile slots (R196, R198) -/

/-- The CRC-32 of a slot: over the two length bytes and then the contents (R196). -/
def slotCrc (length : Nat) (contents : SlotContents) : Word32 := crc32 (be16 length ++ contents.bytes)

/-- A slot's length and CRC are in order (R196). -/
def slotCrcGood (s : Slot) : Bool := decide (s.length ≤ 8182) && s.crc == slotCrc s.length s.contents

/-- A slot is valid (R196). -/
def slotValid (s : Slot) : Bool := s.generation != 0xFFFFFFFF && slotCrcGood s

/-- What the directory is to hold of a slot (R198). -/
def judgeSlot (s : Slot) : Option DirectoryEntry :=
  if slotValid s then some ⟨s.generation, s.length⟩ else none

/-- The newest valid slot: the higher generation, slot A when they are equal (R198). -/
def newestSlot (dirA dirB : Option DirectoryEntry) : Option SlotId :=
  match dirA, dirB with
  | none, none => none
  | some _, none => some .a
  | none, some _ => some .b
  | some a, some b => if a.generation.toNat < b.generation.toNat then some .b else some .a

end Sys2Proof.Machine
end

