-- ==== Sys2Proof/Machine/Codes.lean ====
section
/-! DEFINITION. The codes of named values (R188, R189) and the byte layouts the part sends: frames (R156, R188),
report records (R190), configured records and runtime blocks (R192–R194), the head link's request frame (R195). -/

namespace Sys2Proof.Machine

/-! ### Codes of named values (R189) -/

/-- A yes/no field (§9.11). -/
def yesNo (b : Bool) : Byte := if b then 1 else 0

/-- An optional number; none is sent as 0 and marked absent by a presence bit: in report details as R190 states, in the
zone and rule runtime blocks by log 28. -/
def orZero (n : Option Nat) : Nat := n.getD 0

/-- A presence byte: bit i says whether the i-th field is there. -/
def presence (bits : List Bool) : Byte := bits.foldr (fun b r => r <<< 1 ||| yesNo b) 0

def kindCode (k : ReportKind) : Byte := byte ((kindIndex k).val + 1)

def cameraStateCode : CameraState → Byte
  | .off => 0
  | .searching => 1
  | .locked => 2
  | .lost => 3

def standardCode : Option Standard → Byte
  | none => 0
  | some .s525 => 1
  | some .s625 => 2

def measureParityCode : MeasureParity → Byte
  | .odd => 0
  | .even => 1
  | .both => 2

def zoneStateCode : ZoneState → Byte
  | .off => 0
  | .blind => 1
  | .learning => 2
  | .quiet => 3
  | .active => 4

def zoneCauseCode : ZoneCause → Byte
  | .enabled => 1
  | .disabled => 2
  | .lost => 3
  | .seen => 4
  | .notVisible => 5
  | .reset => 6
  | .learned => 7
  | .onset => 8
  | .calm => 9
  | .stale => 10

def componentCode : Component → Byte
  | .y => 0
  | .cb => 1
  | .cr => 2

def causeBits (c : CauseFlags) : Byte := presence [c.onset, c.calm, c.stale, c.learned, c.lost]

def modeCode : Mode → Byte
  | .any => 0
  | .all => 1
  | .count _ => 2
  | .order => 3

/-- Count n for COUNT, 0 for the other modes (R193). -/
def modeCount : Mode → Nat
  | .count n => n
  | _ => 0

def ruleStateCode : RuleState → Byte
  | .disarmed => 0
  | .idle => 1
  | .stepping => 2
  | .fired => 3
  | .cooldown => 4

def termValueCode : TermValue → Byte
  | .false => 0
  | .true => 1
  | .unknown => 2

def ruleEventCode : RuleEvent → Byte
  | .fired => 1
  | .cleared => 2

def clearCauseCode : Option ClearCause → Byte
  | none => 0
  | some .cooldownEnd => 1
  | some .disarmed => 2
  | some .replaced => 3
  | some .dropped => 4
  | some .restored => 5

def originCode : Option Origin → Byte
  | some (.rule r) => byte r.val
  | some .host => 0xFF
  | none => 0xFE

def layoutCode : Layout → Byte
  | .single => 0
  | .quad => 1

def sourceStateCode : SourceState → Byte
  | .blank => 0
  | .rotating => 1
  | .request => 2
  | .hold => 3

def outcomeCode : RequestOutcome → Byte
  | .done => 1
  | .expired => 2
  | .withdrawn => 3
  | .evicted => 4
  | .replaced => 5
  | .refusedFull => 6
  | .restored => 7

def lineModeCode : LineMode → Byte
  | .unused => 0
  | .input => 1
  | .output => 2

def levelCode : Level → Byte
  | .low => 0
  | .high => 1

def driveCode : HostDrive → Byte
  | .auto => 0
  | .on => 1
  | .off => 2

def lineStateCode : LineState → Byte
  | .inactive => 0
  | .active => 1

def hostRateCode : HostRate → Byte
  | .r9600 => 0
  | .r38400 => 1
  | .r115200 => 2
  | .r460800 => 3

def headRateCode : HeadRate → Byte
  | .r19200 => 0
  | .r38400 => 1

def linkStateCode : LinkState → Byte
  | .idle => 0
  | .sending => 1
  | .awaitReply => 2
  | .gap => 3

def headOpCode : HeadOp → Byte
  | .recall _ => 1
  | .raw _ => 2

def relayResultCode : RelayResult → Byte
  | .ok => 1
  | .headRefused => 2
  | .noReply => 3
  | .badReply => 4
  | .cancelled => 5
  | .superseded => 6
  | .queueFull => 7

def failureCode : Option Failure → Nat
  | none => 0
  | some .noReply => 1
  | some .badReply => 2

def deliveryModeCode : DeliveryMode → Byte
  | .pull => 0
  | .push => 1

def sessionStateCode : SessionState → Byte
  | .closed => 0
  | .opened => 1

def sessionReasonCode : SessionReason → Byte
  | .silence => 1
  | .pushStalled => 2

def blockStateCode : BlockState → Byte
  | .idle => 0
  | .committing => 1
  | .restoring => 2
  | .erasing => 3

def profileEventCode : ProfileEvent → Byte
  | .loaded => 1
  | .factory => 2
  | .committed => 3
  | .commitFailed => 4
  | .restored => 5
  | .restoreFailed => 6
  | .erased => 7
  | .eraseFailed => 8

/-- Start-up source, and the source id of a PROFILE report: 0 for none, 1 for A, 2 for B (R105, R189). -/
def slotCode : Option SlotId → Nat
  | none => 0
  | some .a => 1
  | some .b => 2

def nakReasonCode : NakReason → Byte
  | .badCrc => 1
  | .badSeq => 2
  | .oversize => 3
  | .gap => 4

/-- The source id of a REQUEST or RELAY report (R105). -/
def originSource : Origin → Nat
  | .rule r => r.val
  | .host => 255

/-- A view, or FFh for BLANK or none. -/
def viewCode : Option ViewId → Byte
  | some v => byte v.val
  | none => 0xFF

/-! ### Host link frames (R156, R188) -/

/-- A frame as it stands on the line: A5h, LEN, SEQ, KIND, payload, CRC-16 (R156). -/
def buildFrame (seq kind : Byte) (payload : List Byte) : List Byte :=
  let covered := byte payload.length :: seq :: kind :: payload
  0xA5 :: covered ++ be16 (crc16 covered).toNat

/-- The CRC-16 of a frame with these fields (R156). -/
def frameCrc (seq kind : Byte) (payload : List Byte) : Half :=
  crc16 (byte payload.length :: seq :: kind :: payload)

/-- The kind of the reply to a command: its kind plus 80h, and FFh for a command of kind 80h–FFh (R156). -/
def replyKind (kind : Byte) : Byte := if kind.toNat < 128 then kind + 0x80 else 0xFF

/-- A frame of the immediate queue on the line (R160, R188). -/
def immediateBytes : ImmediateFrame → List Byte
  | .nak seq reason => buildFrame 0 0xF0 [seq, nakReasonCode reason]
  | .busy seq kind => buildFrame seq (replyKind kind) [0x08]

/-! ### Report records (R190) -/

/-- The preset of a RELAY report, FFh for RAW (R190). -/
def opPreset : HeadOp → Byte
  | .recall p => byte p.val
  | .raw _ => 0xFF

/-- The detail of a report record (R190). -/
def detailBytes : Detail → List Byte
  | .camera p n s c => [cameraStateCode p, cameraStateCode n, standardCode s, yesNo c]
  | .zone p n c s r d o =>
      [zoneStateCode p, zoneStateCode n, zoneCauseCode c, presence [s.isSome, r.isSome, d.isSome]]
        ++ be16 (orZero s) ++ be16 (orZero r) ++ be16 (orZero d) ++ be16 o
  | .rule e c m vs f =>
      [ruleEventCode e, clearCauseCode c, modeCode m, byte (modeCount m), byte vs.length]
        ++ vs.map termValueCode ++ be16 f
  | .contact p n => [lineStateCode p, lineStateCode n]
  | .screen s i o v =>
      [sourceStateCode s, (match i with | some k => byte k | none => 0xFF), originCode o, viewCode v]
  | .request v p o r a =>
      [byte v.val, byte p, outcomeCode o] ++ be16 r ++ be32 a.toNat
  | .relay t h op r a =>
      [presence [t.isSome], t.getD 0, byte h.val, headOpCode op, opPreset op, relayResultCode r, byte a]
  | .profile e g => [profileEventCode e, presence [g.isSome]] ++ be32 (g.getD 0).toNat
  | .session r m n => [sessionReasonCode r, deliveryModeCode m, byte n]

/-- A report record: a fixed head of 10 bytes and its detail (R190). -/
def recordBytes (r : Record) : List Byte :=
  be16 r.seq ++ be32 r.report.stamp.toNat
    ++ [kindCode (reportKind r.report), byte r.report.priority, byte r.report.source,
        byte (detailBytes r.report.detail).length]
    ++ detailBytes r.report.detail

/-- A REPORT frame: kind F1h, SEQ 0, the dropped total and one record (R191). -/
def reportFrame (dropped : Nat) (r : Record) : List Byte :=
  buildFrame 0 0xF1 (be16 dropped ++ recordBytes r)

/-! ### Configured records and runtime blocks -/

/-- The thirteen bytes of a class (R179). -/
def classBytes (k : ClassId) (c : SensClass) : List Byte :=
  [byte k.val] ++ be16 c.threshold ++ be16 c.darkFloor
    ++ [byte c.window, byte c.kOn, byte c.kOff, byte c.hold, byte c.learn, byte c.adapt] ++ be16 c.maxActive

/-- The zone payload (R192). -/
def zoneBytes (z : ZoneId) (c : ZoneConfig) : List Byte :=
  [byte z.val, byte (c.camera.val + 1), byte c.col0, byte c.row0, byte c.col1, byte c.row1,
    componentCode c.component, byte c.cls.val, yesNo c.enabled, causeBits c.causes, byte c.priority,
    byte c.label.length] ++ c.label ++ [0]

/-- The history of a zone as two bytes, bit 0 the newest entry (R192). -/
def historyBits (h : List Bool) : Nat := h.foldr (fun b n => 2 * n + b.toNat) 0

/-- The zone runtime block (R192). -/
def zoneRunBytes (r : ZoneRun) : List Byte :=
  [zoneStateCode r.state,
    presence [r.reference.isSome, r.lastS.isSome, r.lastD.isSome, r.lastCause.isSome]]
    ++ be16 (orZero r.reference) ++ [byte r.learnCount] ++ be16 (orZero r.lastS) ++ be16 (orZero r.lastD)
    ++ [byte r.history.length] ++ be16 (historyBits r.history) ++ be16 r.fieldsInState ++ be16 r.onsetCount
    ++ [(match r.lastCause with | some c => zoneCauseCode c | none => 0)] ++ be32 r.stamp.toNat

/-- One term of the rule payload (R193). -/
def termBytes (t : Term) : List Byte :=
  match t.operand with
  | .zone z => [(if t.negate then 0x81 else 0x01), byte z.val]
  | .line l => [(if t.negate then 0x82 else 0x02), byte (l.val + 1)]

/-- One action of the rule payload (R193). -/
def actionBytes : Action → List Byte
  | .report p c => [1, byte p, yesNo c]
  | .showView v p d l w => [2, byte v.val, byte p, byte d] ++ be16 l ++ [yesNo w]
  | .line l (.pulse n) => [3, byte (l.val + 1), 0, byte n]
  | .line l .latch => [3, byte (l.val + 1), 1, 0]
  | .recall h p => [4, byte h.val, byte p.val]

/-- The rule payload (R193). -/
def ruleBytes (r : RuleId) (c : RuleConfig) : List Byte :=
  [byte r.val, yesNo c.armed, modeCode c.mode, byte (modeCount c.mode), byte c.terms.length]
    ++ c.terms.flatMap termBytes ++ be16 c.window ++ be16 c.cooldown ++ [byte c.actions.length]
    ++ c.actions.flatMap actionBytes

/-- The deadline of the state a rule is in, step or cooldown (R73, R182). -/
def ruleDeadline (r : RuleRun) : Option Time :=
  match r.state with
  | .stepping => r.stepDeadline
  | .cooldown => r.cooldownDeadline
  | _ => none

/-- The rule runtime block (R193). -/
def ruleRunBytes (now : Time) (e : RuleEngine) (r : Rule) : List Byte :=
  [ruleStateCode r.run.state, byte (orZero r.run.step),
    presence [(ruleDeadline r.run).isSome, r.run.lastFired.isSome]]
    ++ be32 (orZero ((ruleDeadline r.run).map (remainingTo · now))) ++ be16 r.run.fireCount
    ++ be32 (r.run.lastFired.getD 0).toNat ++ r.cfg.terms.map (fun t => termValueCode (termValue e t))

/-- A tile: 0 empty, 1–6 the camera (R194). -/
def tileByte : Option CameraId → Byte
  | none => 0
  | some c => byte (c.val + 1)

/-- The view payload (R194). -/
def viewBytes (v : ViewId) (c : ViewConfig) : List Byte :=
  [byte v.val, layoutCode c.layout, byte c.tiles.length] ++ c.tiles.map tileByte
    ++ [byte c.title.length] ++ c.title

/-! ### Head link frames (R195) -/

/-- The body of a request frame (R139, R195). -/
def opBody : HeadOp → List Byte
  | .recall p => [byte p.val]
  | .raw bytes => bytes

/-- The request frame of a transaction: 5Ah, address, tag, operation, body length, body, CRC (R195). -/
def requestFrame (t : Transaction) : List Byte :=
  let covered := [byte t.head.val, t.tag.getD 0, headOpCode t.op, byte (opBody t.op).length] ++ opBody t.op
  0x5A :: covered ++ be16 (crc16 covered).toNat

end Sys2Proof.Machine
end

