-- ==== Sys2Proof/Machine/Operands.lean ====
section
/-! DEFINITION. The request fields of the host commands: each payload's shape test and then its range tests, in the
order of R174 and of the command's own table (R167, R178–R187, R192–R194). -/

namespace Sys2Proof.Machine

/-- A status with which a command is refused (R174, R175). RANGE names the field by its offset in the payload. -/
inductive Turndown where
  | malformed
  | range (index : Nat)
  | unknown
  | absent
  | inUse
  | full
  | busy
  | closed
  | state
  deriving DecidableEq, Repr

/-- The reply payload of a refusal: the status byte, and the field index for RANGE (R175, R188). -/
def turndownBytes : Turndown → List Byte
  | .malformed => [0x02]
  | .range i => [0x03, byte i]
  | .unknown => [0x04]
  | .absent => [0x05]
  | .inUse => [0x06]
  | .full => [0x07]
  | .busy => [0x08]
  | .closed => [0x09]
  | .state => [0x0A]

/-- A value that one test admits and every other turns down. -/
def require (c : Bool) (e : Turndown) : Except Turndown Unit := if c then .ok () else .error e

/-! ### Fields -/

/-- An identifier numbered from 0: zones, classes, rules, views, heads, presets (00_scope.md, Identifiers). -/
def idField (n : Nat) (b : Byte) (i : Nat) : Except Turndown (Fin n) :=
  if h : b.toNat < n then .ok ⟨b.toNat, h⟩ else .error (.range i)

/-- An identifier numbered from 1: cameras and lines. -/
def numberField (n : Nat) (b : Byte) (i : Nat) : Except Turndown (Fin n) :=
  if h : 1 ≤ b.toNat ∧ b.toNat ≤ n then .ok ⟨b.toNat - 1, by omega⟩ else .error (.range i)

/-- A whole number within a range. -/
def natField (lo hi v i : Nat) : Except Turndown Nat :=
  if lo ≤ v ∧ v ≤ hi then .ok v else .error (.range i)

/-- A yes/no field: 00h or 01h (R174, §9.11). -/
def yesNoField (b : Byte) (i : Nat) : Except Turndown Bool :=
  match b.toNat with
  | 0 => .ok false
  | 1 => .ok true
  | _ => .error (.range i)

def measureParityField (b : Byte) (i : Nat) : Except Turndown MeasureParity :=
  match b.toNat with
  | 0 => .ok .odd
  | 1 => .ok .even
  | 2 => .ok .both
  | _ => .error (.range i)

def componentField (b : Byte) (i : Nat) : Except Turndown Component :=
  match b.toNat with
  | 0 => .ok .y
  | 1 => .ok .cb
  | 2 => .ok .cr
  | _ => .error (.range i)

/-- The report causes: no bit outside the five (R180, R189). -/
def causesField (b : Byte) (i : Nat) : Except Turndown CauseFlags :=
  if b.toNat < 32 then
    .ok ⟨b.getLsbD 0, b.getLsbD 1, b.getLsbD 2, b.getLsbD 3, b.getLsbD 4⟩
  else .error (.range i)

def lineModeField (b : Byte) (i : Nat) : Except Turndown LineMode :=
  match b.toNat with
  | 0 => .ok .unused
  | 1 => .ok .input
  | 2 => .ok .output
  | _ => .error (.range i)

def levelField (b : Byte) (i : Nat) : Except Turndown Level :=
  match b.toNat with
  | 0 => .ok .low
  | 1 => .ok .high
  | _ => .error (.range i)

def driveField (b : Byte) (i : Nat) : Except Turndown HostDrive :=
  match b.toNat with
  | 0 => .ok .auto
  | 1 => .ok .on
  | 2 => .ok .off
  | _ => .error (.range i)

def hostRateField (b : Byte) (i : Nat) : Except Turndown HostRate :=
  match b.toNat with
  | 0 => .ok .r9600
  | 1 => .ok .r38400
  | 2 => .ok .r115200
  | 3 => .ok .r460800
  | _ => .error (.range i)

def headRateField (b : Byte) (i : Nat) : Except Turndown HeadRate :=
  match b.toNat with
  | 0 => .ok .r19200
  | 1 => .ok .r38400
  | _ => .error (.range i)

def deliveryModeField (b : Byte) (i : Nat) : Except Turndown DeliveryMode :=
  match b.toNat with
  | 0 => .ok .pull
  | 1 => .ok .push
  | _ => .error (.range i)

/-- The characters of a label or title are codes 20h–7Eh (§9.11). -/
def charsGood (cs : List Byte) : Bool := cs.all fun c => decide (0x20 ≤ c.toNat) && decide (c.toNat ≤ 0x7E)

/-- A label or title of at most 12 characters; a bad one is named by its length byte (R180, R183, §9.11). -/
def textField (cs : List Byte) (i : Nat) : Except Turndown (List Byte) :=
  if decide (cs.length ≤ 12) && charsGood cs then .ok cs else .error (.range i)

/-! ### Commands without fields, and with one identifier -/

/-- A command that carries no payload (R177, R178). -/
def parseNone (p : List Byte) : Except Turndown Unit := require p.isEmpty .malformed

/-- One identifier numbered from 0. -/
def parseId (n : Nat) : List Byte → Except Turndown (Fin n)
  | [b] => idField n b 0
  | _ => .error .malformed

/-- One identifier numbered from 1. -/
def parseNumber (n : Nat) : List Byte → Except Turndown (Fin n)
  | [b] => numberField n b 0
  | _ => .error .malformed

/-- One byte of any value. -/
def parseByte : List Byte → Except Turndown Byte
  | [b] => .ok b
  | _ => .error .malformed

/-- One 16-bit field of any value. -/
def parseWord : List Byte → Except Turndown Nat
  | [h, l] => .ok (word16 h l)
  | _ => .error .malformed

/-! ### Session commands (R167, R178) -/

/-- The request fields of OPEN. -/
structure OpenRequest where
  mode : DeliveryMode
  window : Nat
  retransmit : Nat
  silence : Nat
  deriving DecidableEq, Repr

def parseOpen : List Byte → Except Turndown OpenRequest
  | [m, w, r1, r0, s] => do
      let mode ← deliveryModeField m 0
      let window ← natField 1 8 w.toNat 1
      let retransmit ← natField 10 1000 (word16 r1 r0) 2
      return ⟨mode, window, retransmit, s.toNat⟩
  | _ => .error .malformed

def parseSetLink : List Byte → Except Turndown HostRate
  | [b] => hostRateField b 0
  | _ => .error .malformed

/-! ### Cameras and classes (R20, R179) -/

def parseSetCamera : List Byte → Except Turndown (CameraId × CameraConfig)
  | [c, e, m] => do
      let c ← numberField 6 c 0
      let e ← yesNoField e 1
      let m ← measureParityField m 2
      return (c, ⟨e, m⟩)
  | _ => .error .malformed

/-- SET_CLASS: the nine fields in order, K_on against the new W and K_off against the new K_on (R20). -/
def parseSetClass : List Byte → Except Turndown (ClassId × SensClass)
  | [k, t1, t0, d1, d0, w, on, off, h, l, a, m1, m0] => do
      let k ← idField 8 k 0
      let threshold ← natField 5 999 (word16 t1 t0) 1
      let darkFloor ← natField 1 4080 (word16 d1 d0) 3
      let window ← natField 1 16 w.toNat 5
      let kOn ← natField 1 window on.toNat 6
      let kOff ← natField 0 (kOn - 1) off.toNat 7
      let learn ← natField 1 64 l.toNat 9
      let adapt ← natField 0 8 a.toNat 10
      return (k, { threshold := threshold, darkFloor := darkFloor, window := window, kOn := kOn, kOff := kOff
                   hold := h.toNat, learn := learn, adapt := adapt, maxActive := word16 m1 m0 })
  | _ => .error .malformed

/-! ### Zones (R180, R192) -/

/-- PUT_ZONE: 13 bytes and the label; the range tests in payload order (R180). -/
def parseZone : List Byte → Except Turndown (ZoneId × ZoneConfig)
  | z :: cam :: c0 :: r0 :: c1 :: r1 :: k :: cls :: en :: causes :: prio :: len :: rest => do
      require (rest.length == len.toNat + 1) .malformed
      let z ← idField 48 z 0
      let cam ← numberField 6 cam 1
      let col0 ← natField 0 89 c0.toNat 2
      let row0 ← natField 0 71 r0.toNat 3
      let col1 ← natField col0 89 c1.toNat 4
      let row1 ← natField row0 71 r1.toNat 5
      let k ← componentField k 6
      let cls ← idField 8 cls 7
      let en ← yesNoField en 8
      let causes ← causesField causes 9
      let prio ← natField 0 3 prio.toNat 10
      let label ← textField (rest.take len.toNat) 11
      require (rest.drop len.toNat == [0]) (.range (12 + len.toNat))
      return (z, { camera := cam, col0 := col0, row0 := row0, col1 := col1, row1 := row1, component := k
                   cls := cls, enabled := en, causes := causes, priority := prio, label := label })
  | _ => .error .malformed

/-! ### Rules (R67, R181, R193) -/

/-- An action as its bytes stand, before any range test. -/
inductive RawAction where
  | report (priority clearReport : Byte)
  | showView (view priority dwell : Byte) (lifetime : Nat) (withdraw : Byte)
  | line (l form duration : Byte)
  | recall (head preset : Byte)
  deriving DecidableEq, Repr

/-- A rule payload of good shape, before any range test. -/
structure RawRule where
  rule : Byte
  armed : Byte
  mode : Byte
  count : Byte
  terms : List (Byte × Byte)
  window : Nat
  cooldown : Nat
  actions : List RawAction
  deriving DecidableEq, Repr

/-- The type of a term: bits 0–6 of its type byte (R189). -/
def termType (t : Byte) : Nat := (t &&& 0x7F).toNat

/-- So many terms at the head of the bytes, each of type ZONE or LINE (R181). -/
def readTerms : Nat → List Byte → Option (List (Byte × Byte) × List Byte)
  | 0, rest => some ([], rest)
  | n + 1, t :: o :: rest =>
      if termType t == 1 || termType t == 2 then
        (readTerms n rest).map fun (ts, r) => ((t, o) :: ts, r)
      else none
  | _, _ => none

/-- One action at the head of the bytes, by its type (R193). -/
def readAction : List Byte → Option (RawAction × List Byte)
  | t :: rest =>
      match t.toNat, rest with
      | 1, p :: c :: r => some (.report p c, r)
      | 2, v :: p :: d :: l1 :: l0 :: w :: r => some (.showView v p d (word16 l1 l0) w, r)
      | 3, l :: f :: d :: r => some (.line l f d, r)
      | 4, h :: p :: r => some (.recall h p, r)
      | _, _ => none
  | [] => none

/-- So many actions at the head of the bytes. -/
def readActions : Nat → List Byte → Option (List RawAction × List Byte)
  | 0, rest => some ([], rest)
  | n + 1, bytes => do
      let (a, rest) ← readAction bytes
      let (as, r) ← readActions n rest
      return (a :: as, r)

def isReport : RawAction → Bool
  | .report .. => true
  | _ => false

def isShow : RawAction → Bool
  | .showView .. => true
  | _ => false

/-- The shape tests of PUT_RULE (R67, R181). -/
def shapeRule : List Byte → Option RawRule
  | rule :: armed :: mode :: count :: n :: rest => do
      guard (1 ≤ n.toNat ∧ n.toNat ≤ 4)
      let (terms, rest) ← readTerms n.toNat rest
      match rest with
      | w1 :: w0 :: c1 :: c0 :: m :: rest => do
          guard (m.toNat ≤ 3)
          let (actions, left) ← readActions m.toNat rest
          guard (left.isEmpty ∧ actions.countP isReport ≤ 1 ∧ actions.countP isShow ≤ 1)
          guard (if mode.toNat = 2 then count.toNat ≠ 0 else count.toNat = 0)
          return ⟨rule, armed, mode, count, terms, word16 w1 w0, word16 c1 c0, actions⟩
      | _ => none
  | _ => none

/-- The mode and count fields (R67, R181): ORDER with fewer than 2 terms names the mode, COUNT n above the term
count names the count. -/
def modeField (mode count : Byte) (terms : Nat) : Except Turndown Mode :=
  match mode.toNat with
  | 0 => .ok .any
  | 1 => .ok .all
  | 2 => if 1 ≤ count.toNat ∧ count.toNat ≤ terms then .ok (.count count.toNat) else .error (.range 3)
  | 3 => if 2 ≤ terms then .ok .order else .error (.range 2)
  | _ => .error (.range 2)

/-- One term at its offset: the operand's range by its type (R67). -/
def termField (t o : Byte) (i : Nat) : Except Turndown Term :=
  if termType t == 1 then do
    let z ← idField 48 o (i + 1)
    return ⟨.zone z, t.getLsbD 7⟩
  else do
    let l ← numberField 8 o (i + 1)
    return ⟨.line l, t.getLsbD 7⟩

def termFields : List (Byte × Byte) → Nat → Except Turndown (List Term)
  | [], _ => .ok []
  | (t, o) :: rest, i => do
      let term ← termField t o i
      let terms ← termFields rest (i + 2)
      return term :: terms

/-- One action at its offset (R67, R181). -/
def actionField (a : RawAction) (i : Nat) : Except Turndown Action :=
  match a with
  | .report p c => do
      let p ← natField 0 3 p.toNat (i + 1)
      let c ← yesNoField c (i + 2)
      return .report p c
  | .showView v p d l w => do
      let v ← idField 12 v (i + 1)
      let p ← natField 1 7 p.toNat (i + 2)
      let d ← natField 1 255 d.toNat (i + 3)
      let l ← natField d 3600 l (i + 4)
      let w ← yesNoField w (i + 6)
      return .showView v p d l w
  | .line l f d => do
      let l ← numberField 8 l (i + 1)
      match f.toNat with
      | 0 => do
          let n ← natField 1 255 d.toNat (i + 3)
          return .line l (.pulse n)
      | 1 => do
          let _ ← natField 0 0 d.toNat (i + 3)
          return .line l .latch
      | _ => .error (.range (i + 2))
  | .recall h p => do
      let h ← idField 16 h (i + 1)
      let p ← idField 64 p (i + 2)
      return .recall h p

/-- The bytes an action takes (R193). -/
def actionSize : RawAction → Nat
  | .report .. => 3
  | .showView .. => 7
  | .line .. => 4
  | .recall .. => 3

def actionFields : List RawAction → Nat → Except Turndown (List Action)
  | [], _ => .ok []
  | a :: rest, i => do
      let act ← actionField a i
      let acts ← actionFields rest (i + actionSize a)
      return act :: acts

/-- The range tests of PUT_RULE in payload order (R67, R181). -/
def rangeRule (r : RawRule) : Except Turndown (RuleId × RuleConfig) := do
  let id ← idField 24 r.rule 0
  let armed ← yesNoField r.armed 1
  let mode ← modeField r.mode r.count r.terms.length
  let terms ← termFields r.terms 5
  let window ← natField 1 65535 r.window (5 + 2 * r.terms.length)
  let actions ← actionFields r.actions (10 + 2 * r.terms.length)
  return (id, { armed := armed, mode := mode, terms := terms, window := window, cooldown := r.cooldown
                actions := actions })

/-- PUT_RULE: shape, then ranges (R67, R181). -/
def parseRule (p : List Byte) : Except Turndown (RuleId × RuleConfig) :=
  match shapeRule p with
  | some r => rangeRule r
  | none => .error .malformed

def parseArmRule : List Byte → Except Turndown (RuleId × Bool)
  | [r, a] => do
      let r ← idField 24 r 0
      let a ← yesNoField a 1
      return (r, a)
  | _ => .error .malformed

/-! ### Views and the screen (R183, R194) -/

/-- A tile: 0 empty, 1–6 the camera (R183). -/
def tileField (b : Byte) (i : Nat) : Except Turndown (Option CameraId) :=
  if b.toNat = 0 then .ok none else (numberField 6 b i).map some

def tileFields : List Byte → Nat → Except Turndown (List (Option CameraId))
  | [], _ => .ok []
  | b :: rest, i => do
      let t ← tileField b i
      let ts ← tileFields rest (i + 1)
      return t :: ts

/-- The layout code and the tile count it asks for (R77). -/
def layoutOf (layout count : Byte) : Option Layout :=
  match layout.toNat, count.toNat with
  | 0, 1 => some .single
  | 1, 4 => some .quad
  | _, _ => none

/-- PUT_VIEW (R77, R183). -/
def parseView : List Byte → Except Turndown (ViewId × ViewConfig)
  | v :: layout :: n :: rest =>
      match layoutOf layout n, rest.drop n.toNat with
      | some lay, len :: title => do
          require (title.length == len.toNat) .malformed
          let v ← idField 12 v 0
          let tiles ← tileFields (rest.take n.toNat) 3
          let title ← textField title (3 + n.toNat)
          return (v, ⟨lay, tiles, title⟩)
      | _, _ => .error .malformed
  | _ => .error .malformed

/-- The entries of SET_ROTATION as pairs of bytes. -/
def readPairs : List Byte → Option (List (Byte × Byte))
  | [] => some []
  | v :: d :: rest => (readPairs rest).map ((v, d) :: ·)
  | _ => none

def rotationFields : List (Byte × Byte) → Nat → Except Turndown (List RotationEntry)
  | [], _ => .ok []
  | (v, d) :: rest, i => do
      let v ← idField 12 v i
      let es ← rotationFields rest (i + 2)
      return ⟨v, d.toNat⟩ :: es

/-- SET_ROTATION (R81, R183). -/
def parseRotation : List Byte → Except Turndown (List RotationEntry)
  | n :: rest => do
      require (decide (n.toNat ≤ 16)) .malformed
      match readPairs rest with
      | some pairs => do
          require (pairs.length == n.toNat) .malformed
          rotationFields pairs 1
      | none => .error .malformed
  | [] => .error .malformed

def parseMinShow : List Byte → Except Turndown Nat
  | [h, l] => natField 0 255 (word16 h l) 0
  | _ => .error .malformed

/-- The request fields of SHOW_VIEW (R183). -/
def parseShow : List Byte → Except Turndown ViewRequest
  | [v, p, d, l1, l0] => do
      let v ← idField 12 v 0
      let p ← natField 1 7 p.toNat 1
      let d ← natField 1 255 d.toNat 2
      let l ← natField d 3600 (word16 l1 l0) 3
      return { origin := .host, view := v, priority := p, dwell := d, lifetime := l }
  | _ => .error .malformed

/-! ### Reports (R184) -/

def filterFields : List Byte → Nat → Except Turndown (List FilterEntry)
  | e :: m :: rest, i => do
      let e ← yesNoField e i
      let m ← natField 0 3 m.toNat (i + 1)
      let es ← filterFields rest (i + 2)
      return ⟨e, m⟩ :: es
  | _, _ => .ok []

/-- SET_FILTER: 18 bytes in kind-code order (R184). -/
def parseFilter (p : List Byte) : Except Turndown Filter := do
  require (p.length == 18) .malformed
  let es ← filterFields p 0
  if h : es.length = 9 then return ⟨es.toArray, by simpa using h⟩ else .error .malformed

/-! ### Contact lines (R185) -/

def parseSetLine : List Byte → Except Turndown (LineId × LineConfig)
  | [l, m, a, d] => do
      let l ← numberField 8 l 0
      let m ← lineModeField m 1
      let a ← levelField a 2
      return (l, ⟨m, a, d.toNat⟩)
  | _ => .error .malformed

def parseDriveLine : List Byte → Except Turndown (LineId × HostDrive)
  | [l, d] => do
      let l ← numberField 8 l 0
      let d ← driveField d 1
      return (l, d)
  | _ => .error .malformed

/-! ### Head link (R186) -/

def parseHeadlink : List Byte → Except Turndown HeadSettings
  | [r, t, n, g] => do
      let r ← headRateField r 0
      let t ← natField 2 255 t.toNat 1
      let n ← natField 0 3 n.toNat 2
      let g ← natField 1 50 g.toNat 3
      return ⟨r, t, n, g⟩
  | _ => .error .malformed

/-- RELAY: a head address and a RECALL of one preset or a RAW message of 1–32 bytes (R141, R186). -/
def parseRelay : List Byte → Except Turndown (HeadAddr × HeadOp)
  | h :: op :: x :: rest =>
      match op.toNat with
      | 1 => do
          require rest.isEmpty .malformed
          let h ← idField 16 h 0
          let p ← idField 64 x 2
          return (h, .recall p)
      | 2 => do
          require (decide (1 ≤ x.toNat) && decide (x.toNat ≤ 32) && rest.length == x.toNat) .malformed
          let h ← idField 16 h 0
          return (h, .raw rest)
      | _ => .error .malformed
  | _ => .error .malformed

/-! ### Profile (R187) -/

/-- The selector of RESTORE: none for NEWEST (R187, R189). -/
def parseSelector : List Byte → Except Turndown (Option SlotId)
  | [b] => match b.toNat with
      | 0 => .ok none
      | 1 => .ok (some .a)
      | 2 => .ok (some .b)
      | _ => .error (.range 0)
  | _ => .error .malformed

end Sys2Proof.Machine
end

