-- ==== Sys2Proof/Machine/Ops.lean ====
section
/-! DEFINITION. The named operations the families share: table entries, messages put on the paths between blocks,
reports offered, free values, parts of a restored profile, the transmitter's choice of a frame, and the taking of a
host command. -/

namespace Sys2Proof.Machine

/-! ### Table entries -/

/-- A table with one entry replaced. -/
def upd {α : Type} {n : Nat} (v : Vector α n) (i : Fin n) (x : α) : Vector α n := v.set i.val x i.isLt

/-- Every identifier of a table in ascending order. -/
def allIds (n : Nat) : List (Fin n) := List.finRange n

/-- A count that saturates at 65535 (R38, R53, R113). -/
def bump (n : Nat) : Nat := if n < 65535 then n + 1 else n

/-! ### State updates, one per block -/

def State.setNow (s : State) (x : Time) : State := { s with now := x }
def State.setCams (s : State) (x : Vector Camera 6) : State := { s with cams := x }
def State.setExtPins (s : State) (x : Vector Level 8) : State := { s with extPins := x }
def State.setZones (s : State) (x : ZoneEngine) : State := { s with zoneEngine := x }
def State.setRules (s : State) (x : RuleEngine) : State := { s with ruleEngine := x }
def State.setSched (s : State) (x : Scheduler) : State := { s with sched := x }
def State.setComp (s : State) (x : Compositor) : State := { s with comp := x }
def State.setReports (s : State) (x : ReportQueue) : State := { s with reports := x }
def State.setLines (s : State) (x : Vector Line 8) : State := { s with lines := x }
def State.setHead (s : State) (x : HeadLink) : State := { s with head := x }
def State.setLink (s : State) (x : HostLink) : State := { s with link := x }
def State.setStore (s : State) (x : ProfileStore) : State := { s with store := x }
def State.setWires (s : State) (x : Wires) : State := { s with wires := x }
def State.setFresh (s : State) (x : Nat) : State := { s with fresh := x }
def State.setPending (s : State) (x : List Instr) : State := { s with pending := x }

/-- One camera's record replaced. -/
def State.setCam (s : State) (c : CameraId) (x : Camera) : State := s.setCams (upd s.cams c x)

/-- One zone's entry replaced. -/
def State.setZone (s : State) (z : ZoneId) (x : Option Zone) : State :=
  s.setZones { s.zoneEngine with table := upd s.zoneEngine.table z x }

/-- One rule's entry replaced. -/
def State.setRule (s : State) (r : RuleId) (x : Option Rule) : State :=
  s.setRules { s.ruleEngine with table := upd s.ruleEngine.table r x }

/-- One line's record replaced. -/
def State.setLine (s : State) (l : LineId) (x : Line) : State := s.setLines (upd s.lines l x)

/-! ### Messages put on the paths between blocks -/

/-- A report is offered to the report queue (R109). -/
def State.offer (s : State) (r : Report) : State := s.setWires { s.wires with offers := s.wires.offers ++ [r] }

/-- A camera sends the zone engine a message (R11). -/
def State.tellZones (s : State) (c : CameraId) (m : CameraMessage) : State :=
  s.setWires { s.wires with camToZones := upd s.wires.camToZones c (s.wires.camToZones.get c ++ [m]) }

/-- The place of the notice of a restored record among such notices (R44). -/
def restoredPlace : CameraMessage → Option Nat
  | .restored place _ => some place
  | .notice _ => none
  | .summary _ => none

/-- The places of the notices of restored records that are on their way to the zone engine, of any camera (R44). -/
def restoredPlaces (s : State) : List Nat := s.wires.camToZones.toList.flatten.filterMap restoredPlace

/-- The place of the next notice of a restored record: behind those on their way (R44; log 10). -/
def nextPlace (s : State) : Nat := (restoredPlaces s).foldl max 0 + 1

/-- No notice of a restored record that was made earlier is on its way (R44). -/
def takenNext (place : Nat) (s : State) : Bool := (restoredPlaces s).all (place ≤ ·)

/-- A camera sends the scheduler a notice (R11). -/
def State.tellSched (s : State) (c : CameraId) (n : CameraNotice) : State :=
  s.setWires { s.wires with camToSched := upd s.wires.camToSched c (s.wires.camToSched.get c ++ [n]) }

/-- The zone engine sends the rule engine a message (R41, R44). -/
def State.tellRules (s : State) (m : ZoneMessage) : State :=
  s.setWires { s.wires with zonesToRules := s.wires.zonesToRules ++ [m] }

/-- The contact block sends the rule engine a line transition (R131). -/
def State.tellLine (s : State) (t : LineChange) : State :=
  s.setWires { s.wires with
    linesToRules := upd s.wires.linesToRules t.line (s.wires.linesToRules.get t.line ++ [t]) }

/-- The rule engine sends the scheduler a view request (R64). -/
def State.sendRequest (s : State) (q : ViewRequest) : State :=
  s.setWires { s.wires with requests := s.wires.requests ++ [q] }

/-- The rule engine sends the scheduler a withdrawal (R57). -/
def State.sendWithdrawal (s : State) (o : Origin) : State :=
  s.setWires { s.wires with withdrawals := s.wires.withdrawals ++ [o] }

/-- The rule engine sends the contact block a claim or a drop (R57, R65). -/
def State.sendClaim (s : State) (c : Claim) : State :=
  s.setWires { s.wires with claims := s.wires.claims ++ [c] }

/-- The rule engine sends the head link controller a recall (R66). -/
def State.sendRecall (s : State) (r : Recall) : State :=
  s.setWires { s.wires with recalls := s.wires.recalls ++ [r] }

/-- The scheduler sends the compositor a presentation (R98). -/
def State.sendPresentation (s : State) (p : Presentation) : State :=
  s.setWires { s.wires with presentations := s.wires.presentations ++ [p] }

/-! ### Free values -/

/-- The next argument of a free value is used up. -/
def State.tickFresh (s : State) : State := s.setFresh (s.fresh + 1)

/-- Three field periods of a standard in time base counts (R4): 60.00 ms are 6; of 50.05 ms, 5 or 6 (log 5). -/
def fieldSpan (st : Standard) (fresh : Nat) : Nat :=
  match st with
  | .s625 => 6
  | .s525 => if Config.spanRoundsUp fresh then 6 else 5

/-! ### Parts of a restored profile (R204) -/

/-- A block takes its part of the profile being applied, as one event, and gives the store notice. Where the part
has not been handed to it, there is no such event. -/
def takePart (part : Part) (f : Profile → State → State) (s : State) : State :=
  match s.store.applying with
  | some p =>
      if part ∈ s.store.handed then
        let s1 := f p s
        s1.setStore { s1.store with
          handed := s1.store.handed.erase part, notices := s1.store.notices ++ [part] }
      else s
  | none => s

/-! ### The transmitter (R119, R165) -/

/-- The record of a sequence. -/
def recordOf (seq : Nat) (rs : List Record) : Option Record := rs.find? fun r => r.seq == seq

/-- The oldest UNSENT record. -/
def oldestUnsent (rs : List Record) : Option Record := rs.find? fun r => r.mark == .unsent

/-- The frame due: the record the report queue names for transmission, and whether it is a resend (R119). After a
stall it sends nothing until the session is closed or opened again (R122; log 11). -/
def frameDue (q : ReportQueue) (stalled : Bool) : Option (Record × Bool) :=
  if q.delivery.session == .opened && q.delivery.mode == .push && !stalled then
    match q.delivery.round with
    | some (n :: _) => (recordOf n q.records).map (·, true)
    | some [] => none
    | none =>
        if inDelivery q.records < q.delivery.window then (oldestUnsent q.records).map (·, false) else none
  else none

/-- The delivery mark of the record of a sequence is set. -/
def markRecord (seq : Nat) (m : DeliveryMark) : List Record → List Record
  | [] => []
  | r :: rs => if r.seq = seq then { r with mark := m } :: rs else r :: markRecord seq m rs

/-- The report queue at the start of a REPORT frame's transmission (R119): a resend leaves the round, a first send
is marked SENDING. -/
def startReport (q : ReportQueue) (r : Record) (resend : Bool) : ReportQueue :=
  if resend then
    { q with delivery := { q.delivery with round := q.delivery.round.map List.tail } }
  else { q with records := markRecord r.seq .sending q.records }

/-- The oldest UNSENT entry of the reply cache is marked SENDING; its frame is given with the cache (R165). -/
def startReply : List CacheEntry → Option (List Byte × List CacheEntry)
  | [] => none
  | e :: es =>
      if e.mark == .unsent then some (e.frame, { e with mark := .sending } :: es)
      else (startReply es).map fun (f, es') => (f, e :: es')

/-- The transmit arbiter: when the transmitter is free it takes the first source that has a frame, in the order
immediate queue, reply cache, report queue, and starts it (R165). -/
def State.kick (s : State) : State :=
  match s.link.tx with
  | some _ => s
  | none =>
      match s.link.immediate with
      | f :: fs => s.setLink { s.link with immediate := fs, tx := some ⟨immediateBytes f, .immediate, s.link.rate⟩ }
      | [] =>
          match startReply s.link.cache with
          | some (bytes, cache) => s.setLink { s.link with cache := cache, tx := some ⟨bytes, .reply, s.link.rate⟩ }
          | none =>
              match frameDue s.reports s.wires.stall with
              | some (r, resend) =>
                  (s.setReports (startReport s.reports r resend)).setLink
                    { s.link with
                      tx := some ⟨reportFrame s.reports.dropped r, .report r.seq resend, s.link.rate⟩ }
              | none => s

/-! ### The immediate queue (R160) -/

/-- A frame is offered to the immediate queue: it enters when the queue holds fewer than 4 (R160). -/
def offerImmediate (f : ImmediateFrame) (l : HostLink) : HostLink :=
  if l.immediate.length < 4 then { l with immediate := l.immediate ++ [f] } else l

/-! ### The taking of a host command (R164, R174, R175) -/

/-- The answer to a command: the reply payload, and what the completion of the reply brings about. -/
structure Answer where
  payload : List Byte
  post : Option PostAction
  deriving DecidableEq, Repr

/-- Status OK with its success fields (R175). -/
def answerOk (fields : List Byte) : Answer := ⟨0x00 :: fields, none⟩

/-- Status ACCEPTED with its fields (R175). -/
def answerAccepted (fields : List Byte) : Answer := ⟨0x01 :: fields, none⟩

/-- A refusal (R175). -/
def answerRefused (t : Turndown) : Answer := ⟨turndownBytes t, none⟩

/-- A command as the processor judges and applies it: from its payload and the state, its answer and the state
after it. -/
abbrev Judgement := List Byte → State → Answer × State

/-- A command that its payload's tests admit, or turn down without any effect (R174). -/
def judged {α : Type} (parse : List Byte → Except Turndown α) (apply : α → State → Answer × State) : Judgement :=
  fun p s =>
    match parse p with
    | .ok x => apply x s
    | .error t => (answerRefused t, s)

/-- A configuration command is refused BUSY while the store is RESTORING or ERASING, before its shape is tested
(R174, R176). -/
def configuration (j : Judgement) : Judgement := fun p s =>
  if s.store.block == .restoring || s.store.block == .erasing then (answerRefused .busy, s) else j p s

/-- The conditions under which the controller hands on its oldest frame (R164). -/
def takeable (l : HostLink) : Bool :=
  (decide (l.cache.length < 4) || (match l.cache with
    | e :: _ => e.mark == .sent
    | [] => false)) && !l.restartPending

/-- A reply enters the cache as its newest entry, marked UNSENT; when the cache holds 4 the oldest is removed
(R163). -/
def cacheReply (f : Frame) (a : Answer) (l : HostLink) : HostLink :=
  { l with cache := (if l.cache.length < 4 then l.cache else l.cache.tail)
      ++ [⟨f.seq, f.crc, buildFrame f.seq (replyKind f.kind) a.payload, .unsent, a.post⟩] }

/-- One taking (R164): the frame leaves the command queue; in a CLOSED session a command other than HELLO and OPEN
is answered CLOSED; otherwise the command is judged and applied; its reply enters the cache. Then the transmitter
chooses, if it is free (R165). -/
def takeFrame (anySession : Bool) (j : Judgement) (f : Frame) (rest : List Frame) (s : State) : State :=
  let s1 := s.setLink { s.link with commands := rest }
  let (a, s2) :=
    if s.link.session.state == .closed && !anySession then (answerRefused .closed, s1) else j f.payload s1
  (s2.setLink (cacheReply f a s2.link)).kick

/-- The taking of a command whose kind passes a test: it happens when the oldest frame waiting is such a command
and the conditions of R164 hold; otherwise there is no such event (log 2). -/
def takeWhen (kindTest : Byte → Bool) (anySession : Bool) (j : Judgement) (s : State) : State :=
  match s.link.commands with
  | f :: rest => if kindTest f.kind && takeable s.link then takeFrame anySession j f rest s else s
  | [] => s

/-- The taking of the command of one kind, in an OPEN session only. -/
def takeKind (kind : Byte) (j : Judgement) (s : State) : State := takeWhen (· == kind) false j s

/-- The outcome of a command of the part: always a next state. -/
abbrev Result := Host.Outcome State Fault Refusal

end Sys2Proof.Machine
end

