-- ==== Sys2Proof/Machine/Cameras.lean ====
section
/-! DEFINITION. The camera inputs (chapter 01): the camera record and its transitions, the good-field run, field
summaries, and the commands SET_CAMERA and GET_CAMERA. -/

namespace Sys2Proof.Machine

/-- The CAMERA report of a transition (R12). -/
def cameraReport (c : CameraId) (old new : Camera) (changed : Bool) : Report :=
  { stamp := new.stamp, priority := 2, source := c.val + 1
    detail := .camera old.state new.state new.standard changed }

/-- A camera makes the transition to a new record: the time is its stamp, one notice goes to the zone engine, in the
message given, and one to the scheduler, and a CAMERA report is offered (R11, R12). -/
def sendTransition (message : CameraNotice → CameraMessage) (c : CameraId) (new : Camera) (changed : Bool)
    (s : State) : State :=
  let old := s.cams.get c
  let cam := { new with stamp := s.now }
  let notice : CameraNotice := ⟨old.state, cam.state, cam.standard⟩
  (((s.setCam c cam).tellZones c (message notice)).tellSched c notice).offer (cameraReport c old cam changed)

/-- The transition of a camera outside the application of a restored profile (R11, R12). -/
def cameraTransition (c : CameraId) (new : Camera) (changed : Bool) (s : State) : State :=
  sendTransition .notice c new changed s

/-- A camera record without a good-field run (R5). -/
def clearRun (cam : Camera) : Camera := { cam with runCount := 0, runStandard := none, runDeadline := none }

/-- Entry to OFF: the run, the deadlines and the field in progress are discarded (R3, R6). -/
def enterOff (cam : Camera) : Camera :=
  { clearRun cam with state := .off, lossDeadline := none, lostDeadline := none, qualifying := none }

/-- Entry to SEARCHING from OFF, with a run of 0 (R3). -/
def enterSearching (cam : Camera) : Camera := { clearRun cam with state := .searching }

/-- Entry to LOST: the LOST deadline is 200 cs after the time of entry (R10). -/
def enterLost (now : Time) (cam : Camera) : Camera :=
  { cam with state := .lost, lossDeadline := none, lostDeadline := some (later now 200), qualifying := none }

/-- Entry to LOCKED with the run's standard: the run is cleared, the LOST deadline discarded and the loss deadline
set to three field periods (R7). -/
def enterLocked (st : Standard) (deadline : Time) (cam : Camera) : Camera :=
  { clearRun cam with
    state := .locked, standard := some st, lossDeadline := some deadline, lostDeadline := none, qualifying := none }

/-- The good-field run after a valid field (R5). -/
def runAfter (cam : Camera) (st : Standard) : Nat :=
  if 0 < cam.runCount ∧ cam.runStandard = some st then cam.runCount + 1 else 1

/-- The run holds `n` fields of a standard, its deadline three field periods away (R5). -/
def withRun (cam : Camera) (st : Standard) (n : Nat) (deadline : Time) : Camera :=
  { cam with runCount := n, runStandard := some st, runDeadline := some deadline }

/-- The deadline three field periods of a standard after now (R4, log 5). -/
def spanDeadline (st : Standard) (s : State) : Time := later s.now (fieldSpan st s.fresh)

/-- A field end taken in SEARCHING or LOST (R5, R7). -/
def searchField (c : CameraId) (f : FieldInfo) (s : State) : State :=
  let cam := s.cams.get c
  match fieldClass f with
  | none => s.setCam c (clearRun cam)
  | some st =>
      if 4 ≤ runAfter cam st then
        (cameraTransition c (enterLocked st (spanDeadline st s) cam) (cam.standard != some st) s).tickFresh
      else (s.setCam c (withRun cam st (runAfter cam st) (spanDeadline st s))).tickFresh

/-- The entries of a field summary: each zone that still qualifies with its mean S (R14, R16). -/
def summaryEntries (table : Vector (Option Zone) 48) (st : Standard) (p : Picture) (zs : List ZoneId) :
    List (ZoneId × Nat) :=
  zs.filterMap fun z => (table.get z).map fun zone => (z, zoneMean zone.cfg st p)

/-- The frame store takes the field (R18). DESIGN CHOICE (log 41): it keeps the newest field of each parity, in place of
the one before of that parity, through a change of standard too. -/
def storeField (f : FieldInfo) (cam : Camera) : Camera :=
  match f.parity with
  | .odd => { cam with storeOdd := some f.picture }
  | .even => { cam with storeEven := some f.picture }

/-- A valid field of the recorded standard ends in LOCKED: the loss deadline restarts, the frame store takes the
field, and, where the parity is selected, the zone engine is sent the field's summary (R8, R15, R16, R18). -/
def lockedField (c : CameraId) (st : Standard) (f : FieldInfo) (s : State) : State :=
  let cam := s.cams.get c
  let s1 := (s.setCam c { storeField f cam with
    lossDeadline := some (spanDeadline st s), qualifying := none }).tickFresh
  if paritySelected cam.parity f.parity then
    s1.tellZones c (.summary
      ⟨s.now, summaryEntries s.zoneEngine.table st f.picture (cam.qualifying.getD [])⟩)
  else s1

/-- A field end, by the camera's state (R5–R9). -/
def takeFieldEnd (c : CameraId) (f : FieldInfo) (s : State) : State :=
  let cam := s.cams.get c
  match cam.state with
  | .off => s
  | .searching => searchField c f s
  | .lost => searchField c f s
  | .locked =>
      match fieldClass f with
      | none => s.setCam c { cam with qualifying := none }
      | some st =>
          if cam.standard = some st then lockedField c st f s
          else
            (cameraTransition c (withRun (enterLost s.now cam) st 1 (spanDeadline st s)) false s).tickFresh

/-- The run's three-field-period limit expires: the count goes to 0 (R5). -/
def expireRun (c : CameraId) (s : State) : State :=
  if due s.now (s.cams.get c).runDeadline then s.setCam c (clearRun (s.cams.get c)) else s

/-- The loss deadline expires: the camera goes to LOST with its run at 0 (R8). -/
def expireLoss (c : CameraId) (s : State) : State :=
  let cam := s.cams.get c
  if cam.state = .locked ∧ due s.now cam.lossDeadline then
    cameraTransition c (clearRun (enterLost s.now cam)) false s
  else s

/-- The LOST deadline expires: the camera goes to SEARCHING and keeps its run (R10). -/
def expireLost (c : CameraId) (s : State) : State :=
  let cam := s.cams.get c
  if cam.state = .lost ∧ due s.now cam.lostDeadline then
    cameraTransition c { cam with state := .searching, lostDeadline := none } false s
  else s

/-- A camera record is written, by SET_CAMERA or by a restored profile; the message is what a transition that this
makes sends the zone engine (R3). -/
def writeCamera (message : CameraNotice → CameraMessage) (c : CameraId) (cfg : CameraConfig) (s : State) : State :=
  let cam := { s.cams.get c with enabled := cfg.enabled, parity := cfg.parity }
  if cam.state ≠ .off ∧ cfg.enabled = false then sendTransition message c (enterOff cam) false s
  else if cam.state = .off ∧ cfg.enabled = true then sendTransition message c (enterSearching cam) false s
  else s.setCam c cam

/-- A zone qualifies at a field's first active line: it is defined and enabled, names this camera and has visible
cells under the recorded standard (R16). -/
def qualifies (c : CameraId) (standard : Option Standard) (z : Option Zone) : Bool :=
  match z with
  | some zone => zone.cfg.enabled && zone.cfg.camera == c && hasVisibleCells standard zone.cfg
  | none => false

/-- The first active line of a field of a LOCKED camera: the zones that qualify are fixed (R16). -/
def takeFirstLine (c : CameraId) (s : State) : State :=
  let cam := s.cams.get c
  if cam.state = .locked then
    s.setCam c { cam with
      qualifying := some ((allIds 48).filter fun z => qualifies c cam.standard (s.zoneEngine.table.get z)) }
  else s

/-- GET_CAMERA's success fields (R179). -/
def cameraFields (c : CameraId) (cam : Camera) : List Byte :=
  [byte (c.val + 1), yesNo cam.enabled, measureParityCode cam.parity, cameraStateCode cam.state,
    standardCode cam.standard, byte cam.runCount,
    standardCode (if cam.runCount = 0 then none else cam.runStandard)] ++ be32 cam.stamp.toNat

/-! ### The commands -/

/-- FIELD_END (R4–R9, R14–R18). -/
def execFieldEnd (c : CameraId) (f : FieldInfo) (s : State) : Result := .next (takeFieldEnd c f s)

/-- FIRST_ACTIVE_LINE (R16). -/
def execFirstActiveLine (c : CameraId) (s : State) : Result := .next (takeFirstLine c s)

/-- RUN_DEADLINE_EXPIRY (R5). -/
def execRunDeadlineExpiry (c : CameraId) (s : State) : Result := .next (expireRun c s)

/-- LOSS_DEADLINE_EXPIRY (R8). -/
def execLossDeadlineExpiry (c : CameraId) (s : State) : Result := .next (expireLoss c s)

/-- LOST_DEADLINE_EXPIRY (R10). -/
def execLostDeadlineExpiry (c : CameraId) (s : State) : Result := .next (expireLost c s)

/-- SET_CAMERA (R3, R179). -/
def judgeSetCamera : Judgement :=
  configuration (judged parseSetCamera fun (c, cfg) s => (answerOk [], writeCamera .notice c cfg s))

/-- GET_CAMERA (R179). -/
def judgeGetCamera : Judgement :=
  judged (parseNumber 6) fun c s => (answerOk (cameraFields c (s.cams.get c)), s)

def execSetCamera (s : State) : Result := .next (takeKind 0x10 judgeSetCamera s)

def execGetCamera (s : State) : Result := .next (takeKind 0x11 judgeGetCamera s)

/-- RESTORE_CAMERA: a camera takes its restored record as if it had been written by SET_CAMERA; its notice keeps its
place among those of the restored records (R3, R44, R204). -/
def execRestoreCamera (c : CameraId) (s : State) : Result :=
  .next (takePart (.camera c) (fun p => writeCamera (.restored (nextPlace s)) c (p.cameras.get c)) s)

end Sys2Proof.Machine
end

