-- ==== Sys2Proof/Machine/Schedule.lean ====
section
/-! DEFINITION. The presentation scheduler (chapter 04): the choice of the screen source, the request set,
preemption and minimum show, the rotation, the hold, the view commands, and the restored schedule. -/

namespace Sys2Proof.Machine

/-! ### The choice of the source (R86, R89) -/

/-- What the scheduler's rules choose as the source (R89). -/
inductive SourceChoice where
  | hold (v : ViewId)
  | request (q : Request)
  | visit (index : Nat) (entry : RotationEntry)
  | blank
  deriving DecidableEq, Repr

/-- The source by the rotation: the entry that the search from the rotation index yields, else BLANK (R89). -/
def rotationChoice (sc : Scheduler) : SourceChoice :=
  match search sc sc.source.index with
  | some k => match sc.rotation[k]? with
      | some e => .visit k e
      | none => .blank
  | none => .blank

/-- The source that R89 chooses: the hold, else the top request, else the rotation. -/
def sourceChoice (sc : Scheduler) : SourceChoice :=
  match sc.hold with
  | some v => .hold v
  | none => match topRequest sc.requests with
      | some q => .request q
      | none => rotationChoice sc

/-- The choice yields the source that is there (R89). -/
def sameSource (src : Source) : SourceChoice → Bool
  | .hold _ => src.state == .hold
  | .request q => src.state == .request && src.shown == some q.origin
  | .visit _ _ => false
  | .blank => src.state == .blank

/-- The request stops being shown: what is left of its dwell is kept, its dwell deadline is discarded (R86). -/
def pauseRequest (now : Time) (q : Request) : Request :=
  match q.dwellDeadline with
  | some d => { q with remaining := remainingTo d now, dwellDeadline := none }
  | none => q

/-- The request becomes the shown one: its dwell deadline is set (R86). -/
def showRequest (now : Time) (o : Origin) (q : Request) : Request :=
  if q.origin = o then { q with dwellDeadline := some (later now q.remaining) } else q

/-- The request set under a newly selected source: the request shown before stops being shown, the chosen one is
shown (R86, R89). -/
def requestsUnder (now : Time) (c : SourceChoice) (rs : List Request) : List Request :=
  match c with
  | .request q => (rs.map (pauseRequest now)).map (showRequest now q.origin)
  | _ => rs.map (pauseRequest now)

/-- The screen source record of a newly selected source (R89). -/
def sourceUnder (now : Time) (c : SourceChoice) (src : Source) : Source :=
  match c with
  | .hold _ => ⟨.hold, src.index, none, now, none, none⟩
  | .request q => ⟨.request, src.index, some q.origin, now, none, none⟩
  | .visit k e => ⟨.rotating, k, none, now, some (later now (e.dwell * 100)), none⟩
  | .blank => ⟨.blank, src.index, none, now, none, none⟩

/-- The presentation of a source (R97). -/
def presentationOf : SourceChoice → Presentation
  | .hold v => .hold v
  | .request q => .request q.view q.origin
  | .visit k e => .rotating e.view k
  | .blank => .blank

/-- A new source is selected and one presentation is sent (R89). -/
def selectSource (c : SourceChoice) (s : State) : State :=
  (s.setSched { s.sched with
    requests := requestsUnder s.now c s.sched.requests
    source := sourceUnder s.now c s.sched.source }).sendPresentation (presentationOf c)

/-- The scheduler chooses the source (R89). -/
def chooseSource (s : State) : State :=
  let c := sourceChoice s.sched
  if sameSource s.sched.source c then s else selectSource c s

/-! ### The ends of requests (R86, R87, R101) -/

/-- A request is on screen (R86). -/
def onScreen (sc : Scheduler) (o : Origin) : Bool := sc.source.state == .request && sc.source.shown == some o

/-- The dwell a request is still owed at a time (R101, R103). -/
def owedDwell (now : Time) (q : Request) : Nat :=
  match q.dwellDeadline with
  | some d => remainingTo d now
  | none => q.remaining

/-- The REQUEST report of an end or refusal (R101). -/
def requestReport (now : Time) (q : Request) (outcome : RequestOutcome) : Report :=
  { stamp := now, priority := 0, source := originSource q.origin
    detail := .request q.view q.priority outcome (if outcome = .done then 0 else owedDwell now q) q.arrival }

/-- A request ends: it leaves the set and its REQUEST report is offered; where it was on screen, no request is shown
any longer (R86, R101). -/
def endRequest (q : Request) (outcome : RequestOutcome) (s : State) : State :=
  (s.setSched { s.sched with
    requests := s.sched.requests.filter fun x => x.origin != q.origin
    source := if onScreen s.sched q.origin then { s.sched.source with shown := none } else s.sched.source }).offer
    (requestReport s.now q outcome)

/-- A request ends; if it was on screen the scheduler chooses at once (R86, R87, R90). -/
def endAndChoose (q : Request) (outcome : RequestOutcome) (s : State) : State :=
  if onScreen s.sched q.origin then chooseSource (endRequest q outcome s) else endRequest q outcome s

/-- The dwell deadline of the shown request expires (R86). -/
def expireDwell (s : State) : State :=
  match s.sched.source.shown with
  | none => s
  | some o => match requestOf o s.sched.requests with
      | none => s
      | some q => if due s.now q.dwellDeadline then endAndChoose q .done s else s

/-- The lifetime deadline of a request expires (R86). -/
def expireLifetime (o : Origin) (s : State) : State :=
  match requestOf o s.sched.requests with
  | none => s
  | some q => if reached s.now q.lifetime then endAndChoose q .expired s else s

/-- A withdrawal (R87). -/
def takeWithdrawal (o : Origin) (s : State) : State :=
  match requestOf o s.sched.requests with
  | none => s
  | some q => endAndChoose q .withdrawn s

/-! ### Requests entering, and preemption (R85, R93, R94) -/

/-- The entry of a request that arrives (R85). -/
def newEntry (now : Time) (q : ViewRequest) : Request :=
  { origin := q.origin, view := q.view, priority := q.priority, remaining := q.dwell * 100, dwellDeadline := none
    lifetime := later now (q.lifetime * 100), arrival := now }

/-- A request enters the set as its newest arrival (R85). -/
def enterRequest (q : ViewRequest) (s : State) : State :=
  s.setSched { s.sched with requests := s.sched.requests ++ [newEntry s.now q] }

/-- The time since the source start is at or above minimum show (R93). -/
def shownEnough (now : Time) (sc : Scheduler) : Bool := decide (sc.minShow * 10 ≤ elapsed now sc.source.start)

/-- The time at which a preemption deferred under a source is judged (R82, R93). -/
def deferralTime (sc : Scheduler) : Time := later sc.source.start (sc.minShow * 10)

/-- A deferral is pending: the one that is, else one at the source start plus minimum show (R93). -/
def deferSwitch (s : State) : State :=
  s.setSched { s.sched with source := { s.sched.source with
    deferral := some (s.sched.source.deferral.getD (deferralTime s.sched)) } }

/-- The new entry preempts: the switch is made at once, or deferred below minimum show (R93). -/
def preempt (s : State) : State := if shownEnough s.now s.sched then chooseSource s else deferSwitch s

/-- The new entry is the top request (R93). -/
def isTop (o : Origin) (rs : List Request) : Bool :=
  match topRequest rs with
  | some t => t.origin == o
  | none => false

/-- The screen is judged after an entry that did not end the shown source (R93). -/
def judgeEntry (o : Origin) (s : State) : State :=
  match s.sched.source.state with
  | .hold => s
  | .blank => chooseSource s
  | .rotating => preempt s
  | .request => if isTop o s.sched.requests then preempt s else s

/-- A request enters in place of one that ends with an outcome (R85). -/
def enterOver (old : Request) (outcome : RequestOutcome) (q : ViewRequest) (s : State) : State :=
  let s1 := enterRequest q (endRequest old outcome s)
  if onScreen s.sched old.origin then chooseSource s1 else judgeEntry q.origin s1

/-- A request does not enter, and ends with an outcome (R85). -/
def refuseRequest (q : ViewRequest) (outcome : RequestOutcome) (s : State) : State :=
  s.offer (requestReport s.now (newEntry s.now q) outcome)

/-- A view request is taken: whether it enters, and the state after it (R85). -/
def takeRequest (q : ViewRequest) (s : State) : Bool × State :=
  if (s.sched.views.get q.view).isNone then (false, refuseRequest q .restored s)
  else match requestOf q.origin s.sched.requests with
    | some old => (true, enterOver old .replaced q s)
    | none =>
        if s.sched.requests.length < 8 then (true, judgeEntry q.origin (enterRequest q s))
        else match evictionCandidate s.sched.requests with
          | some old =>
              if old.priority < q.priority then (true, enterOver old .evicted q s)
              else (false, refuseRequest q .refusedFull s)
          | none => (false, s)

/-- The deferral is discarded and the screen judged again as it stands (R94). -/
def elapseDeferral (s : State) : State :=
  let s1 := s.setSched { s.sched with source := { s.sched.source with deferral := none } }
  match s.sched.source.state with
  | .request => chooseSource s1
  | .rotating => if s.sched.requests.isEmpty then s1 else chooseSource s1
  | _ => s1

/-- The deferral deadline expires (R94). -/
def expireDeferral (s : State) : State := if due s.now s.sched.source.deferral then elapseDeferral s else s

/-! ### The rotation (R81, R91, R92, R95, R96) -/

/-- The position after an entry: the next, or 0 past the last (R91). -/
def followingIndex (sc : Scheduler) : Nat :=
  if sc.source.index + 1 < sc.rotation.length then sc.source.index + 1 else 0

/-- The visit in progress is over: the index goes to the following position and the source is chosen (R91, R92). -/
def advance (s : State) : State :=
  chooseSource (s.setSched { s.sched with source := { s.sched.source with index := followingIndex s.sched } })

/-- The rotation deadline expires (R91). -/
def expireRotation (s : State) : State :=
  if s.sched.source.state = .rotating ∧ due s.now s.sched.source.rotationDeadline then advance s else s

/-- In ROTATING, the scheduler advances when the entry shown is no longer showable (R92). -/
def advanceUnshowable (s : State) : State :=
  if positionShowable s.sched s.sched.source.index then s else advance s

/-- A camera notice at the scheduler (R79, R95). -/
def takeSchedNotice (c : CameraId) (n : CameraNotice) (s : State) : State :=
  let s1 := s.setSched { s.sched with camCopy := upd s.sched.camCopy c n.new }
  match s.sched.source.state with
  | .rotating => advanceUnshowable s1
  | .blank => if n.new = .locked then chooseSource s1 else s1
  | _ => s1

/-- The oldest notice of a camera to the scheduler is taken off its path. -/
def dropSchedNotice (c : CameraId) (s : State) : State :=
  s.setWires { s.wires with camToSched := upd s.wires.camToSched c (s.wires.camToSched.get c).tail }

/-- An accepted PUT_VIEW (R77, R96). -/
def putView (v : ViewId) (cfg : ViewConfig) (s : State) : State :=
  let s1 := s.setSched { s.sched with views := upd s.sched.views v (some cfg) }
  match s.sched.source.state with
  | .rotating => advanceUnshowable s1
  | .blank => chooseSource s1
  | _ => s1

/-- An accepted SET_ROTATION (R81). -/
def setRotation (es : List RotationEntry) (s : State) : State :=
  let s1 := s.setSched { s.sched with rotation := es, source := { s.sched.source with index := 0 } }
  match s.sched.source.state with
  | .rotating => chooseSource s1
  | .blank => chooseSource s1
  | _ => s1

/-- An accepted SET_MINSHOW; a pending deferral takes the new value (R82). -/
def setMinShow (m : Nat) (s : State) : State :=
  let s1 := s.setSched { s.sched with minShow := m }
  match s.sched.source.deferral with
  | none => s1
  | some _ =>
      if reached s.now (deferralTime s1.sched) then elapseDeferral s1
      else s1.setSched { s1.sched with source := { s1.sched.source with deferral := some (deferralTime s1.sched) } }

/-! ### The hold (R88) -/

/-- An accepted HOLD (R88). -/
def setHold (v : ViewId) (s : State) : State :=
  if s.sched.source.state = .hold ∧ s.sched.hold = some v then s
  else selectSource (.hold v) (s.setSched { s.sched with hold := some v })

/-- RELEASE (R88). -/
def releaseHold (s : State) : State :=
  match s.sched.hold with
  | none => s
  | some _ => chooseSource (s.setSched { s.sched with hold := none })

/-! ### The view table (R78), the restored schedule (R102), GET_SCREEN (R103) -/

/-- A view is in use: in the rotation list, named by a SHOW action or a request, or held (R78). -/
def viewInUse (v : ViewId) (s : State) : Bool :=
  s.sched.rotation.any (fun e => e.view == v) || anyRule s.ruleEngine.table (showsView · v)
    || s.sched.requests.any (fun q => q.view == v) || s.sched.hold == some v

/-- The restored schedule is applied as one event (R102). -/
def restoreSchedule (p : Profile) (s : State) : State :=
  let s1 := s.setSched { s.sched with source := { s.sched.source with deferral := none } }
  let s2 := s.sched.requests.foldl (fun s q => endRequest q .restored s) s1
  chooseSource (s2.setSched { s2.sched with
    hold := none, views := p.views, rotation := p.rotation, minShow := p.minShow
    source := { s2.sched.source with index := 0 } })

/-- A time remaining, or FFFFFFFFh for none (R183). -/
def timeOrNone (now : Time) : Option Time → List Byte
  | some d => be32 (remainingTo d now)
  | none => be32 0xFFFFFFFF

/-- The rotation deadline, or the shown request's dwell deadline (R103). -/
def sourceDeadline (sc : Scheduler) : Option Time :=
  match sc.source.state with
  | .rotating => sc.source.rotationDeadline
  | .request => match sc.source.shown with
      | some o => (requestOf o sc.requests).bind (·.dwellDeadline)
      | none => none
  | _ => none

/-- One request in GET_SCREEN's reply (R183). -/
def requestBytes (now : Time) (q : Request) : List Byte :=
  [originCode (some q.origin), byte q.view.val, byte q.priority] ++ be16 (owedDwell now q)
    ++ be32 (remainingTo q.lifetime now)

/-- The view of a presentation, none for BLANK (R97). -/
def viewOf : Presentation → Option ViewId
  | .blank => none
  | .rotating v _ => some v
  | .request v _ => some v
  | .hold v => some v

/-- GET_SCREEN's success fields (R103, R183). -/
def screenFields (s : State) : List Byte :=
  let sc := s.sched
  [sourceStateCode sc.source.state, byte sc.source.index, originCode sc.source.shown]
    ++ be32 (elapsed s.now sc.source.start) ++ timeOrNone s.now (sourceDeadline sc)
    ++ timeOrNone s.now sc.source.deferral ++ [viewCode sc.hold, byte sc.minShow, byte sc.rotation.length]
    ++ sc.rotation.flatMap (fun e => [byte e.view.val, byte e.dwell])
    ++ [byte sc.requests.length] ++ sc.requests.flatMap (requestBytes s.now) ++ [viewCode (viewOf s.comp.applied)]

/-! ### The commands -/

/-- VIEW_REQUEST: the oldest view request of the rule engine (R85). -/
def execViewRequest (s : State) : Result :=
  .next (match s.wires.requests with
    | q :: rest => (takeRequest q (s.setWires { s.wires with requests := rest })).2
    | [] => s)

/-- WITHDRAWAL: the oldest withdrawal of the rule engine (R87). -/
def execWithdrawal (s : State) : Result :=
  .next (match s.wires.withdrawals with
    | o :: rest => takeWithdrawal o (s.setWires { s.wires with withdrawals := rest })
    | [] => s)

/-- CAMERA_NOTICE_AT_SCHEDULER: the oldest notice of a camera (R11, R95). -/
def execCameraNoticeAtScheduler (c : CameraId) (s : State) : Result :=
  .next (match s.wires.camToSched.get c with
    | n :: _ => takeSchedNotice c n (dropSchedNotice c s)
    | [] => s)

/-- DWELL_DEADLINE_EXPIRY (R86). -/
def execDwellDeadlineExpiry (s : State) : Result := .next (expireDwell s)

/-- LIFETIME_DEADLINE_EXPIRY (R86). -/
def execLifetimeDeadlineExpiry (o : Origin) (s : State) : Result := .next (expireLifetime o s)

/-- ROTATION_DEADLINE_EXPIRY (R91). -/
def execRotationDeadlineExpiry (s : State) : Result := .next (expireRotation s)

/-- DEFERRAL_DEADLINE_EXPIRY (R94). -/
def execDeferralDeadlineExpiry (s : State) : Result := .next (expireDeferral s)

/-- PUT_VIEW (R77, R96, R183). -/
def judgePutView : Judgement :=
  configuration (judged parseView fun (v, cfg) s => (answerOk [], putView v cfg s))

/-- DROP_VIEW (R78, R183). -/
def judgeDropView : Judgement :=
  configuration (judged (parseId 12) fun v s =>
    if (s.sched.views.get v).isNone then (answerRefused .absent, s)
    else if viewInUse v s then (answerRefused .inUse, s)
    else (answerOk [], s.setSched { s.sched with views := upd s.sched.views v none }))

/-- SET_ROTATION (R81, R183). -/
def judgeSetRotation : Judgement :=
  configuration (judged parseRotation fun es s =>
    if es.any fun e => (s.sched.views.get e.view).isNone then (answerRefused .absent, s)
    else (answerOk [], setRotation es s))

/-- SET_MINSHOW (R82, R183). -/
def judgeSetMinshow : Judgement :=
  configuration (judged parseMinShow fun m s => (answerOk [], setMinShow m s))

/-- SHOW_VIEW (R85, R183): FULL when the set refuses the request. -/
def judgeShowView : Judgement :=
  judged parseShow fun q s =>
    if (s.sched.views.get q.view).isNone then (answerRefused .absent, s)
    else match takeRequest q s with
      | (true, s') => (answerOk [], s')
      | (false, s') => (answerRefused .full, s')

/-- WITHDRAW, for origin HOST (R87, R183). -/
def judgeWithdraw : Judgement :=
  judged parseNone fun _ s =>
    match requestOf .host s.sched.requests with
    | none => (answerRefused .absent, s)
    | some _ => (answerOk [], takeWithdrawal .host s)

/-- HOLD (R88, R183). -/
def judgeHold : Judgement :=
  judged (parseId 12) fun v s =>
    if (s.sched.views.get v).isNone then (answerRefused .absent, s) else (answerOk [], setHold v s)

/-- RELEASE (R88, R183). -/
def judgeRelease : Judgement := judged parseNone fun _ s => (answerOk [], releaseHold s)

/-- GET_SCREEN (R103, R183). -/
def judgeGetScreen : Judgement := judged parseNone fun _ s => (answerOk (screenFields s), s)

def execPutView (s : State) : Result := .next (takeKind 0x28 judgePutView s)

def execDropView (s : State) : Result := .next (takeKind 0x29 judgeDropView s)

def execSetRotation (s : State) : Result := .next (takeKind 0x2A judgeSetRotation s)

def execSetMinshow (s : State) : Result := .next (takeKind 0x2B judgeSetMinshow s)

def execShowView (s : State) : Result := .next (takeKind 0x2C judgeShowView s)

def execWithdraw (s : State) : Result := .next (takeKind 0x2D judgeWithdraw s)

def execHold (s : State) : Result := .next (takeKind 0x2E judgeHold s)

def execRelease (s : State) : Result := .next (takeKind 0x2F judgeRelease s)

def execGetScreen (s : State) : Result := .next (takeKind 0x30 judgeGetScreen s)

/-- RESTORE_SCHEDULE (R102, R204). -/
def execRestoreSchedule (s : State) : Result := .next (takePart .schedule restoreSchedule s)

end Sys2Proof.Machine
end

