-- ==== Sys2Proof/Machine/Compositor.lean ====
section
/-! DEFINITION. The screen compositor (§4.8, R18): the applied and the pending presentation, and the frame composed
at each output frame start. -/

namespace Sys2Proof.Machine

/-- What a tile shows: flat black, the no-signal pattern of a camera that is not LOCKED, or the picture of the
camera's frame store (R18, R99). -/
def tileImage (s : State) (t : Option CameraId) : TileImage :=
  match t with
  | none => .black
  | some c =>
      let cam := s.cams.get c
      if cam.state = .locked then
        .picture c (cam.standard != some s.outputStandard) cam.storeOdd cam.storeEven
      else .noSignal c

/-- The frame of a view's record (R99). -/
def viewFrame (s : State) (cfg : ViewConfig) : OutputFrame :=
  .tiles cfg.layout (cfg.tiles.map (tileImage s)) cfg.title

/-- The compositor composes a frame from the applied presentation, the view's record read afresh (R99). While the
applied presentation's view is not defined the frame is a free value (log 14). -/
def composeFrame (s : State) : State :=
  match viewOf s.comp.applied with
  | none => s.setComp { s.comp with output := .blank }
  | some v => match s.sched.views.get v with
      | some cfg => s.setComp { s.comp with output := viewFrame s cfg }
      | none => (s.setComp { s.comp with output := Config.undefinedViewFrame s.fresh }).tickFresh

/-- The state of the source of a presentation, its rotation index, and its origin (R97, R100). -/
def presentedSource : Presentation → SourceState × Option Nat × Option Origin
  | .blank => (.blank, none, none)
  | .rotating _ k => (.rotating, some k, none)
  | .request _ o => (.request, none, some o)
  | .hold _ => (.hold, none, none)

/-- The source id of a SCREEN report: the view, 255 for BLANK (R100, R105). -/
def viewSource : Option ViewId → Nat
  | some v => v.val
  | none => 255

/-- The SCREEN report of an application (R100). -/
def screenReport (now : Time) (new old : Presentation) : Report :=
  let (st, k, o) := presentedSource new
  { stamp := now, priority := 0, source := viewSource (viewOf new), detail := .screen st k o (viewOf old) }

/-- An output frame starts: a pending presentation is applied and reported, then the frame is composed (R98–R100). -/
def startFrame (s : State) : State :=
  match s.comp.pending with
  | none => composeFrame s
  | some p =>
      composeFrame ((s.setComp { s.comp with applied := p, pending := none }).offer
        (screenReport s.now p s.comp.applied))

/-- PRESENTATION: the oldest presentation of the scheduler becomes the pending one (R98). -/
def execPresentation (s : State) : Result :=
  .next (match s.wires.presentations with
    | p :: rest =>
        (s.setWires { s.wires with presentations := rest }).setComp { s.comp with pending := some p }
    | [] => s)

/-- OUTPUT_FRAME_START (R98–R100). -/
def execOutputFrameStart (s : State) : Result := .next (startFrame s)

end Sys2Proof.Machine
end

