-- ==== Sys2Proof/Machine/HeadLink.lean ====
section
/-! DEFINITION. The camera head link controller (chapter 07): the relay queue, the link's attempts and gaps, replies,
cancellation, the head link commands, and the restored settings. -/

namespace Sys2Proof.Machine

/-! ### The relay queue (R139, R140) -/

/-- A transaction of the queue holds this tid (R140). -/
def tidHeld (tid : Byte) (q : List Transaction) : Bool := q.any fun t => t.tid == tid

/-- The first of so many values from `tid` on that no transaction holds (R140). -/
def freeTidFrom (q : List Transaction) : Nat → Byte → Byte
  | 0, tid => tid
  | n + 1, tid => if tidHeld tid q then freeTidFrom q n (tid + 1) else tid

/-- The tid that the next accepted transaction takes (R140). -/
def freeTid (h : HeadLink) : Byte := freeTidFrom h.queue 256 h.nextTid

/-- A transaction as it is accepted (R139). -/
def newTransaction (tid : Byte) (o : Origin) (head : HeadAddr) (op : HeadOp) : Transaction :=
  { tid := tid, origin := o, head := head, op := op, attempts := 0, tag := none, cancelPending := false
    failure := none }

/-- The request frame of a transaction is being sent, at the rate the settings hold (R143). -/
def sendFrame (t : Transaction) (rest : List Transaction) (h : HeadLink) : HeadLink :=
  { h with
    queue := t :: rest, inFlight := true, link := .sending, replyDeadline := none, gapLength := none
    line := some ⟨h.settings.rate, requestFrame t⟩, received := [] }

/-- The link takes the oldest transaction, which takes the next tag and begins its first attempt (R143). -/
def linkTakes (h : HeadLink) : HeadLink :=
  match h.queue with
  | [] => h
  | t :: rest =>
      sendFrame { t with tag := some h.nextTag, attempts := t.attempts + 1 } rest
        { h with nextTag := h.nextTag + 1 }

/-- A transaction enters at the newest end; in IDLE the link takes it (R141–R143). -/
def enterTransaction (o : Origin) (head : HeadAddr) (op : HeadOp) (h : HeadLink) : HeadLink :=
  let h1 := { h with
    queue := h.queue ++ [newTransaction (freeTid h) o head op], nextTid := freeTid h + 1 }
  if h.link = .idle then linkTakes h1 else h1

/-! ### RELAY reports (R151) -/

/-- The priority of a RELAY report by its result (R151). -/
def relayPriority : RelayResult → Nat
  | .ok => 1
  | .headRefused => 2
  | .noReply => 2
  | .badReply => 2
  | .cancelled => 1
  | .superseded => 1
  | .queueFull => 2

/-- The RELAY report of a transaction's end (R151). -/
def relayReport (now : Time) (t : Transaction) (result : RelayResult) : Report :=
  { stamp := now, priority := relayPriority result, source := originSource t.origin
    detail := .relay (some t.tid) t.head t.op result t.attempts }

/-- The RELAY report of a recall that the full queue refuses (R142, R151). -/
def refusedReport (now : Time) (r : Recall) : Report :=
  { stamp := now, priority := relayPriority .queueFull, source := r.rule.val
    detail := .relay none r.head (.recall r.preset) .queueFull 0 }

/-! ### The ends of transactions (R147, R148) -/

/-- The in-flight transaction ends: it leaves the queue, its report is offered, the link enters GAP (R148). -/
def endInFlight (t : Transaction) (result : RelayResult) (s : State) : State :=
  (s.setHead { s.head with
    queue := s.head.queue.tail, inFlight := false, link := .gap, replyDeadline := none
    gapLength := some s.head.settings.gap, line := none, received := [] }).offer (relayReport s.now t result)

/-- The result that a failure gives (R147). -/
def failureResult : Failure → RelayResult
  | .noReply => .noReply
  | .badReply => .badReply

/-- An attempt fails (R147). -/
def failAttempt (t : Transaction) (f : Failure) (s : State) : State :=
  if t.cancelPending then endInFlight t .cancelled s
  else if t.attempts < s.head.settings.retries + 1 then
    s.setHead { s.head with
      queue := { t with failure := some f } :: s.head.queue.tail, link := .gap, replyDeadline := none
      gapLength := some s.head.settings.gap, line := none, received := [] }
  else endInFlight t (failureResult f) s

/-- The transmission of a request frame completes (R144). -/
def completeRequest (s : State) : State :=
  match s.head.link, s.head.queue with
  | .sending, t :: _ =>
      if t.head = 0 then endInFlight t .ok s
      else s.setHead { s.head with
        link := .awaitReply, replyDeadline := some (later s.now s.head.settings.timeout), received := [] }
  | _, _ => s

/-- A complete reply frame is judged (R145, R195); a foreign one is discarded, and the search goes on. -/
def judgeReply (addr tag status : Byte) (crc : Half) (t : Transaction) (s : State) : State :=
  if crc ≠ crc16 [addr, tag, status] then failAttempt t .badReply s
  else if addr = byte t.head.val ∧ some tag = t.tag then
    endInFlight t (if status = 0 then .ok else .headRefused) s
  else s.setHead { s.head with received := [] }

/-- The bytes of a reply frame held after one more: a byte before the start code 5Bh is discarded (R145, R195). -/
def gatherReply (got : List Byte) (b : Byte) : List Byte :=
  if got = [] then (if b = 0x5B then [b] else []) else got ++ [b]

/-- A byte that the receiver of the head link reads: it is taken in AWAIT_REPLY, and a reply frame is judged at the
sixth byte; in every other state the byte is discarded (R145, R195). -/
def headByte (s : State) (b : Byte) : State :=
  match s.head.link, s.head.queue with
  | .awaitReply, t :: _ =>
      match gatherReply s.head.received b with
      | [_, addr, tag, status, hi, lo] => judgeReply addr tag status (hi ++ lo) t s
      | got => s.setHead { s.head with received := got }
  | _, _ => s

/-- The rate at which the link receives in AWAIT_REPLY: that of the attempt's request frame (R145). -/
def receiveRate (h : HeadLink) : HeadRate :=
  match h.line with
  | some f => f.rate
  | none => h.settings.rate

/-- Bytes sent at a rate arrive from the line, one after another. The receiver reads those bytes at its own rate with
good stop bits, and a free value of others; outside AWAIT_REPLY it is off, or what it receives is discarded (R145, R195;
log 37). -/
def takeReply (rate : HeadRate) (stopGood : Bool) (sent : List Byte) (s : State) : State :=
  if s.head.link = .awaitReply then
    (if rate = receiveRate s.head ∧ stopGood = true then sent.foldl headByte s
    else (Config.misread s.fresh).foldl headByte s.tickFresh)
  else s

/-- The reply deadline expires (R146). -/
def expireReply (s : State) : State :=
  match s.head.link, s.head.queue with
  | .awaitReply, t :: _ => if due s.now s.head.replyDeadline then failAttempt t .noReply s else s
  | _, _ => s

/-- The link at the end of a turnaround gap: the next attempt, the next transaction, or IDLE (R147, R148). -/
def gapEnd (h : HeadLink) : HeadLink :=
  match h.queue with
  | [] => { h with link := .idle, gapLength := none }
  | t :: rest =>
      if h.inFlight then sendFrame { t with attempts := t.attempts + 1 } rest h else linkTakes h

/-! ### Recalls of rules (R142) -/

/-- A queued transaction that a rule's recall to a head replaces (R142). -/
def replaceable (head : HeadAddr) (t : Transaction) : Bool :=
  t.head == head && (match t.origin, t.op with
    | .rule _, .recall _ => true
    | _, _ => false)

/-- The transactions that are not in flight. -/
def waiting (h : HeadLink) : List Transaction := if h.inFlight then h.queue.tail else h.queue

/-- A recall takes the place of a queued transaction, which ends SUPERSEDED (R142). -/
def supersede (old : Transaction) (r : Recall) (s : State) : State :=
  let tid := freeTid { s.head with queue := s.head.queue.filter fun t => t.tid != old.tid }
  (s.setHead { s.head with
    queue := s.head.queue.map fun t =>
      if t.tid = old.tid then newTransaction tid (.rule r.rule) r.head (.recall r.preset) else t
    nextTid := tid + 1 }).offer (relayReport s.now old .superseded)

/-- A rule's recall is taken, by the first case that applies (R142). -/
def takeRecall (r : Recall) (s : State) : State :=
  match (waiting s.head).find? (replaceable r.head) with
  | some old => supersede old r s
  | none =>
      if s.head.queue.length < 8 then
        s.setHead (enterTransaction (.rule r.rule) r.head (.recall r.preset) s.head)
      else s.offer (refusedReport s.now r)

/-! ### Cancellation (R149, R150) -/

/-- The in-flight transaction is cancelled in the gap between its attempts; the gap runs on (R148, R150). -/
def cancelInGap (t : Transaction) (s : State) : State :=
  (s.setHead { s.head with queue := s.head.queue.tail, inFlight := false }).offer
    (relayReport s.now t .cancelled)

/-- The in-flight transaction is cancelled (R150). -/
def cancelInFlight (t : Transaction) (s : State) : State :=
  if s.head.link = .gap then cancelInGap t s
  else s.setHead { s.head with queue := { t with cancelPending := true } :: s.head.queue.tail }

/-- A queued transaction is cancelled (R149). -/
def cancelQueued (t : Transaction) (s : State) : State :=
  (s.setHead { s.head with queue := s.head.queue.filter fun x => x.tid != t.tid }).offer
    (relayReport s.now t .cancelled)

/-- The in-flight transaction, when it holds this tid. -/
def inFlightOf (tid : Byte) (h : HeadLink) : Option Transaction :=
  if h.inFlight then h.queue.head?.filter (·.tid == tid) else none

/-! ### GET_RELAYS (R152, R186) -/

/-- The preset for RECALL or the length for RAW (R186). -/
def opParameter : HeadOp → Byte
  | .recall p => byte p.val
  | .raw bytes => byte bytes.length

/-- The flags byte of a transaction (R186). -/
def transactionFlags (inFlight : Bool) (t : Transaction) : Byte :=
  presence [inFlight, t.cancelPending, t.tag.isSome] ||| byte (16 * failureCode t.failure)

/-- One transaction in GET_RELAYS' reply (R186). -/
def transactionBytes (inFlight : Bool) (t : Transaction) : List Byte :=
  [t.tid, originCode (some t.origin), byte t.head.val, headOpCode t.op, opParameter t.op, byte t.attempts,
    transactionFlags inFlight t, t.tag.getD 0]

/-- The queue in GET_RELAYS' reply, oldest first. -/
def queueBytes (h : HeadLink) : List Byte :=
  match h.queue with
  | [] => []
  | t :: rest => transactionBytes h.inFlight t ++ rest.flatMap (transactionBytes false)

/-- GET_RELAYS' success fields (R152, R186). -/
def relaysFields (s : State) : List Byte :=
  let h := s.head
  [headRateCode h.settings.rate, byte h.settings.timeout, byte h.settings.retries, byte h.settings.gap,
    linkStateCode h.link]
    ++ (match h.replyDeadline with | some d => be16 (remainingTo d s.now) | none => be16 0xFFFF)
    ++ [h.nextTid, h.nextTag, byte h.queue.length] ++ queueBytes h

/-! ### The commands -/

/-- RECALL: the oldest recall of the rule engine (R142). -/
def execRecall (s : State) : Result :=
  .next (match s.wires.recalls with
    | r :: rest => takeRecall r (s.setWires { s.wires with recalls := rest })
    | [] => s)

/-- RELAY (R141, R186). -/
def judgeRelay : Judgement :=
  judged parseRelay fun (head, op) s =>
    if s.head.queue.length < 8 then
      (answerAccepted [freeTid s.head], s.setHead (enterTransaction .host head op s.head))
    else (answerRefused .full, s)

/-- CANCEL_RELAY (R149, R150, R186). -/
def judgeCancelRelay : Judgement :=
  judged parseByte fun tid s =>
    match inFlightOf tid s.head with
    | some t => (answerOk [1], cancelInFlight t s)
    | none => match s.head.queue.find? (fun t => t.tid == tid) with
        | some t => (answerOk [0], cancelQueued t s)
        | none => (answerRefused .absent, s)

/-- The settings are replaced (R138). -/
def writeSettings (x : HeadSettings) (s : State) : State := s.setHead { s.head with settings := x }

/-- SET_HEADLINK (R138, R186). -/
def judgeSetHeadlink : Judgement :=
  configuration (judged parseHeadlink fun x s => (answerOk [], writeSettings x s))

/-- GET_RELAYS (R152, R186). -/
def judgeGetRelays : Judgement := judged parseNone fun _ s => (answerOk (relaysFields s), s)

def execSetHeadlink (s : State) : Result := .next (takeKind 0x48 judgeSetHeadlink s)

def execRelay (s : State) : Result := .next (takeKind 0x49 judgeRelay s)

def execCancelRelay (s : State) : Result := .next (takeKind 0x4A judgeCancelRelay s)

def execGetRelays (s : State) : Result := .next (takeKind 0x4B judgeGetRelays s)

/-- RESTORE_HEADLINK (R153, R204). -/
def execRestoreHeadlink (s : State) : Result := .next (takePart .headLink (fun p => writeSettings p.head) s)

/-- REQUEST_FRAME_COMPLETE (R144). -/
def execRequestFrameComplete (s : State) : Result := .next (completeRequest s)

/-- REPLY_FRAME: a run of one or more bytes from the heads, of which each reply frame is judged at its last byte; a run
that ends within a frame leaves it partly received (R145; log 37). -/
def execReplyFrame (rate : HeadRate) (stopGood : Bool) (first : Byte) (rest : List Byte) (s : State) : Result :=
  .next (takeReply rate stopGood (first :: rest) s)

/-- REPLY_DEADLINE_EXPIRY (R146). -/
def execReplyDeadlineExpiry (s : State) : Result := .next (expireReply s)

/-- TURNAROUND_GAP_END (R147, R148; log 20). -/
def execTurnaroundGapEnd (s : State) : Result :=
  .next (if s.head.link = .gap then s.setHead (gapEnd s.head) else s)

end Sys2Proof.Machine
end

