-- ==== Sys2Proof/Machine/Rules.lean ====
section
/-! DEFINITION. The rule engine (chapter 03): term events, firing, cooldown and release, ORDER sequences, the rule
commands, and the two events by which a restored profile's rules are taken. -/

namespace Sys2Proof.Machine

/-! ### Firing and release (R53, R57, R62–R66) -/

/-- The RULE report of a rule, judged against the present term copies (R63). -/
def ruleReport (r : RuleId) (rule : Rule) (priority : Nat) (event : RuleEvent) (cause : Option ClearCause)
    (s : State) : Report :=
  { stamp := s.now, priority := priority, source := r.val
    detail := .rule event cause rule.cfg.mode (rule.cfg.terms.map (termValue s.ruleEngine)) rule.run.fireCount }

/-- One action of a firing is sent to the block that owns it (R62–R66). -/
def sendAction (r : RuleId) (rule : Rule) (s : State) (a : Action) : State :=
  match a with
  | .report priority _ => s.offer (ruleReport r rule priority .fired none s)
  | .showView view priority dwell lifetime _ => s.sendRequest ⟨.rule r, view, priority, dwell, lifetime⟩
  | .line l (.pulse steps) => s.sendClaim (.pulse l steps)
  | .line l .latch => s.sendClaim (.latch r l)
  | .recall head preset => s.sendRecall ⟨r, head, preset⟩

/-- The runtime record in a state that holds no step and no deadline (R51). -/
def settledRun (st : RuleState) (run : RuleRun) : RuleRun :=
  { run with state := st, step := none, stepDeadline := none, cooldownDeadline := none }

/-- The rule as its firing leaves it: counted, stamped and FIRED (R53). -/
def firedRule (now : Time) (rule : Rule) : Rule :=
  { rule with run := { settledRun .fired rule.run with
                       fireCount := bump rule.run.fireCount, lastFired := some now } }

/-- A rule fires as one event (R53). -/
def fireRule (r : RuleId) (rule : Rule) (s : State) : State :=
  rule.cfg.actions.foldl (sendAction r (firedRule s.now rule)) (s.setRule r (some (firedRule s.now rule)))

/-- A rule has a SHOW action whose withdraw-on-release flag is yes (R57). -/
def withdrawsOnRelease (cfg : RuleConfig) : Bool :=
  cfg.actions.any fun a => match a with
    | .showView _ _ _ _ w => w
    | _ => false

/-- The drop of a LATCH action's claim (R57). -/
def releaseLatch (r : RuleId) (s : State) (a : Action) : State :=
  match a with
  | .line l .latch => s.sendClaim (.drop r l)
  | _ => s

/-- The CLEARED report of a REPORT action whose clear-report flag is yes (R57, R63). -/
def releaseReport (r : RuleId) (rule : Rule) (cause : ClearCause) (s : State) (a : Action) : State :=
  match a with
  | .report priority true => s.offer (ruleReport r rule priority .cleared (some cause) s)
  | _ => s

/-- A rule's release: the withdrawal, the drops of its latches, the CLEARED report (R57). -/
def releaseRule (r : RuleId) (rule : Rule) (cause : ClearCause) (s : State) : State :=
  let s1 := if withdrawsOnRelease rule.cfg then s.sendWithdrawal (.rule r) else s
  let s2 := rule.cfg.actions.foldl (releaseLatch r) s1
  rule.cfg.actions.foldl (releaseReport r rule cause) s2

/-- A rule enters a state that holds no step and no deadline. -/
def settleRule (r : RuleId) (rule : Rule) (st : RuleState) (s : State) : State :=
  s.setRule r (some { rule with run := settledRun st rule.run })

/-! ### Term events (R50, R52, R54, R55, R58, R59, R61) -/

/-- STEPPING awaits a term, with the deadline a window after the event time (R58, R59). -/
def awaitTerm (r : RuleId) (rule : Rule) (n : Nat) (s : State) : State :=
  s.setRule r (some { rule with run :=
    { settledRun .stepping rule.run with step := some n, stepDeadline := some (later s.now rule.cfg.window) } })

/-- A term event of a rule in IDLE (R52, R58). -/
def idleEvent (e e' : RuleEngine) (r : RuleId) (rule : Rule) (s : State) : State :=
  match rule.cfg.mode with
  | .order => if termRises e e' rule.cfg.terms 1 then awaitTerm r rule 2 s else s
  | _ => if condition e' rule.cfg .idle then fireRule r rule s else s

/-- A term event of an ORDER rule in STEPPING, the first case that applies (R59). -/
def stepEvent (e e' : RuleEngine) (r : RuleId) (rule : Rule) (s : State) : State :=
  let awaited := rule.run.step.getD 0
  if termRises e e' rule.cfg.terms awaited then
    if awaited = rule.cfg.terms.length then fireRule r rule s else awaitTerm r rule (awaited + 1) s
  else if termRises e e' rule.cfg.terms 1 then awaitTerm r rule 2 s
  else s

/-- A term event of a rule in FIRED (R54, R61). -/
def firedEvent (e' : RuleEngine) (r : RuleId) (rule : Rule) (s : State) : State :=
  if condition e' rule.cfg .fired then s
  else if rule.cfg.cooldown = 0 then settleRule r rule .idle (releaseRule r rule .cooldownEnd s)
  else s.setRule r (some { rule with run :=
    { settledRun .cooldown rule.run with cooldownDeadline := some (later s.now rule.cfg.cooldown) } })

/-- A term event of a rule in COOLDOWN (R55, R61). -/
def cooldownEvent (e' : RuleEngine) (r : RuleId) (rule : Rule) (s : State) : State :=
  if condition e' rule.cfg .cooldown then settleRule r rule .fired s else s

/-- One term event of a rule, in its present state; a DISARMED rule takes none (R50). -/
def termEvent (e e' : RuleEngine) (r : RuleId) (rule : Rule) (s : State) : State :=
  match rule.run.state with
  | .disarmed => s
  | .idle => idleEvent e e' r rule s
  | .stepping => stepEvent e e' r rule s
  | .fired => firedEvent e' r rule s
  | .cooldown => cooldownEvent e' r rule s

/-- One rule meets the change of the copies from `e` to `e'`: an event for it where one of its terms moved (R50;
log 31). -/
def meetRule (e e' : RuleEngine) (s : State) (r : RuleId) : State :=
  match s.ruleEngine.table.get r with
  | none => s
  | some rule => if termsMove e e' rule.cfg.terms then termEvent e e' r rule s else s

/-- The rule engine takes a change of one term copy: the copy first, then the rules in ascending order (R50). -/
def takeCopies (e' : RuleEngine) (s : State) : State :=
  (allIds 24).foldl (meetRule s.ruleEngine e') (s.setRules e')

/-- A zone transition is taken (R47, R50). -/
def takeZoneTransition (t : ZoneTransition) (s : State) : State :=
  takeCopies { s.ruleEngine with zoneCopy := upd s.ruleEngine.zoneCopy t.zone (zoneValue t.new) } s

/-- A line transition is taken (R47, R50). -/
def takeLineTransition (t : LineChange) (s : State) : State :=
  takeCopies { s.ruleEngine with lineCopy := upd s.ruleEngine.lineCopy t.line t.new } s

/-- The zone engine's restart notice: every zone copy is UNKNOWN (R47, R74). -/
def takeRestart (s : State) : State :=
  s.setRules { s.ruleEngine with zoneCopy := Vector.replicate 48 .unknown }

/-- The oldest message of the zone engine to the rule engine is taken off its path. -/
def dropZoneMessage (s : State) : State := s.setWires { s.wires with zonesToRules := s.wires.zonesToRules.tail }

/-- The oldest transition of a line is taken off its path. -/
def dropLineMessage (l : LineId) (s : State) : State :=
  s.setWires { s.wires with linesToRules := upd s.wires.linesToRules l (s.wires.linesToRules.get l).tail }

/-! ### Deadlines (R56, R60) -/

/-- The step deadline expires: IDLE, without actions, release or report (R60). -/
def expireStep (r : RuleId) (s : State) : State :=
  match s.ruleEngine.table.get r with
  | none => s
  | some rule =>
      if rule.run.state = .stepping ∧ due s.now rule.run.stepDeadline then settleRule r rule .idle s else s

/-- The cooldown deadline expires: the release, then IDLE (R56). -/
def expireCooldown (r : RuleId) (s : State) : State :=
  match s.ruleEngine.table.get r with
  | none => s
  | some rule =>
      if rule.run.state = .cooldown ∧ due s.now rule.run.cooldownDeadline then
        settleRule r rule .idle (releaseRule r rule .cooldownEnd s)
      else s

/-! ### Defining, arming and removing rules (R68–R72, R74) -/

/-- The reference test of one term (R68). -/
def termReference (s : State) (t : Term) : Option Turndown :=
  match t.operand with
  | .zone z => if (s.zoneEngine.table.get z).isSome then none else some .absent
  | .line l => if (s.lines.get l).mode = .input then none else some .state

/-- The reference test of one action (R68). -/
def actionReference (s : State) (a : Action) : Option Turndown :=
  match a with
  | .showView v _ _ _ _ => if (s.sched.views.get v).isSome then none else some .absent
  | .line l _ => if (s.lines.get l).mode = .output then none else some .state
  | _ => none

/-- The first reference of a record that fails, terms and then actions in list order (R68). -/
def ruleReferences (s : State) (cfg : RuleConfig) : Option Turndown :=
  (cfg.terms.map (termReference s) ++ cfg.actions.map (actionReference s)).findSome? id

/-- A rule is disarmed: a FIRED or COOLDOWN rule takes its release, and the armed field becomes no (R71). -/
def disarmRule (r : RuleId) (rule : Rule) (cause : ClearCause) (s : State) : State :=
  let s1 := if rule.run.state = .fired ∨ rule.run.state = .cooldown then releaseRule r rule cause s else s
  s1.setRule r (some ⟨{ rule.cfg with armed := false }, settledRun .disarmed rule.run⟩)

/-- A DISARMED rule is armed: an ORDER rule enters IDLE; another fires at once when its condition is true (R70). -/
def armRule (r : RuleId) (rule : Rule) (s : State) : State :=
  let armed : Rule := { rule with cfg := { rule.cfg with armed := true } }
  if condition s.ruleEngine rule.cfg .idle then fireRule r armed s else settleRule r armed .idle s

/-- A fresh runtime record in a state (R51, R69, R74). -/
def freshRun (st : RuleState) : RuleRun :=
  { state := st, step := none, stepDeadline := none, cooldownDeadline := none, fireCount := 0, lastFired := none }

/-- A rule stands DISARMED under a new record, and is armed if the record's armed field is yes (R69, R74). -/
def storeRule (r : RuleId) (cfg : RuleConfig) (run : RuleRun) (s : State) : State :=
  if cfg.armed then armRule r ⟨cfg, run⟩ s else s.setRule r (some ⟨cfg, run⟩)

/-- An accepted PUT_RULE (R69). -/
def putRule (r : RuleId) (cfg : RuleConfig) (s : State) : State :=
  match s.ruleEngine.table.get r with
  | none => storeRule r cfg (freshRun .disarmed) s
  | some old => storeRule r cfg (settledRun .disarmed old.run) (disarmRule r old .replaced s)

/-- ARM_RULE on a defined rule (R70, R71). -/
def setArmed (r : RuleId) (rule : Rule) (armed : Bool) (s : State) : State :=
  if armed then (if rule.cfg.armed then s else armRule r rule s) else disarmRule r rule .disarmed s

/-- DROP_RULE on a defined rule (R72). -/
def dropRule (r : RuleId) (rule : Rule) (s : State) : State := (disarmRule r rule .dropped s).setRule r none

/-- A rule defined before the application of a restored profile is disarmed with cause RESTORED (R74). -/
def displaceRule (s : State) (r : RuleId) : State :=
  match s.ruleEngine.table.get r with
  | none => s
  | some rule => disarmRule r rule .restored s

/-- The first event of a restored profile at the rule engine: every rule is disarmed, then removed (R74). DESIGN CHOICE
(log 40): the rules are disarmed, and send what they send, in the order W0 to W23. -/
def removeRules (s : State) : State :=
  let s1 := (allIds 24).foldl displaceRule s
  s1.setRules { s1.ruleEngine with table := Vector.replicate 24 none }

/-- One restored rule is stored, and armed if its armed field is yes (R74). -/
def restoreRule (p : Profile) (s : State) (r : RuleId) : State :=
  match p.rules.get r with
  | none => s.setRule r none
  | some cfg => storeRule r cfg (freshRun .disarmed) s

/-- The second event: the table takes the restored rules, and those armed are armed in ascending order (R74). -/
def restoreRules (p : Profile) (s : State) : State := (allIds 24).foldl (restoreRule p) s

/-! ### The commands -/

/-- ZONE_TRANSITION: the oldest message of the zone engine to the rule engine, where it is a transition (R50). -/
def execZoneTransition (s : State) : Result :=
  .next (match s.wires.zonesToRules with
    | .transition t :: _ => takeZoneTransition t (dropZoneMessage s)
    | _ => s)

/-- LINE_TRANSITION: the oldest transition of a line (R50, R131). -/
def execLineTransition (l : LineId) (s : State) : Result :=
  .next (match s.wires.linesToRules.get l with
    | t :: _ => takeLineTransition t (dropLineMessage l s)
    | [] => s)

/-- RESTART_NOTICE: the oldest message of the zone engine to the rule engine, where it is a restart (R74). -/
def execRestartNotice (s : State) : Result :=
  .next (match s.wires.zonesToRules with
    | .restart :: _ => takeRestart (dropZoneMessage s)
    | _ => s)

/-- STEP_DEADLINE_EXPIRY (R60). -/
def execStepDeadlineExpiry (r : RuleId) (s : State) : Result := .next (expireStep r s)

/-- COOLDOWN_DEADLINE_EXPIRY (R56). -/
def execCooldownDeadlineExpiry (r : RuleId) (s : State) : Result := .next (expireCooldown r s)

/-- PUT_RULE (R67–R69, R181). -/
def judgePutRule : Judgement :=
  configuration (judged parseRule fun (r, cfg) s =>
    match ruleReferences s cfg with
    | some t => (answerRefused t, s)
    | none => (answerOk [], putRule r cfg s))

/-- A command on a defined rule; an undefined id is answered ABSENT. -/
def onRule (r : RuleId) (f : Rule → State → Answer × State) (s : State) : Answer × State :=
  match s.ruleEngine.table.get r with
  | none => (answerRefused .absent, s)
  | some rule => f rule s

/-- DROP_RULE (R72, R182). -/
def judgeDropRule : Judgement :=
  configuration (judged (parseId 24) fun r s => onRule r (fun rule s => (answerOk [], dropRule r rule s)) s)

/-- ARM_RULE (R70, R71, R182). -/
def judgeArmRule : Judgement :=
  configuration (judged parseArmRule fun (r, armed) s =>
    onRule r (fun rule s => (answerOk [], setArmed r rule armed s)) s)

/-- GET_RULE (R73, R182, R193). -/
def judgeGetRule : Judgement :=
  judged (parseId 24) fun r s =>
    onRule r (fun rule s => (answerOk (ruleBytes r rule.cfg ++ ruleRunBytes s.now s.ruleEngine rule), s)) s

def execPutRule (s : State) : Result := .next (takeKind 0x20 judgePutRule s)

def execDropRule (s : State) : Result := .next (takeKind 0x21 judgeDropRule s)

def execArmRule (s : State) : Result := .next (takeKind 0x22 judgeArmRule s)

def execGetRule (s : State) : Result := .next (takeKind 0x23 judgeGetRule s)

/-- RESTORE_RULES_REMOVE (R74, R204). -/
def execRestoreRulesRemove (s : State) : Result := .next (takePart .rulesRemove (fun _ => removeRules) s)

/-- RESTORE_RULES_ARM: taken after the zone engine's restart notice (R74, R204). -/
def execRestoreRulesArm (s : State) : Result :=
  .next (if ZoneMessage.restart ∈ s.wires.zonesToRules then s else takePart .rulesArm restoreRules s)

end Sys2Proof.Machine
end

