-- ==== Sys2Proof/Machine/Contact.lean ====
section
/-! DEFINITION. The contact block (chapter 06): line modes, inputs and their debounce, claims, pulses and the
assertion of outputs, the line commands, and the restored lines. -/

namespace Sys2Proof.Machine

/-! ### Inputs (R129–R131) -/

/-- The CONTACT report of a line transition (R131). -/
def contactReport (t : LineChange) : Report :=
  { stamp := t.stamp, priority := 1, source := t.line.val + 1, detail := .contact t.previous t.new }

/-- A line sends a transition to the rule engine and offers its CONTACT report (R131). -/
def sendLineChange (t : LineChange) (s : State) : State := (s.tellLine t).offer (contactReport t)

/-- A change of an INPUT line is accepted at a time (R131). -/
def acceptChange (l : LineId) (stamp : Time) (s : State) : State :=
  let line := s.lines.get l
  sendLineChange ⟨l, line.accepted, otherState line.accepted, stamp⟩
    (s.setLine l { line with accepted := otherState line.accepted, pendingChange := none })

/-- A change toward the other accepted state begins: pending for the debounce, or accepted at once with debounce 0
(R129, R130). -/
def beginChange (l : LineId) (s : State) : State :=
  let line := s.lines.get l
  if line.debounce = 0 then acceptChange l s.now s
  else s.setLine l { line with pendingChange := some (later s.now line.debounce) }

/-- An INPUT line judges its pin afresh, its accepted state INACTIVE (R130). -/
def judgePin (l : LineId) (s : State) : State :=
  if s.extPins.get l = (s.lines.get l).activeLevel then beginChange l s else s

/-- A level change at an INPUT line's pin (R129). -/
def takeLevelChange (l : LineId) (s : State) : State :=
  let line := s.lines.get l
  if s.extPins.get l = levelOf line.activeLevel line.accepted then
    s.setLine l { line with pendingChange := none }
  else if line.pendingChange.isNone then beginChange l s
  else s

/-- The debounce deadline of a line expires: the change is accepted, at the time of the deadline (R129, R131). -/
def expireDebounce (l : LineId) (s : State) : State :=
  match (s.lines.get l).pendingChange with
  | some d => if reached s.now d then acceptChange l d s else s
  | none => s

/-! ### Outputs (R132–R134) -/

/-- An OUTPUT line's assertion is judged (R134). -/
def reassert (now : Time) (line : Line) : Line :=
  if line.mode = .output then { line with asserted := lineAsserted now line } else line

/-- The claimant set of an OUTPUT line with one rule added or removed (R132). -/
def claimLine (l : LineId) (r : RuleId) (present : Bool) (s : State) : State :=
  let line := s.lines.get l
  if line.mode = .output then
    s.setLine l (reassert s.now { line with claimants := upd line.claimants r present })
  else s

/-- A pulse claim on an OUTPUT line (R133). -/
def pulseLine (l : LineId) (steps : Nat) (s : State) : State :=
  let line := s.lines.get l
  if line.mode = .output then
    s.setLine l (reassert s.now { line with pulse := some (laterOf line.pulse (later s.now steps)) })
  else s

/-- The pulse deadline of a line expires (R133). -/
def expirePulse (l : LineId) (s : State) : State :=
  let line := s.lines.get l
  if due s.now line.pulse then s.setLine l (reassert s.now { line with pulse := none }) else s

/-! ### Modes (R127, R128, R135) -/

/-- The accepted state of a line becomes INACTIVE, with a transition and a report if it was ACTIVE, and a pending
change is discarded (R128). -/
def clearAccepted (l : LineId) (s : State) : State :=
  let line := s.lines.get l
  let s1 := s.setLine l { line with accepted := .inactive, pendingChange := none }
  if line.accepted = .active then sendLineChange ⟨l, .active, .inactive, s.now⟩ s1 else s1

/-- A line without claimants, pulse and assertion (R128). -/
def clearOutput (line : Line) : Line :=
  { line with claimants := Vector.replicate 24 false, pulse := none, asserted := false }

/-- The three configured fields are stored (R127). -/
def storeLine (l : LineId) (cfg : LineConfig) (s : State) : State :=
  s.setLine l { s.lines.get l with mode := cfg.mode, activeLevel := cfg.activeLevel, debounce := cfg.debounce }

/-- A line that is INPUT before the write acts on what changes (R128). -/
def writeInput (l : LineId) (cfg : LineConfig) (s : State) : State :=
  match cfg.mode with
  | .unused => storeLine l cfg (clearAccepted l s)
  | .input =>
      if cfg.activeLevel = (s.lines.get l).activeLevel then storeLine l cfg s
      else judgePin l (storeLine l cfg (clearAccepted l s))
  | .output =>
      let s1 := storeLine l cfg (clearAccepted l s)
      s1.setLine l (reassert s.now (clearOutput (s1.lines.get l)))

/-- A line that is not INPUT before the write acts on what changes (R128). -/
def writeOther (l : LineId) (cfg : LineConfig) (s : State) : State :=
  let line := s.lines.get l
  match cfg.mode with
  | .unused => storeLine l cfg (if line.mode = .output then s.setLine l (clearOutput line) else s)
  | .input =>
      judgePin l (storeLine l cfg (s.setLine l { clearOutput line with accepted := .inactive, pendingChange := none }))
  | .output =>
      if line.mode = .output then storeLine l cfg s
      else
        let s1 := storeLine l cfg s
        s1.setLine l (reassert s.now (clearOutput (s1.lines.get l)))

/-- A line record is written, by SET_LINE or by a restored profile (R128, R135). -/
def writeLine (l : LineId) (cfg : LineConfig) (s : State) : State :=
  if (s.lines.get l).mode = .input then writeInput l cfg s else writeOther l cfg s

/-- A new mode would break a reference of a defined rule (R127). -/
def lineInUse (l : LineId) (m : LineMode) (s : State) : Bool :=
  (m != .input && anyRule s.ruleEngine.table (namesLine · l))
    || (m != .output && anyRule s.ruleEngine.table (drivesLine · l))

/-- The restored lines are applied, each acting on what changes (R135). DESIGN CHOICE (log 38): in the order L1 to
L8. -/
def restoreLines (p : Profile) (s : State) : State :=
  (allIds 8).foldl (fun s l => writeLine l (p.lines.get l) s) s

/-! ### GET_LINES (R136, R185) -/

/-- A set of rules as 24 bits, bit n standing for Wn (R185). -/
def ruleBits (v : Vector Bool 24) : Nat := v.toList.foldr (fun b n => 2 * n + b.toNat) 0

/-- A time remaining of 16 bits, or FFFFh for none (R185). -/
def shortTimeOrNone (now : Time) : Option Time → List Byte
  | some d => be16 (remainingTo d now)
  | none => be16 0xFFFF

/-- The pin level that GET_LINES gives: LOW for an UNUSED line (R136). -/
def shownLevel (ext : Level) (line : Line) : Level := if line.mode = .unused then .low else pinLevel ext line

/-- One line block of GET_LINES (R185). -/
def lineBytes (now : Time) (ext : Level) (line : Line) : List Byte :=
  [lineModeCode line.mode, levelCode line.activeLevel, byte line.debounce, driveCode line.drive,
    levelCode (shownLevel ext line), lineStateCode line.accepted]
    ++ shortTimeOrNone now line.pendingChange ++ [yesNo line.asserted] ++ be24 (ruleBits line.claimants)
    ++ shortTimeOrNone now line.pulse

/-- GET_LINES' success fields (R136, R185). -/
def linesFields (s : State) : List Byte :=
  (allIds 8).flatMap fun l => lineBytes s.now (s.extPins.get l) (s.lines.get l)

/-! ### The commands -/

/-- PIN_LEVEL_CHANGE: the outside changes the level it puts on a pin; an INPUT line takes the change (R129). -/
def execPinLevelChange (l : LineId) (s : State) : Result :=
  .next (
    let s1 := s.setExtPins (upd s.extPins l (otherLevel (s.extPins.get l)))
    if (s.lines.get l).mode = .input then takeLevelChange l s1 else s1)

/-- DEBOUNCE_DEADLINE_EXPIRY (R129). -/
def execDebounceDeadlineExpiry (l : LineId) (s : State) : Result := .next (expireDebounce l s)

/-- LATCH_CLAIM: the oldest message of the rule engine, where it is a latch claim (R132). -/
def execLatchClaim (s : State) : Result :=
  .next (match s.wires.claims with
    | .latch r l :: rest => claimLine l r true (s.setWires { s.wires with claims := rest })
    | _ => s)

/-- LATCH_DROP: the oldest message of the rule engine, where it is a latch drop (R132). -/
def execLatchDrop (s : State) : Result :=
  .next (match s.wires.claims with
    | .drop r l :: rest => claimLine l r false (s.setWires { s.wires with claims := rest })
    | _ => s)

/-- PULSE_CLAIM: the oldest message of the rule engine, where it is a pulse claim (R133). -/
def execPulseClaim (s : State) : Result :=
  .next (match s.wires.claims with
    | .pulse l steps :: rest => pulseLine l steps (s.setWires { s.wires with claims := rest })
    | _ => s)

/-- PULSE_DEADLINE_EXPIRY (R133). -/
def execPulseDeadlineExpiry (l : LineId) (s : State) : Result := .next (expirePulse l s)

/-- SET_LINE (R127, R128, R185). -/
def judgeSetLine : Judgement :=
  configuration (judged parseSetLine fun (l, cfg) s =>
    if lineInUse l cfg.mode s then (answerRefused .inUse, s) else (answerOk [], writeLine l cfg s))

/-- DRIVE_LINE (R134, R185). -/
def judgeDriveLine : Judgement :=
  judged parseDriveLine fun (l, d) s =>
    (answerOk [], s.setLine l (reassert s.now { s.lines.get l with drive := d }))

/-- GET_LINES (R136, R185). -/
def judgeGetLines : Judgement := judged parseNone fun _ s => (answerOk (linesFields s), s)

def execSetLine (s : State) : Result := .next (takeKind 0x40 judgeSetLine s)

def execDriveLine (s : State) : Result := .next (takeKind 0x41 judgeDriveLine s)

def execGetLines (s : State) : Result := .next (takeKind 0x42 judgeGetLines s)

/-- RESTORE_LINES (R135, R204). -/
def execRestoreLines (s : State) : Result := .next (takePart .lines restoreLines s)

end Sys2Proof.Machine
end

