-- ==== Sys2Proof/Machine/Profile.lean ====
section
/-! DEFINITION. The profile store (chapter 10): commits, restores and the handing out of a restored profile's parts,
erasure, the profile commands, and the checks of a slot that is read. -/

namespace Sys2Proof.Machine

/-! ### Slots and the directory (R196, R198) -/

/-- A slot of the store. -/
def slotOf (id : SlotId) (x : ProfileStore) : Slot :=
  match id with
  | .a => x.slotA
  | .b => x.slotB

/-- A directory entry of the store. -/
def dirOf (id : SlotId) (x : ProfileStore) : Option DirectoryEntry :=
  match id with
  | .a => x.dirA
  | .b => x.dirB

/-- A slot and its directory entry are replaced. -/
def putSlot (id : SlotId) (slot : Slot) (dir : Option DirectoryEntry) (x : ProfileStore) : ProfileStore :=
  match id with
  | .a => { x with slotA := slot, dirA := dir }
  | .b => { x with slotB := slot, dirB := dir }

/-- The newest valid slot, by the directory (R198). -/
def newest (x : ProfileStore) : Option SlotId := newestSlot x.dirA x.dirB

/-- The other slot. -/
def otherSlot : SlotId → SlotId
  | .a => .b
  | .b => .a

/-- A PROFILE report (R208). -/
def profileReport (now : Time) (event : ProfileEvent) (slot : Option SlotId) (gen : Option Word32) : Report :=
  { stamp := now, priority := 2, source := slotCode slot, detail := .profile event gen }

/-- The store without an operation in progress (R199). -/
def idleStore (x : ProfileStore) : ProfileStore :=
  { x with
    block := .idle, target := none, targetGen := none, snapshot := none, phase := none, restoreSlot := none
    applying := none, handed := [], notices := [], taken := [] }

/-- An operation ends: the store is IDLE and offers its PROFILE report (R208). -/
def endOperation (x : ProfileStore) (r : Report) (s : State) : State := (s.setStore (idleStore x)).offer r

/-! ### Commit (R200, R201) -/

/-- The configuration as every owning block holds it (R197). -/
def runningProfile (s : State) : Profile :=
  { cameras := s.cams.map fun c => ⟨c.enabled, c.parity⟩
    classes := s.zoneEngine.classes
    zones := s.zoneEngine.table.map (Option.map (·.cfg))
    rules := s.ruleEngine.table.map (Option.map (·.cfg))
    views := s.sched.views
    rotation := s.sched.rotation
    minShow := s.sched.minShow
    lines := s.lines.map fun l => ⟨l.mode, l.activeLevel, l.debounce⟩
    head := s.head.settings
    filter := s.reports.filter }

/-- The contents of a profile: at most 2,560 bytes in the store's own arrangement (R197; log 7). -/
def profileContents (p : Profile) : SlotContents := ⟨(Config.profileBytes p).take 2560, some p⟩

/-- What a write phase without a fault leaves in the length, contents and CRC fields (R201). -/
def writtenImage (p : Profile) : SlotImage :=
  { length := (profileContents p).bytes.length, contents := profileContents p
    crc := slotCrc (profileContents p).bytes.length (profileContents p) }

/-- The target of a commit: the slot that is not the newest valid one, slot A when there is none (R200). -/
def commitTarget (x : ProfileStore) : SlotId :=
  match newest x with
  | some id => otherSlot id
  | none => .a

/-- The generation a commit gives: the newest valid generation plus 1, 1 when no slot is valid; none after FFFFFFFEh
(R200). -/
def commitGeneration (x : ProfileStore) : Option Word32 :=
  match (newest x).bind (dirOf · x) with
  | none => some 1
  | some e => if e.generation = 0xFFFFFFFE then none else some (e.generation + 1)

/-- A commit begins: its target is erased by generation and invalid in the directory (R200). -/
def beginCommit (gen : Word32) (p : Profile) (x : ProfileStore) : ProfileStore :=
  let id := commitTarget x
  { putSlot id { slotOf id x with generation := 0xFFFFFFFF } none x with
    block := .committing, target := some id, targetGen := some gen, snapshot := some p, phase := some .write }

/-- An accepted COMMIT (R200, R201). -/
def takeCommit (s : State) : State :=
  match commitGeneration s.store with
  | some gen => s.setStore (beginCommit gen (runningProfile s) s.store)
  | none => endOperation s.store (profileReport s.now .commitFailed none none) s

/-- A commit fails (R201). -/
def failCommit (x : ProfileStore) (s : State) : State :=
  endOperation x (profileReport s.now .commitFailed x.target none) s

/-- The slot as a write phase leaves it, its generation still FFFFFFFFh (R201). -/
def writtenSlot (slot : Slot) (i : SlotImage) : Slot :=
  { slot with length := i.length, contents := i.contents, crc := i.crc }

/-- The write phase completes: the target holds what was stored, the snapshot when the write had no fault (R201;
log 24). -/
def completeWrite (stored : Option SlotImage) (s : State) : State :=
  match s.store.phase, s.store.target, s.store.snapshot with
  | some .write, some id, some p =>
      s.setStore { putSlot id (writtenSlot (slotOf id s.store) (stored.getD (writtenImage p))) none s.store with
                   phase := some .verify }
  | _, _, _ => s

/-- The target reads back as written: its length is allowed, its CRC agrees, its contents are the snapshot's
(R201). -/
def verifies (slot : Slot) (p : Profile) : Bool := slotCrcGood slot && slot.contents == profileContents p

/-- The verify phase completes: the generation write begins, or the commit fails (R201). -/
def completeVerify (readGood : Bool) (s : State) : State :=
  match s.store.phase, s.store.target, s.store.snapshot with
  | some .verify, some id, some p =>
      if readGood && verifies (slotOf id s.store) p then s.setStore { s.store with phase := some .generation }
      else failCommit s.store s
  | _, _, _ => s

/-- The generation write completes (R201): read back as written, the target is valid and the newest; otherwise
FFFFFFFFh is written again, and the directory entry is set from what the slot then reads back. -/
def completeGeneration (readBack afterErase : Word32) (s : State) : State :=
  match s.store.phase, s.store.target, s.store.targetGen with
  | some .generation, some id, some gen =>
      let slot := slotOf id s.store
      if readBack = gen then
        endOperation (putSlot id { slot with generation := gen } (some ⟨gen, slot.length⟩) s.store)
          (profileReport s.now .committed (some id) (some gen)) s
      else
        let slot' := { slot with generation := afterErase }
        failCommit (putSlot id slot' (judgeSlot slot') s.store) s
  | _, _, _ => s

/-! ### The checks of a slot that is read (R203) -/

/-- A record's bytes are accepted, as that record, by the tests of the command that writes it. -/
def accepted {α : Type} [DecidableEq α] (r : Except Turndown α) (x : α) : Bool :=
  match r with
  | .ok y => decide (y = x)
  | .error _ => false

/-- An undefined entry, or a record that its command's tests accept. -/
def entryGood {α : Type} (f : α → Bool) : Option α → Bool
  | some x => f x
  | none => true

/-- Every entry of a table passes its test. -/
def tableGood {α : Type} {n : Nat} (f : Fin n → α → Bool) (v : Vector (Option α) n) : Bool :=
  (allIds n).all fun i => entryGood (f i) (v.get i)

/-- The contents lie in the ranges the owning blocks accept (R203). -/
def rangesGood (p : Profile) : Bool :=
  (allIds 8).all (fun k => accepted (parseSetClass (classBytes k (p.classes.get k))) (k, p.classes.get k))
    && tableGood (fun z c => accepted (parseZone (zoneBytes z c)) (z, c)) p.zones
    && tableGood (fun r c => accepted (parseRule (ruleBytes r c)) (r, c)) p.rules
    && tableGood (fun v c => accepted (parseView (viewBytes v c)) (v, c)) p.views
    && decide (p.rotation.length ≤ 16) && p.rotation.all (fun e => decide (e.dwell ≤ 255))
    && decide (p.minShow ≤ 255) && (allIds 8).all (fun l => decide ((p.lines.get l).debounce ≤ 255))
    && decide (2 ≤ p.head.timeout) && decide (p.head.timeout ≤ 255) && decide (p.head.retries ≤ 3)
    && decide (1 ≤ p.head.gap) && decide (p.head.gap ≤ 50)
    && (allIds 9).all (fun k => decide ((p.filter.get k).minPriority ≤ 3))

/-- The references of one term stand within the profile (R203). -/
def termStands (p : Profile) (t : Term) : Bool :=
  match t.operand with
  | .zone z => (p.zones.get z).isSome
  | .line l => (p.lines.get l).mode == .input

/-- The references of one action stand within the profile (R203). -/
def actionStands (p : Profile) (a : Action) : Bool :=
  match a with
  | .showView v _ _ _ _ => (p.views.get v).isSome
  | .line l _ => (p.lines.get l).mode == .output
  | _ => true

/-- The law on rule references holds within the profile (R68, R203). -/
def referencesGood (p : Profile) : Bool :=
  tableGood (fun (_ : Fin 24) c => c.terms.all (termStands p) && c.actions.all (actionStands p)) p.rules
    && p.rotation.all fun e => (p.views.get e.view).isSome

/-- The profile that a slot gives, when it passes the checks of R203. -/
def checkedProfile (slot : Slot) : Option Profile :=
  if slotCrcGood slot then slot.contents.profile.filter fun p => rangesGood p && referencesGood p else none

/-! ### Restore (R203, R204) -/

/-- The slot that a selector names: itself, or the newest valid one (R203). -/
def selected (selector : Option SlotId) (x : ProfileStore) : Option SlotId :=
  match selector with
  | some id => if (dirOf id x).isSome then some id else none
  | none => newest x

/-- The report of the end of a restore, with the slot and its generation in the directory (R208). -/
def restoreReport (now : Time) (event : ProfileEvent) (x : ProfileStore) : Report :=
  profileReport now event x.restoreSlot ((x.restoreSlot.bind (dirOf · x)).map (·.generation))

/-- The read of a restore completes: the profile is applied, beginning with the rule engine's first event, or the
restore fails (R203, R204). -/
def completeRead (readGood : Bool) (s : State) : State :=
  match s.store.block, s.store.applying, s.store.restoreSlot with
  | .restoring, none, some id =>
      match (if readGood then checkedProfile (slotOf id s.store) else none) with
      | some p => s.setStore { s.store with applying := some p, handed := [.rulesRemove] }
      | none => endOperation s.store (restoreReport s.now .restoreFailed s.store) s
  | _, _, _ => s

/-- The parts handed together in the second step (R204). -/
def secondParts : List Part := [.zones, .lines, .filter, .headLink]

/-- The parts handed together in the third step (R204). -/
def thirdParts : List Part :=
  [.camera 0, .camera 1, .camera 2, .camera 3, .camera 4, .camera 5, .schedule]

/-- Every part of a profile (R204). -/
def allParts : List Part := .rulesRemove :: secondParts ++ thirdParts ++ [.rulesArm]

/-- The parts that the notice of a part lets the store hand on, of those whose notices it has taken (R204). -/
def nextParts (taken : List Part) : Part → List Part
  | .rulesRemove => secondParts
  | .zones => if Part.lines ∈ taken then thirdParts else []
  | .lines => if Part.zones ∈ taken then thirdParts else []
  | .schedule => [.rulesArm]
  | _ => []

/-- The store takes the notice of a part that has been taken: it hands on the next parts, and when every part has
been taken the restore is complete (R204). -/
def takePartNotice (p : Part) (s : State) : State :=
  if s.store.applying.isSome ∧ p ∈ s.store.notices then
    let x := { s.store with
      notices := s.store.notices.erase p, taken := p :: s.store.taken
      handed := s.store.handed ++ nextParts s.store.taken p }
    if allParts.all (x.taken.contains ·) then endOperation x (restoreReport s.now .restored x) s
    else s.setStore x
  else s

/-! ### Erase (R205) -/

/-- Both slots are invalidated, A and then B: their generations read back as given (R205). -/
def erasedSlots (readA readB : Word32) (x : ProfileStore) : ProfileStore :=
  let a := { x.slotA with generation := readA }
  let b := { x.slotB with generation := readB }
  { x with slotA := a, slotB := b, dirA := judgeSlot a, dirB := judgeSlot b }

/-- The report of an erase's end (R205, R208). -/
def eraseReport (now : Time) (readA readB : Word32) : Report :=
  if readA ≠ 0xFFFFFFFF then profileReport now .eraseFailed (some .a) none
  else if readB ≠ 0xFFFFFFFF then profileReport now .eraseFailed (some .b) none
  else profileReport now .erased none none

/-- The preparation of an erase completes (R205). -/
def completeErase (readA readB : Word32) (s : State) : State :=
  if s.store.block = .erasing then
    endOperation (erasedSlots readA readB s.store) (eraseReport s.now readA readB) s
  else s

/-! ### GET_PROFILE (R187, R199) -/

/-- A directory entry in GET_PROFILE's reply: an invalid slot is given with generation FFFFFFFFh and length 0. -/
def entryBytes : Option DirectoryEntry → List Byte
  | some e => [1] ++ be32 e.generation.toNat ++ be16 e.length
  | none => [0] ++ be32 0xFFFFFFFF ++ be16 0

/-- The start-up source and generation, 0 for FACTORY (R177, R189). -/
def startBytes (x : ProfileStore) : List Byte := [byte (slotCode x.startSource)] ++ be32 (x.startGen.getD 0).toNat

/-- GET_PROFILE's success fields (R187). -/
def profileFields (x : ProfileStore) : List Byte :=
  [blockStateCode x.block] ++ entryBytes x.dirA ++ entryBytes x.dirB ++ startBytes x

/-! ### The commands -/

/-- COMMIT (R187, R200). -/
def judgeCommit : Judgement :=
  judged parseNone fun _ s =>
    if s.store.block = .idle then (answerAccepted [], takeCommit s) else (answerRefused .busy, s)

/-- RESTORE (R187, R203). -/
def judgeRestore : Judgement :=
  judged parseSelector fun selector s =>
    if s.store.block = .idle then
      match selected selector s.store with
      | some id => (answerAccepted [], s.setStore { s.store with block := .restoring, restoreSlot := some id })
      | none => (answerRefused .absent, s)
    else (answerRefused .busy, s)

/-- ERASE_PROFILE (R187, R205). -/
def judgeErase : Judgement :=
  judged parseNone fun _ s =>
    if s.store.block = .idle then (answerAccepted [], s.setStore { s.store with block := .erasing })
    else (answerRefused .busy, s)

/-- GET_PROFILE (R187, R199). -/
def judgeGetProfile : Judgement := judged parseNone fun _ s => (answerOk (profileFields s.store), s)

def execCommit (s : State) : Result := .next (takeKind 0x50 judgeCommit s)

def execRestore (s : State) : Result := .next (takeKind 0x51 judgeRestore s)

def execEraseProfile (s : State) : Result := .next (takeKind 0x52 judgeErase s)

def execGetProfile (s : State) : Result := .next (takeKind 0x53 judgeGetProfile s)

/-- COMMIT_WRITE_DONE (R201). -/
def execCommitWriteDone (stored : Option SlotImage) (s : State) : Result := .next (completeWrite stored s)

/-- COMMIT_VERIFY_DONE (R201). -/
def execCommitVerifyDone (readGood : Bool) (s : State) : Result := .next (completeVerify readGood s)

/-- GENERATION_WRITE_DONE (R201). -/
def execGenerationWriteDone (readBack afterErase : Word32) (s : State) : Result :=
  .next (completeGeneration readBack afterErase s)

/-- RESTORE_READ_DONE (R203). -/
def execRestoreReadDone (readGood : Bool) (s : State) : Result := .next (completeRead readGood s)

/-- PART_TAKEN_NOTICE (R204). -/
def execPartTakenNotice (p : Part) (s : State) : Result := .next (takePartNotice p s)

/-- ERASE_PREPARE_DONE (R205). -/
def execErasePrepareDone (readA readB : Word32) (s : State) : Result := .next (completeErase readA readB s)

end Sys2Proof.Machine
end

