-- ==== Sys2Proof/Machine/Reports.lean ====
section
/-! DEFINITION. The report queue (chapter 05): the taking of offers, overflow, PULL and PUSH delivery,
retransmission, acknowledgement, and what openings, closures and completed frames do to it. -/

namespace Sys2Proof.Machine

/-! ### Entry (R109–R112) -/

/-- The sequence after one: from 65535 it goes to 1 (R110). -/
def nextSequence (n : Nat) : Nat := if n = 65535 then 1 else n + 1

/-- A report enters at the newest end under the next sequence, UNSENT (R110, R111). -/
def enterRecord (r : Report) (q : ReportQueue) : ReportQueue :=
  { q with records := q.records ++ [⟨q.nextSeq, r, .unsent⟩], nextSeq := nextSequence q.nextSeq }

/-- A report is lost (R113). -/
def countDrop (q : ReportQueue) : ReportQueue := { q with dropped := bump q.dropped }

/-- A created report finds the queue full: the victim yields to a report of higher priority (R112). -/
def overflow (r : Report) (q : ReportQueue) : ReportQueue :=
  match victimOf q.records with
  | some v =>
      if v.report.priority < r.priority then
        enterRecord r (countDrop { q with records := q.records.filter fun x => x.seq != v.seq })
      else countDrop q
  | none => countDrop q

/-- An offer is taken: filtered, entered, or met by a full queue (R107, R109). -/
def takeReport (r : Report) (q : ReportQueue) : ReportQueue :=
  if passesFilter q.filter r then
    if q.records.length < 32 then enterRecord r q else overflow r q
  else q

/-- The oldest offer of a kind among those waiting, where no offer made before it must be taken first; with it, the
offers that are left (R109; log 8). -/
def nextOffer (k : ReportKind) : List Report → List Report → Option (Report × List Report)
  | _, [] => none
  | earlier, r :: rest =>
      if reportKind r = k then
        if earlier.any (mustPrecede · r) then none else some (r, earlier ++ rest)
      else nextOffer k (earlier ++ [r]) rest

/-! ### Sessions (R116, R117) -/

/-- Every record is marked UNSENT (R116). -/
def unsentRecords (rs : List Record) : List Record := rs.map fun r => { r with mark := .unsent }

/-- The queue is told that the session is open (R116). -/
def queueOpened (mode : DeliveryMode) (window retransmit : Nat) (q : ReportQueue) : ReportQueue :=
  { q with
    records := unsentRecords q.records
    delivery := { session := .opened, mode := mode, window := window, retransmit := retransmit, retry := 0
                  deadline := none, round := none } }

/-- The queue is told that the session is closed (R117). -/
def queueClosed (q : ReportQueue) : ReportQueue :=
  { q with
    records := unsentRecords q.records
    delivery := { q.delivery with session := .closed, retry := 0, deadline := none, round := none } }

/-! ### Completed frames and retransmission (R120–R122) -/

/-- The retransmit deadline after a moment at which it is set afresh: none when no record is PUSHED (R121, R124). -/
def retransmitFrom (now : Time) (q : ReportQueue) : Option Time :=
  if 0 < pushedCount q.records then some (later now q.delivery.retransmit) else none

/-- The round ends (R121). -/
def endRound (now : Time) (q : ReportQueue) : ReportQueue :=
  { q with delivery := { q.delivery with round := none, deadline := retransmitFrom now q } }

/-- The record of a sequence is held and marked SENDING (R120). -/
def isSending (seq : Nat) (rs : List Record) : Bool :=
  match recordOf seq rs with
  | some r => r.mark == .sending
  | none => false

/-- A REPORT frame's transmission completes: a resend that leaves its round empty ends the round; a first send whose
record is still SENDING is PUSHED and restarts the deadline (R120, R121; log 18). -/
def completeReport (now : Time) (seq : Nat) (resend : Bool) (q : ReportQueue) : ReportQueue :=
  if resend then
    (if q.delivery.round = some [] then endRound now q else q)
  else if isSending seq q.records then
    { q with
      records := markRecord seq .pushed q.records
      delivery := { q.delivery with deadline := some (later now q.delivery.retransmit) } }
  else q

/-- The sequences of the PUSHED records, oldest first (R121). -/
def pushedSequences (rs : List Record) : List Nat := (rs.filter fun r => r.mark == .pushed).map (·.seq)

/-- The queue at an expiry of the retransmit deadline that starts a round (R121). -/
def startRound (q : ReportQueue) : ReportQueue :=
  { q with delivery := { q.delivery with
    deadline := none, retry := q.delivery.retry + 1, round := some (pushedSequences q.records) } }

/-- The queue at the expiry that declares a stall (R122). -/
def stallQueue (q : ReportQueue) : ReportQueue :=
  { q with delivery := { q.delivery with deadline := none, retry := 8 } }

/-- The retransmit deadline expires: a round, or at the eighth expiry a stall (R121, R122). While a round is in
progress no retransmit deadline runs, so none expires, whatever is set (R121; log 18). -/
def expireRetransmit (s : State) : State :=
  if s.reports.delivery.round.isNone ∧ due s.now s.reports.delivery.deadline then
    if s.reports.delivery.retry + 1 < 8 then (s.setReports (startRound s.reports)).kick
    else (s.setReports (stallQueue s.reports)).setWires { s.wires with stall := true }
  else s

/-! ### Acknowledgement (R123, R124) -/

/-- The records that an ACK of a sequence leaves; none when the sequence names no record (R123). -/
def recordsAfter (seq : Nat) : List Record → Option (List Record)
  | [] => none
  | r :: rs => if r.seq = seq then some rs else recordsAfter seq rs

/-- The sequences of a round that records still hold (R124). -/
def keptRound (left : List Record) (round : List Nat) : List Nat :=
  round.filter fun n => left.any fun r => r.seq == n

/-- The sequence of the record whose resend is on the line (R119). -/
def resendOnLine (l : HostLink) : Option Nat :=
  match l.tx with
  | some ⟨_, .report n true, _⟩ => some n
  | _ => none

/-- A round at an ACK: the removed records are taken out of it, and left empty it has ended (R121, R124). One that is
empty already, its last resend on the line, ends with the removal of that record (log 36). -/
def roundAfter (left : List Record) (online : Option Nat) : Option (List Nat) → Option (List Nat)
  | none => none
  | some [] => if left.any (fun r => online == some r.seq) then some [] else none
  | some (n :: ns) => match keptRound left (n :: ns) with
      | [] => none
      | kept => some kept

/-- The retransmit deadline after an ACK: discarded when no record is PUSHED, set afresh when no round is in
progress (R124). -/
def deadlineAfter (now : Time) (q : ReportQueue) : Option Time :=
  if pushedCount q.records = 0 then none
  else if q.delivery.round.isNone then some (later now q.delivery.retransmit)
  else q.delivery.deadline

/-- The queue after an ACK that leaves these records (R123, R124). -/
def ackQueue (now : Time) (left : List Record) (online : Option Nat) (q : ReportQueue) : ReportQueue :=
  let q1 := { q with records := left
                     delivery := { q.delivery with retry := 0, round := roundAfter left online q.delivery.round } }
  { q1 with delivery := { q1.delivery with deadline := deadlineAfter now q1 } }

/-! ### The commands -/

/-- REPORT_OFFER: the oldest waiting offer of a kind is taken; then the transmitter chooses, if it is free (R109,
R165). -/
def execReportOffer (k : ReportKind) (s : State) : Result :=
  .next (match nextOffer k [] s.wires.offers with
    | some (r, rest) =>
        ((s.setWires { s.wires with offers := rest }).setReports (takeReport r s.reports)).kick
    | none => s)

/-- The filter is replaced whole (R108). -/
def writeFilter (f : Filter) (s : State) : State := s.setReports { s.reports with filter := f }

/-- SET_FILTER (R108, R184). -/
def judgeSetFilter : Judgement :=
  configuration (judged parseFilter fun f s => (answerOk [], writeFilter f s))

/-- The records that a PULL of a count carries (R118). -/
def pulledRecords (n : Nat) (q : ReportQueue) : List Record := q.records.take (min n 8)

/-- PULL's success fields (R118, R191). -/
def pullFields (n : Nat) (q : ReportQueue) : List Byte :=
  be16 q.dropped ++ [byte q.records.length, byte (pulledRecords n q).length]
    ++ (pulledRecords n q).flatMap recordBytes

/-- PULL: refused STATE in PUSH mode (R118, R184). -/
def judgePull : Judgement :=
  judged parseByte fun n s =>
    if s.reports.delivery.mode = .push then (answerRefused .state, s)
    else (answerOk (pullFields n.toNat s.reports), s)

/-- The fill of the queue and the dropped total, which an ACK's answer carries (R175, R184). -/
def fillFields (q : ReportQueue) : List Byte := byte q.records.length :: be16 q.dropped

/-- ACK (R123, R124, R184). -/
def judgeAck : Judgement :=
  judged parseWord fun seq s =>
    match recordsAfter seq s.reports.records with
    | none => (⟨turndownBytes .absent ++ fillFields s.reports, none⟩, s)
    | some left =>
        (answerOk (byte (s.reports.records.length - left.length) :: byte left.length :: be16 s.reports.dropped),
          s.setReports (ackQueue s.now left (resendOnLine s.link) s.reports))

def execSetFilter (s : State) : Result := .next (takeKind 0x38 judgeSetFilter s)

def execPull (s : State) : Result := .next (takeKind 0x39 judgePull s)

def execAck (s : State) : Result := .next (takeKind 0x3A judgeAck s)

/-- RESTORE_FILTER: the restored filter, in the same way as a SET_FILTER (R108, R204). -/
def execRestoreFilter (s : State) : Result := .next (takePart .filter (fun p => writeFilter p.filter) s)

/-- RETRANSMIT_DEADLINE_EXPIRY (R121, R122). -/
def execRetransmitDeadlineExpiry (s : State) : Result := .next (expireRetransmit s)

end Sys2Proof.Machine
end

