-- ==== Sys2Proof/Machine/Zones.lean ====
section
/-! DEFINITION. The zone engine (chapter 02): zone transitions, placement, the judgement of field summaries, camera
notices, the class and zone commands, and the restored classes and zones. -/

namespace Sys2Proof.Machine

/-- A cleared runtime record in a state (R22, R44, R45). -/
def clearedRun (st : ZoneState) : ZoneRun :=
  { state := st, reference := none, learnSum := 0, learnCount := 0, history := [], lastS := none, lastD := none
    fieldsInState := 0, onsetCount := 0, lastCause := none, stamp := 0 }

/-- The runtime record on entry to a state (R27): entry to OFF, BLIND or LEARNING clears it, last S on entry to OFF
or BLIND as well; fields in state becomes 0; cause and stamp are the transition's. -/
def enterZoneState (run : ZoneRun) (st : ZoneState) (cause : ZoneCause) (stamp : Time) : ZoneRun :=
  let kept : ZoneRun := match st with
    | .off => { run with reference := none, learnSum := 0, learnCount := 0, history := [], lastD := none,
                         lastS := none }
    | .blind => { run with reference := none, learnSum := 0, learnCount := 0, history := [], lastD := none,
                           lastS := none }
    | .learning => { run with reference := none, learnSum := 0, learnCount := 0, history := [], lastD := none }
    | _ => run
  { kept with state := st, fieldsInState := 0, lastCause := some cause, stamp := stamp }

/-- The report-cause flag under which a cause is reported (R40). -/
def causeFlag (f : CauseFlags) : ZoneCause → Bool
  | .learned => f.learned
  | .onset => f.onset
  | .calm => f.calm
  | .stale => f.stale
  | _ => f.lost

/-- The ZONE report of a transition (R42). -/
def zoneReport (z : ZoneId) (old : ZoneState) (zone : Zone) (cause : ZoneCause) : Report :=
  { stamp := zone.run.stamp, priority := zone.cfg.priority, source := z.val
    detail := .zone old zone.run.state cause zone.run.lastS zone.run.reference zone.run.lastD
      zone.run.onsetCount }

/-- A zone makes a transition (R27, R41, R42): its record is `zone` entering the state, one zone transition goes to
the rule engine, and a ZONE report is offered where the report causes include the cause. -/
def zoneTransition (z : ZoneId) (zone : Zone) (st : ZoneState) (cause : ZoneCause) (stamp : Time) (s : State) :
    State :=
  let new : Zone := { zone with run := enterZoneState zone.run st cause stamp }
  let s1 := (s.setZone z (some new)).tellRules (.transition ⟨z, zone.run.state, st, cause, stamp⟩)
  if causeFlag zone.cfg.causes cause then s1.offer (zoneReport z zone.run.state new cause) else s1

/-- A zone has visible cells in the zone engine's sense: its copy of the camera is LOCKED and R13 gives visible
cells under the copy's standard (R28). -/
def zoneVisible (e : ZoneEngine) (cfg : ZoneConfig) : Bool :=
  (e.camCopy.get cfg.camera).state == .locked && hasVisibleCells (e.camCopy.get cfg.camera).standard cfg

/-- Placement: LEARNING with visible cells, BLIND otherwise (R31). -/
def placement (e : ZoneEngine) (cfg : ZoneConfig) : ZoneState :=
  if zoneVisible e cfg then .learning else .blind

/-! ### Judging a measured field (R32–R37) -/

/-- The change measure d (R34). -/
def changeMeasure (cls : SensClass) (reference mean : Nat) : Nat :=
  min 65535 ((max mean reference - min mean reference) * 1000 / max reference cls.darkFloor)

/-- The hit history with a new judgement at its head, at most 16 long (R35). -/
def pushHistory (hit : Bool) (h : List Bool) : List Bool := (hit :: h).take 16

/-- The hit count over the newest W entries (R35). -/
def hitCount (cls : SensClass) (h : List Bool) : Nat := (h.take cls.window).count true

/-- The reference adapted toward S: R + trunc((S − R) / 2^a), frozen when a is 0 (R36). -/
def adaptReference (cls : SensClass) (reference mean : Nat) : Nat :=
  if cls.adapt = 0 then reference
  else ((reference : Int) + ((mean : Int) - (reference : Int)).tdiv (2 ^ cls.adapt : Nat)).toNat

/-- A measured field taken in LEARNING (R33). -/
def learnField (cls : SensClass) (z : ZoneId) (zone : Zone) (mean : Nat) (stamp : Time) (s : State) : State :=
  let run := { zone.run with
    learnSum := zone.run.learnSum + mean, learnCount := zone.run.learnCount + 1
    fieldsInState := bump zone.run.fieldsInState, lastS := some mean }
  if cls.learn ≤ run.learnCount then
    zoneTransition z { zone with run := { run with reference := some (run.learnSum / run.learnCount), history := [] } }
      .quiet .learned stamp s
  else s.setZone z (some { zone with run := run })

/-- The record after a field is judged a hit or a miss in QUIET or ACTIVE (R34, R35), with fields in state raised
(R36, R37). -/
def judgedRun (cls : SensClass) (run : ZoneRun) (reference mean : Nat) : ZoneRun :=
  let d := changeMeasure cls reference mean
  { run with
    lastS := some mean, lastD := some d, history := pushHistory (decide (cls.threshold ≤ d)) run.history
    fieldsInState := bump run.fieldsInState }

/-- A measured field taken in QUIET (R36). -/
def quietField (cls : SensClass) (z : ZoneId) (zone : Zone) (reference mean : Nat) (stamp : Time) (s : State) :
    State :=
  let run := judgedRun cls zone.run reference mean
  if cls.kOn ≤ hitCount cls run.history then
    zoneTransition z { zone with run := { run with onsetCount := bump run.onsetCount } } .active .onset stamp s
  else s.setZone z (some { zone with run := { run with reference := some (adaptReference cls reference mean) } })

/-- A measured field taken in ACTIVE (R37). -/
def activeField (cls : SensClass) (z : ZoneId) (zone : Zone) (reference mean : Nat) (stamp : Time) (s : State) :
    State :=
  let run := judgedRun cls zone.run reference mean
  if hitCount cls run.history ≤ cls.kOff ∧ cls.hold ≤ run.fieldsInState then
    zoneTransition z { zone with run := run } .quiet .calm stamp s
  else if cls.maxActive ≠ 0 ∧ cls.maxActive ≤ run.fieldsInState then
    zoneTransition z { zone with run := run } .learning .stale stamp s
  else s.setZone z (some { zone with run := run })

/-- One entry of a field summary (R32). -/
def takeEntry (stamp : Time) (s : State) (entry : ZoneId × Nat) : State :=
  match s.zoneEngine.table.get entry.1 with
  | none => s
  | some zone =>
      let cls := s.zoneEngine.classes.get zone.cfg.cls
      match zone.run.state with
      | .off => s
      | .blind => s
      | .learning => learnField cls entry.1 zone entry.2 stamp s
      | .quiet => quietField cls entry.1 zone (zone.run.reference.getD 0) entry.2 stamp s
      | .active => activeField cls entry.1 zone (zone.run.reference.getD 0) entry.2 stamp s

/-- A field summary is taken whole, its entries in list order (§2.5). -/
def takeSummary (f : Summary) (s : State) : State := f.entries.foldl (takeEntry f.stamp) s

/-! ### Camera notices (R28–R30) -/

/-- What a notice does to one zone that names the camera (R29, R30). -/
def noticeZone (n : CameraNotice) (c : CameraId) (s : State) (z : ZoneId) : State :=
  match s.zoneEngine.table.get z with
  | none => s
  | some zone =>
      if zone.cfg.camera = c then
        if n.previous = .locked then
          match zone.run.state with
          | .off => s
          | .blind => s
          | _ => zoneTransition z zone .blind .lost s.now s
        else if n.new = .locked ∧ zone.run.state = .blind then
          if zoneVisible s.zoneEngine zone.cfg then zoneTransition z zone .learning .seen s.now s
          else zoneTransition z zone .blind .notVisible s.now s
        else s
      else s

/-- A camera notice: the copy first, then the camera's zones in ascending order (R28). -/
def takeZoneNotice (c : CameraId) (n : CameraNotice) (s : State) : State :=
  let s1 := s.setZones { s.zoneEngine with camCopy := upd s.zoneEngine.camCopy c ⟨n.new, n.standard⟩ }
  (allIds 48).foldl (noticeZone n c) s1

/-- The oldest message of a camera to the zone engine is taken off its path. -/
def dropCameraMessage (c : CameraId) (s : State) : State :=
  s.setWires { s.wires with camToZones := upd s.wires.camToZones c (s.wires.camToZones.get c).tail }

/-! ### Edits (R22–R25) -/

/-- The zone's entries in summaries still on their way are discarded (R32): done when the zone is dropped,
disabled, restarted by RESET or by a restored profile. -/
def purgeMessage (gone : ZoneId → Bool) : CameraMessage → CameraMessage
  | .summary f => .summary { f with entries := f.entries.filter fun e => !gone e.1 }
  | m => m

/-- Entries in transit of the zones `gone` are discarded (R32). -/
def purgeSummaries (gone : ZoneId → Bool) (s : State) : State :=
  s.setWires { s.wires with camToZones := s.wires.camToZones.map (List.map (purgeMessage gone)) }

/-- The zones `gone` no longer qualify for the summary of any field in progress (R16). -/
def disqualify (gone : ZoneId → Bool) (s : State) : State :=
  s.setCams (s.cams.map fun cam =>
    { cam with qualifying := cam.qualifying.map (List.filter fun z => !gone z) })

/-- Camera, rectangle or component differ (R23). -/
def geometryChanged (a b : ZoneConfig) : Bool :=
  a.camera != b.camera || a.col0 != b.col0 || a.row0 != b.row0 || a.col1 != b.col1 || a.row1 != b.row1 ||
    a.component != b.component

/-- PUT_ZONE on an undefined or a defined id (R22, R23). -/
def putZone (z : ZoneId) (cfg : ZoneConfig) (s : State) : State :=
  match s.zoneEngine.table.get z with
  | none =>
      if cfg.enabled then
        zoneTransition z ⟨cfg, clearedRun .off⟩ (placement s.zoneEngine cfg) .enabled s.now s
      else s.setZone z (some ⟨cfg, clearedRun .off⟩)
  | some old =>
      let zone : Zone := ⟨cfg, old.run⟩
      match old.cfg.enabled, cfg.enabled with
      | false, false => s.setZone z (some zone)
      | false, true => zoneTransition z zone (placement s.zoneEngine cfg) .enabled s.now s
      | true, false =>
          zoneTransition z zone .off .disabled s.now (disqualify (· == z) (purgeSummaries (· == z) s))
      | true, true =>
          if geometryChanged old.cfg cfg then
            zoneTransition z zone (placement s.zoneEngine cfg) .reset s.now
              (disqualify (· == z) (purgeSummaries (· == z) s))
          else s.setZone z (some zone)

/-- An accepted DROP_ZONE: out of any state but OFF through OFF with cause DISABLED, then removed (R24). -/
def dropZone (z : ZoneId) (zone : Zone) (s : State) : State :=
  let s1 := disqualify (· == z) (purgeSummaries (· == z) s)
  let s2 := if zone.run.state = .off then s1 else zoneTransition z zone .off .disabled s.now s1
  s2.setZone z none

/-- An accepted RELEARN_ZONE: the transition with cause RESET, by placement (R25). -/
def relearnZone (z : ZoneId) (zone : Zone) (s : State) : State :=
  zoneTransition z zone (placement s.zoneEngine zone.cfg) .reset s.now (purgeSummaries (· == z) s)

/-- A restored or loaded zone in its place: OFF if not enabled, else by placement (R44, R45). -/
def placedZone (e : ZoneEngine) (cfg : ZoneConfig) : Zone :=
  ⟨cfg, clearedRun (if cfg.enabled then placement e cfg else .off)⟩

/-- The restored classes and zones: every zone is restarted without a transition, and the rule engine is sent one
restart notice (R44). -/
def restoreZones (p : Profile) (s : State) : State :=
  let s1 := disqualify (fun _ => true) (purgeSummaries (fun _ => true) s)
  let e : ZoneEngine :=
    { s1.zoneEngine with
      classes := p.classes, table := p.zones.map (Option.map (placedZone s1.zoneEngine)) }
  (s1.setZones e).tellRules .restart

/-! ### The commands -/

/-- FIELD_SUMMARY: the oldest message of the camera to the zone engine, where it is a summary (R11, R32). -/
def execFieldSummary (c : CameraId) (s : State) : Result :=
  .next (match s.wires.camToZones.get c with
    | .summary f :: _ => takeSummary f (dropCameraMessage c s)
    | _ => s)

/-- CAMERA_NOTICE_AT_ZONES: the oldest message of the camera to the zone engine, where it is a notice; that of a
restored record is taken behind those of the restored records that made their transitions earlier (R11, R28, R44). -/
def execCameraNoticeAtZones (c : CameraId) (s : State) : Result :=
  .next (match s.wires.camToZones.get c with
    | .notice n :: _ => takeZoneNotice c n (dropCameraMessage c s)
    | .restored place n :: _ => if takenNext place s then takeZoneNotice c n (dropCameraMessage c s) else s
    | _ => s)

/-- SET_CLASS (R20, R179): the class is replaced whole, and no zone changes state. -/
def judgeSetClass : Judgement :=
  configuration (judged parseSetClass fun (k, cls) s =>
    (answerOk [], s.setZones { s.zoneEngine with classes := upd s.zoneEngine.classes k cls }))

/-- GET_CLASS (R179). -/
def judgeGetClass : Judgement :=
  judged (parseId 8) fun k s => (answerOk (classBytes k (s.zoneEngine.classes.get k)), s)

/-- PUT_ZONE (R22, R23, R180). -/
def judgePutZone : Judgement :=
  configuration (judged parseZone fun (z, cfg) s => (answerOk [], putZone z cfg s))

/-- DROP_ZONE (R24, R180). -/
def judgeDropZone : Judgement :=
  configuration (judged (parseId 48) fun z s =>
    match s.zoneEngine.table.get z with
    | none => (answerRefused .absent, s)
    | some zone =>
        if anyRule s.ruleEngine.table (namesZone · z) then (answerRefused .inUse, s)
        else (answerOk [], dropZone z zone s))

/-- RELEARN_ZONE (R25, R180). -/
def judgeRelearnZone : Judgement :=
  judged (parseId 48) fun z s =>
    match s.zoneEngine.table.get z with
    | none => (answerRefused .absent, s)
    | some zone =>
        if zone.cfg.enabled then (answerOk [], relearnZone z zone s) else (answerRefused .state, s)

/-- GET_ZONE (R26, R180, R192). -/
def judgeGetZone : Judgement :=
  judged (parseId 48) fun z s =>
    match s.zoneEngine.table.get z with
    | none => (answerRefused .absent, s)
    | some zone => (answerOk (zoneBytes z zone.cfg ++ zoneRunBytes zone.run), s)

def execSetClass (s : State) : Result := .next (takeKind 0x14 judgeSetClass s)

def execGetClass (s : State) : Result := .next (takeKind 0x15 judgeGetClass s)

def execPutZone (s : State) : Result := .next (takeKind 0x18 judgePutZone s)

def execDropZone (s : State) : Result := .next (takeKind 0x19 judgeDropZone s)

def execRelearnZone (s : State) : Result := .next (takeKind 0x1A judgeRelearnZone s)

def execGetZone (s : State) : Result := .next (takeKind 0x1B judgeGetZone s)

/-- RESTORE_ZONES (R44, R204). -/
def execRestoreZones (s : State) : Result := .next (takePart .zones restoreZones s)

end Sys2Proof.Machine
end

