-- ==== Sys2Proof/Machine/StartUp.lean ====
section
/-! DEFINITION. The three full resets and the start-up load (§10.7): the configuration chosen, the reset values of
every block under it, and the start-up report. -/

namespace Sys2Proof.Machine

/-! ### The choice of the configuration (R206) -/

/-- The store's directory rebuilt from the slots as they stand (R198). -/
def rebuiltStore (x : ProfileStore) : ProfileStore :=
  { idleStore x with dirA := judgeSlot x.slotA, dirB := judgeSlot x.slotB, startSource := none, startGen := none }

/-- A slot valid in the directory that passes the checks of R203, with its profile. DESIGN CHOICE (log 39): the reading
of a slot at start-up has no fault of its own. -/
def usable (x : ProfileStore) (id : SlotId) : Option (SlotId × Profile) :=
  if (dirOf id x).isSome then (checkedProfile (slotOf id x)).map (id, ·) else none

/-- The slot that is loaded: the newest valid one, else the other, where it passes the checks; none with S3 high or
where none passes (R206). -/
def chosenSlot (s3 : Level) (x : ProfileStore) : Option (SlotId × Profile) :=
  match s3, newest x with
  | .low, some id => (usable x id).or (usable x (otherSlot id))
  | _, _ => none

/-- The profile loaded: the slot's, or the factory defaults (R206, R207). -/
def loadedProfile (choice : Option (SlotId × Profile)) : Profile :=
  match choice with
  | some (_, p) => p
  | none => factoryProfile

/-- The store after the start-up load (R199, R206). -/
def startStore (choice : Option (SlotId × Profile)) (x : ProfileStore) : ProfileStore :=
  { x with
    startSource := choice.map (·.1), startGen := (choice.bind fun c => dirOf c.1 x).map (·.generation) }

/-- The start-up PROFILE report (R207; log 29). -/
def startReportOf (x : ProfileStore) : Report :=
  profileReport 0 (if x.startSource.isSome then .loaded else .factory) x.startSource x.startGen

/-! ### The reset values of the blocks under a profile -/

/-- The reset state of a camera (R2, R6). -/
def startCameraState (cfg : CameraConfig) : CameraState := if cfg.enabled then .searching else .off

/-- A camera after a full reset (R2; log 13). -/
def startCamera (cfg : CameraConfig) : Camera :=
  { enabled := cfg.enabled, parity := cfg.parity, state := startCameraState cfg, standard := none, runCount := 0
    runStandard := none, stamp := 0, lossDeadline := none, lostDeadline := none, runDeadline := none
    qualifying := none, storeOdd := none, storeEven := none }

/-- The zone engine after a full reset (R28, R45). -/
def startZones (p : Profile) : ZoneEngine :=
  let copies := p.cameras.map fun c => (⟨startCameraState c, none⟩ : CameraCopy)
  let empty : ZoneEngine := { classes := p.classes, table := Vector.replicate 48 none, camCopy := copies }
  { empty with table := p.zones.map (Option.map (placedZone empty)) }

/-- A rule after a full reset: DISARMED or IDLE as its armed field says (R51). -/
def startRule (cfg : RuleConfig) : Rule :=
  { cfg := cfg
    run := { state := if cfg.armed then .idle else .disarmed, step := none, stepDeadline := none
             cooldownDeadline := none, fireCount := 0, lastFired := none } }

/-- The rule engine after a full reset (R47, R75). -/
def startRules (p : Profile) : RuleEngine :=
  { table := p.rules.map (Option.map startRule), zoneCopy := Vector.replicate 48 .unknown
    lineCopy := Vector.replicate 8 .inactive }

/-- The presentation scheduler after a full reset (R76, R79, R80, R83, R88, R89). -/
def startSched (p : Profile) : Scheduler :=
  { views := p.views, camCopy := p.cameras.map startCameraState, rotation := p.rotation, minShow := p.minShow
    requests := [], hold := none
    source := { state := .blank, index := 0, shown := none, start := 0, rotationDeadline := none
                deferral := none } }

/-- The report queue after a full reset, holding the start-up report as sequence 1 (R114, R115). -/
def startReports (p : Profile) (r : Report) : ReportQueue :=
  enterRecord r
    { filter := p.filter, records := [], nextSeq := 1, dropped := 0
      delivery := { session := .closed, mode := .pull, window := 1, retransmit := 10, retry := 0
                    deadline := none, round := none } }

/-- A contact line after a full reset, before an INPUT judges its pin (R126). -/
def startLine (cfg : LineConfig) : Line :=
  { mode := cfg.mode, activeLevel := cfg.activeLevel, debounce := cfg.debounce, drive := .auto
    accepted := .inactive, pendingChange := none, claimants := Vector.replicate 24 false, pulse := none
    asserted := false }

/-- The head link controller after a full reset (R154). -/
def startHead (p : Profile) : HeadLink :=
  { settings := p.head, queue := [], inFlight := false, nextTid := 0, nextTag := 0, link := .idle
    replyDeadline := none, gapLength := none, line := none, received := [] }

/-- The host link controller after a full reset (R166, R173). -/
def startLink (rate : HostRate) : HostLink :=
  { rate := rate, receiver := .hunt, gap := none, badStop := false, commands := [], cache := [], immediate := []
    tx := none
    session := { state := .closed, mode := .pull, window := 1, retransmit := 10, silence := 0, deadline := none }
    restartPending := false }

/-- Every block at its reset values under the configuration the store loads. The slots, the levels outside the part
and the model's own fields are kept. -/
def startBlocks (straps : Straps) (rate : HostRate) (std : Standard) (s : State) : State :=
  let x := rebuiltStore s.store
  let choice := chosenSlot straps.s3 x
  let p := loadedProfile choice
  { now := 0
    straps := straps
    outputStandard := std
    extPins := s.extPins
    cams := p.cameras.map startCamera
    zoneEngine := startZones p
    ruleEngine := startRules p
    sched := startSched p
    comp := { applied := .blank, pending := none, output := .blank }
    reports := startReports p (startReportOf (startStore choice x))
    lines := p.lines.map startLine
    head := startHead p
    link := startLink rate
    store := startStore choice x
    wires := Wires.empty
    fresh := s.fresh
    pending := s.pending }

/-- An INPUT line judges its pin afresh when the contact block starts (R130). -/
def startPin (s : State) (l : LineId) : State := if (s.lines.get l).mode = .input then judgePin l s else s

/-- A full reset (§10.7): the blocks start, then the INPUT lines judge their pins (R130). DESIGN CHOICE (log 38): they
do so in the order L1 to L8. -/
def fullReset (straps : Straps) (rate : HostRate) (std : Standard) (s : State) : State :=
  (allIds 8).foldl startPin (startBlocks straps rate std s)

/-! ### Straps (R18, R155, R206) -/

/-- The line rate that straps S0 and S1 give, S0 the first digit (R155; log 32). -/
def strapRate (x : Straps) : HostRate :=
  match x.s0, x.s1 with
  | .low, .low => .r9600
  | .low, .high => .r38400
  | .high, .low => .r115200
  | .high, .high => .r460800

/-- The output standard that strap S2 gives (R18). -/
def strapStandard (x : Straps) : Standard :=
  match x.s2 with
  | .low => .s525
  | .high => .s625

/-- RESTART's full reset: the line rate and the output standard are kept, and strap S3 is sampled (R18, R173, R206;
log 25). -/
def restartReset (s3 : Level) (s : State) : State :=
  fullReset { s.straps with s3 := s3 } s.link.rate s.outputStandard s

/-! ### The commands -/

/-- POWER_ON, with the levels on the straps (R206). -/
def execPowerOn (straps : Straps) (s : State) : Result :=
  .next (fullReset straps (strapRate straps) (strapStandard straps) s)

/-- RESET_LINE, with the levels on the straps (R206). -/
def execResetLine (straps : Straps) (s : State) : Result :=
  .next (fullReset straps (strapRate straps) (strapStandard straps) s)

/-- TIME_BASE_TICK: the time base goes up by 1 and wraps (R1). -/
def execTimeBaseTick (s : State) : Result := .next (s.setNow (s.now + 1))

end Sys2Proof.Machine
end

