-- ==== Sys2Proof/Machine/HostLink.lean ====
section
/-! DEFINITION. The host link controller (chapter 08): the receiver, valid frames and duplicates, the end of a
transmission, sessions, and the session commands (§9.2). -/

namespace Sys2Proof.Machine

/-! ### The receiver (R157–R159) -/

/-- The receiver returns to HUNT without a partial frame and a gap deadline. -/
def huntAgain (l : HostLink) : HostLink := { l with receiver := .hunt, gap := none, badStop := false }

/-- A received frame is refused with a NAK (R157–R160). -/
def refuseFrame (seq : Byte) (reason : NakReason) (l : HostLink) : HostLink :=
  offerImmediate (.nak seq reason) (huntAgain l)

/-- The silence deadline at a frame's arrival or an opening: none without a timeout (R167, R170). -/
def silenceFrom (now : Time) (timeout : Nat) : Option Time :=
  if timeout = 0 then none else some (later now (timeout * 100))

/-- A valid frame restarts the silence deadline of an OPEN session with a timeout (R161, R170). -/
def restartSilence (now : Time) (x : Session) : Session :=
  if x.state = .opened then { x with deadline := silenceFrom now x.silence } else x

/-- A cache entry answers this frame (R161). -/
def answers (f : Frame) (e : CacheEntry) : Bool := e.seq == f.seq && e.crc == f.crc

/-- A duplicate of a SENT entry marks it UNSENT again (R161). -/
def resendEntry (f : Frame) (e : CacheEntry) : CacheEntry :=
  if answers f e && e.mark == .sent then { e with mark := .unsent } else e

/-- A frame is offered to the command queue, or refused BUSY when it is full (R162). -/
def offerCommand (f : Frame) (l : HostLink) : HostLink :=
  if l.commands.length < 4 then { l with commands := l.commands ++ [f] }
  else offerImmediate (.busy f.seq f.kind) l

/-- A valid frame is taken (R161). -/
def takeValid (now : Time) (f : Frame) (l : HostLink) : HostLink :=
  let l1 := { l with session := restartSilence now l.session }
  if l1.cache.any (answers f) then { l1 with cache := l1.cache.map (resendEntry f) }
  else if l1.commands.any (fun g => g.seq == f.seq && g.crc == f.crc) then l1
  else offerCommand f l1

/-- A complete frame is judged (R158); a character with a wrong stop bit makes it fail its CRC (R155; log 27). -/
def judgeFrame (now : Time) (f : Frame) (l : HostLink) : HostLink :=
  if l.badStop ∨ frameCrc f.seq f.kind f.payload ≠ f.crc then refuseFrame f.seq .badCrc l
  else if f.seq = 0 then refuseFrame 0 .badSeq l
  else takeValid now f (huntAgain l)

/-- The receiver goes on with a partial frame, its gap deadline 50 ms after the byte (R159). -/
def awaitByte (now : Time) (r : Receiver) (stopGood : Bool) (l : HostLink) : HostLink :=
  { l with receiver := r, gap := some (later now 5), badStop := l.badStop || !stopGood }

/-- A byte in HEADER; when KIND has arrived LEN is judged (R157). -/
def headerByte (now : Time) (got : List Byte) (b : Byte) (stopGood : Bool) (l : HostLink) : HostLink :=
  match got with
  | [len, seq] =>
      if 240 < len.toNat then refuseFrame seq .oversize l
      else if len = 0 then awaitByte now (.check len seq b [] []) stopGood l
      else awaitByte now (.body len seq b []) stopGood l
  | _ => awaitByte now (.header (got ++ [b])) stopGood l

/-- A byte in BODY (R158). -/
def bodyByte (now : Time) (len seq kind : Byte) (got : List Byte) (b : Byte) (stopGood : Bool) (l : HostLink) :
    HostLink :=
  if got.length + 1 = len.toNat then awaitByte now (.check len seq kind (got ++ [b]) []) stopGood l
  else awaitByte now (.body len seq kind (got ++ [b])) stopGood l

/-- A byte in CHECK; at the second the frame is judged (R158). -/
def checkByte (now : Time) (len seq kind : Byte) (payload got : List Byte) (b : Byte) (stopGood : Bool)
    (l : HostLink) : HostLink :=
  match got with
  | [hi] => judgeFrame now ⟨seq, kind, payload, hi ++ b⟩ { l with badStop := l.badStop || !stopGood }
  | _ => awaitByte now (.check len seq kind payload (got ++ [b])) stopGood l

/-- A byte arrives at the receiver (R157, R158). -/
def receiveByte (now : Time) (b : Byte) (stopGood : Bool) (l : HostLink) : HostLink :=
  match l.receiver with
  | .hunt => if b = 0xA5 then awaitByte now (.header []) stopGood (huntAgain l) else l
  | .header got => headerByte now got b stopGood l
  | .body len seq kind got => bodyByte now len seq kind got b stopGood l
  | .check len seq kind payload got => checkByte now len seq kind payload got b stopGood l

/-- The SEQ that a GAP NAK carries: the received one, 0 if it had not arrived (R159). -/
def partialSeq : Receiver → Byte
  | .hunt => 0
  | .header got => got[1]?.getD 0
  | .body _ seq _ _ => seq
  | .check _ seq _ _ _ => seq

/-- The gap deadline expires (R159). -/
def expireGap (s : State) : State :=
  if due s.now s.link.gap then (s.setLink (refuseFrame (partialSeq s.link.receiver) .gap s.link)).kick else s

/-! ### Sessions (R167–R171) -/

/-- The SESSION report of a closure (R168). -/
def sessionReport (reason : SessionReason) (s : State) : Report :=
  { stamp := s.now, priority := 3, source := 0
    detail := .session reason s.link.session.mode (pushedCount s.reports.records) }

/-- The session record and the report queue at a closure; a stall notice still on its way is discarded (R117, R168,
R171; log 11). -/
def closeLink (s : State) : State :=
  ((s.setLink { s.link with session := { s.link.session with state := .closed, deadline := none } }).setReports
    (queueClosed s.reports)).setWires { s.wires with stall := false }

/-- The session closes with a reason, which is reported (R168). -/
def closeWith (reason : SessionReason) (s : State) : State := (closeLink s).offer (sessionReport reason s)

/-- The session opens (R116, R167). -/
def openSession (q : OpenRequest) (s : State) : State :=
  ((s.setLink { s.link with
      session := { state := .opened, mode := q.mode, window := q.window, retransmit := q.retransmit
                   silence := q.silence, deadline := silenceFrom s.now q.silence } }).setReports
    (queueOpened q.mode q.window q.retransmit s.reports)).setWires { s.wires with stall := false }

/-- The silence deadline expires (R170). -/
def expireSilence (s : State) : State :=
  if s.link.session.state = .opened ∧ due s.now s.link.session.deadline then closeWith .silence s else s

/-! ### The end of a transmission (R165, R172, R173) -/

/-- The entry whose reply is on the line is marked SENT, and what its first transmission brings about is taken
(R163, R165). -/
def sentEntry (e : CacheEntry) : CacheEntry := if e.mark == .sending then { e with mark := .sent, post := none } else e

/-- What the completion of the reply on the line brings about (R172, R173). -/
def completedAction (cache : List CacheEntry) : Option PostAction :=
  (cache.find? fun e => e.mark == .sending).bind (·.post)

/-- The line switches to a rate; a switch to the rate in use changes nothing (R172). -/
def switchRate (r : HostRate) (l : HostLink) : HostLink := if l.rate = r then l else { huntAgain l with rate := r }

/-! ### The session commands (R167, R169, R172, R173, R177, R178) -/

/-- The part code (R177): the characters N, C, 6, A. -/
def partCode : List Byte := [0x4E, 0x43, 0x36, 0x41]

/-- HELLO's success fields (R177). -/
def helloFields (s : State) : List Byte :=
  partCode ++ [1, 1, 6, 48, 8, 24, 12, 16, 8, 32, 8, 8, 15, 240, 4, 4, 4]
    ++ [sessionStateCode s.link.session.state, hostRateCode s.link.rate] ++ startBytes s.store
    ++ be32 s.now.toNat ++ [byte s.reports.records.length] ++ be16 s.reports.dropped

/-- HELLO (R177). -/
def judgeHello : Judgement := judged parseNone fun _ s => (answerOk (helloFields s), s)

/-- OPEN (R167, R178). -/
def judgeOpen : Judgement := judged parseOpen fun q s => (answerOk [], openSession q s)

/-- CLOSE (R169, R178). -/
def judgeClose : Judgement := judged parseNone fun _ s => (answerOk [], closeLink s)

/-- PING (R178). -/
def judgePing : Judgement := judged parseNone fun _ s => (answerOk [], s)

/-- SET_LINK: the reply carries the rate switch (R172, R178). -/
def judgeSetLink : Judgement := judged parseSetLink fun r s => (⟨[0x00], some (.switchRate r)⟩, s)

/-- RESTART: a restart becomes pending (R173, R178). -/
def judgeRestart : Judgement :=
  judged parseNone fun _ s => (⟨[0x00], some .restart⟩, s.setLink { s.link with restartPending := true })

/-- TIME (R178). -/
def judgeTime : Judgement := judged parseNone fun _ s => (answerOk (be32 s.now.toNat), s)

/-- The kinds that the commands of chapter 09 carry (R174). -/
def assignedKinds : List Byte :=
  [0x01, 0x02, 0x03, 0x04, 0x05, 0x06, 0x07, 0x10, 0x11, 0x14, 0x15, 0x18, 0x19, 0x1A, 0x1B,
   0x20, 0x21, 0x22, 0x23, 0x28, 0x29, 0x2A, 0x2B, 0x2C, 0x2D, 0x2E, 0x2F, 0x30, 0x38, 0x39, 0x3A,
   0x40, 0x41, 0x42, 0x48, 0x49, 0x4A, 0x4B, 0x50, 0x51, 0x52, 0x53]

/-- A kind that no command carries (R174). -/
def unassigned (kind : Byte) : Bool := !assignedKinds.contains kind

/-- A command of an unassigned kind is refused UNKNOWN (R174). -/
def judgeUnknown : Judgement := fun _ s => (answerRefused .unknown, s)

/-! ### The takings within a step (R164, R165) -/

/-- The judgement of the command of a kind, and whether it is taken in either session state (R164, R174). -/
def hostCommand (kind : Byte) : Bool × Judgement :=
  match kind.toNat with
  | 0x01 => (true, judgeHello)
  | 0x02 => (true, judgeOpen)
  | 0x03 => (false, judgeClose)
  | 0x04 => (false, judgePing)
  | 0x05 => (false, judgeSetLink)
  | 0x06 => (false, judgeRestart)
  | 0x07 => (false, judgeTime)
  | 0x10 => (false, judgeSetCamera)
  | 0x11 => (false, judgeGetCamera)
  | 0x14 => (false, judgeSetClass)
  | 0x15 => (false, judgeGetClass)
  | 0x18 => (false, judgePutZone)
  | 0x19 => (false, judgeDropZone)
  | 0x1A => (false, judgeRelearnZone)
  | 0x1B => (false, judgeGetZone)
  | 0x20 => (false, judgePutRule)
  | 0x21 => (false, judgeDropRule)
  | 0x22 => (false, judgeArmRule)
  | 0x23 => (false, judgeGetRule)
  | 0x28 => (false, judgePutView)
  | 0x29 => (false, judgeDropView)
  | 0x2A => (false, judgeSetRotation)
  | 0x2B => (false, judgeSetMinshow)
  | 0x2C => (false, judgeShowView)
  | 0x2D => (false, judgeWithdraw)
  | 0x2E => (false, judgeHold)
  | 0x2F => (false, judgeRelease)
  | 0x30 => (false, judgeGetScreen)
  | 0x38 => (false, judgeSetFilter)
  | 0x39 => (false, judgePull)
  | 0x3A => (false, judgeAck)
  | 0x40 => (false, judgeSetLine)
  | 0x41 => (false, judgeDriveLine)
  | 0x42 => (false, judgeGetLines)
  | 0x48 => (false, judgeSetHeadlink)
  | 0x49 => (false, judgeRelay)
  | 0x4A => (false, judgeCancelRelay)
  | 0x4B => (false, judgeGetRelays)
  | 0x50 => (false, judgeCommit)
  | 0x51 => (false, judgeRestore)
  | 0x52 => (false, judgeErase)
  | 0x53 => (false, judgeGetProfile)
  | _ => (false, judgeUnknown)

/-- The oldest frame of the command queue is taken, where the conditions of R164 hold. -/
def takeOldest (s : State) : State :=
  match s.link.commands with
  | f :: rest =>
      if takeable s.link then takeFrame (hostCommand f.kind).1 (hostCommand f.kind).2 f rest s else s
  | [] => s

/-- The controller takes command after command, at most so many, while the conditions of R164 hold: they are checked
after each taking. -/
def takeCommands : Nat → State → State
  | 0, s => s
  | n + 1, s => takeCommands n (takeOldest s)

/-- A check of R164, at the entry of a frame to the command queue and at the completion of a reply: every command that
can be taken is taken, and then the transmitter chooses, if it is free (log 1, log 12). -/
def checkCommands (s : State) : State := (takeCommands s.link.commands.length s).kick

/-- The transmission of a reply completes: its entry is SENT, what it carries is brought about, commands are taken and
the next frame is chosen (R164, R165, R172, R173). -/
def completeReply (s3 : Level) (s : State) : State :=
  let l := { s.link with tx := none, cache := s.link.cache.map sentEntry }
  match completedAction s.link.cache with
  | some .restart => restartReset s3 (s.setLink l)
  | some (.switchRate r) => checkCommands (s.setLink (switchRate r l))
  | none => checkCommands (s.setLink l)

/-- The transmission of the frame on the line completes, and the transmitter chooses again (R165). -/
def completeFrame (s3 : Level) (s : State) : State :=
  match s.link.tx with
  | none => s
  | some f => match f.source with
      | .immediate => (s.setLink { s.link with tx := none }).kick
      | .reply => completeReply s3 s
      | .report seq resend =>
          ((s.setLink { s.link with tx := none }).setReports (completeReport s.now seq resend s.reports)).kick

/-- A byte arrives at the receiver, and the transmitter chooses, if it is free; a frame that entered the command queue
makes the controller check for commands to take (R158, R161, R164, R165). -/
def receiveHostByte (b : Byte) (stopGood : Bool) (s : State) : State :=
  let l := receiveByte s.now b stopGood s.link
  if s.link.commands.length < l.commands.length then checkCommands (s.setLink l) else (s.setLink l).kick

/-! ### The commands -/

/-- HOST_BYTE_RECEIVED (R155, R157–R162, R164). -/
def execHostByteReceived (b : Byte) (stopGood : Bool) (s : State) : Result := .next (receiveHostByte b stopGood s)

/-- GAP_DEADLINE_EXPIRY (R159). -/
def execGapDeadlineExpiry (s : State) : Result := .next (expireGap s)

/-- SILENCE_DEADLINE_EXPIRY (R170). -/
def execSilenceDeadlineExpiry (s : State) : Result := .next (expireSilence s)

/-- PUSH_STALL_NOTICE: the report queue's stall notice reaches the controller (R122, R171). -/
def execPushStallNotice (s : State) : Result :=
  .next (if s.wires.stall then closeWith .pushStalled s else s)

/-- FRAME_TX_COMPLETE, with the level on strap S3, which RESTART's full reset samples (R165, R206; log 25). -/
def execFrameTxComplete (s : State) (s3 : Level) : Result := .next (completeFrame s3 s)

def execUnknownKind (s : State) : Result := .next (takeWhen unassigned false judgeUnknown s)

def execHello (s : State) : Result := .next (takeWhen (· == 0x01) true judgeHello s)

def execOpenSession (s : State) : Result := .next (takeWhen (· == 0x02) true judgeOpen s)

def execCloseSession (s : State) : Result := .next (takeKind 0x03 judgeClose s)

def execPing (s : State) : Result := .next (takeKind 0x04 judgePing s)

def execSetLink (s : State) : Result := .next (takeKind 0x05 judgeSetLink s)

def execRestart (s : State) : Result := .next (takeKind 0x06 judgeRestart s)

def execTime (s : State) : Result := .next (takeKind 0x07 judgeTime s)

end Sys2Proof.Machine
end

