-- ==== Sys2Proof/Machine/Dispatch.lean ====
section
/-! DEFINITION. The dispatch: one arm per command, each a direct call of the command's meaning. -/

namespace Sys2Proof.Machine

def exec (i : Instr) (s : State) : Host.Outcome State Fault Refusal :=
  match i with
  | .powerOn straps => Sys2Proof.Machine.execPowerOn straps s
  | .resetLine straps => Sys2Proof.Machine.execResetLine straps s
  | .timeBaseTick => Sys2Proof.Machine.execTimeBaseTick s
  | .fieldEnd c f => Sys2Proof.Machine.execFieldEnd c f s
  | .runDeadlineExpiry c => Sys2Proof.Machine.execRunDeadlineExpiry c s
  | .lossDeadlineExpiry c => Sys2Proof.Machine.execLossDeadlineExpiry c s
  | .lostDeadlineExpiry c => Sys2Proof.Machine.execLostDeadlineExpiry c s
  | .setCamera => Sys2Proof.Machine.execSetCamera s
  | .getCamera => Sys2Proof.Machine.execGetCamera s
  | .fieldSummary c => Sys2Proof.Machine.execFieldSummary c s
  | .cameraNoticeAtZones c => Sys2Proof.Machine.execCameraNoticeAtZones c s
  | .setClass => Sys2Proof.Machine.execSetClass s
  | .getClass => Sys2Proof.Machine.execGetClass s
  | .putZone => Sys2Proof.Machine.execPutZone s
  | .dropZone => Sys2Proof.Machine.execDropZone s
  | .relearnZone => Sys2Proof.Machine.execRelearnZone s
  | .getZone => Sys2Proof.Machine.execGetZone s
  | .restoreZones => Sys2Proof.Machine.execRestoreZones s
  | .zoneTransition => Sys2Proof.Machine.execZoneTransition s
  | .lineTransition l => Sys2Proof.Machine.execLineTransition l s
  | .restartNotice => Sys2Proof.Machine.execRestartNotice s
  | .stepDeadlineExpiry r => Sys2Proof.Machine.execStepDeadlineExpiry r s
  | .cooldownDeadlineExpiry r => Sys2Proof.Machine.execCooldownDeadlineExpiry r s
  | .putRule => Sys2Proof.Machine.execPutRule s
  | .dropRule => Sys2Proof.Machine.execDropRule s
  | .armRule => Sys2Proof.Machine.execArmRule s
  | .getRule => Sys2Proof.Machine.execGetRule s
  | .restoreRulesRemove => Sys2Proof.Machine.execRestoreRulesRemove s
  | .restoreRulesArm => Sys2Proof.Machine.execRestoreRulesArm s
  | .viewRequest => Sys2Proof.Machine.execViewRequest s
  | .withdrawal => Sys2Proof.Machine.execWithdrawal s
  | .cameraNoticeAtScheduler c => Sys2Proof.Machine.execCameraNoticeAtScheduler c s
  | .dwellDeadlineExpiry => Sys2Proof.Machine.execDwellDeadlineExpiry s
  | .lifetimeDeadlineExpiry o => Sys2Proof.Machine.execLifetimeDeadlineExpiry o s
  | .rotationDeadlineExpiry => Sys2Proof.Machine.execRotationDeadlineExpiry s
  | .deferralDeadlineExpiry => Sys2Proof.Machine.execDeferralDeadlineExpiry s
  | .putView => Sys2Proof.Machine.execPutView s
  | .dropView => Sys2Proof.Machine.execDropView s
  | .setRotation => Sys2Proof.Machine.execSetRotation s
  | .setMinshow => Sys2Proof.Machine.execSetMinshow s
  | .showView => Sys2Proof.Machine.execShowView s
  | .withdraw => Sys2Proof.Machine.execWithdraw s
  | .hold => Sys2Proof.Machine.execHold s
  | .release => Sys2Proof.Machine.execRelease s
  | .getScreen => Sys2Proof.Machine.execGetScreen s
  | .restoreSchedule => Sys2Proof.Machine.execRestoreSchedule s
  | .presentation => Sys2Proof.Machine.execPresentation s
  | .outputFrameStart => Sys2Proof.Machine.execOutputFrameStart s
  | .reportOffer k => Sys2Proof.Machine.execReportOffer k s
  | .setFilter => Sys2Proof.Machine.execSetFilter s
  | .restoreFilter => Sys2Proof.Machine.execRestoreFilter s
  | .pull => Sys2Proof.Machine.execPull s
  | .ack => Sys2Proof.Machine.execAck s
  | .retransmitDeadlineExpiry => Sys2Proof.Machine.execRetransmitDeadlineExpiry s
  | .pushStallNotice => Sys2Proof.Machine.execPushStallNotice s
  | .pinLevelChange l => Sys2Proof.Machine.execPinLevelChange l s
  | .debounceDeadlineExpiry l => Sys2Proof.Machine.execDebounceDeadlineExpiry l s
  | .latchClaim => Sys2Proof.Machine.execLatchClaim s
  | .latchDrop => Sys2Proof.Machine.execLatchDrop s
  | .pulseClaim => Sys2Proof.Machine.execPulseClaim s
  | .pulseDeadlineExpiry l => Sys2Proof.Machine.execPulseDeadlineExpiry l s
  | .setLine => Sys2Proof.Machine.execSetLine s
  | .driveLine => Sys2Proof.Machine.execDriveLine s
  | .getLines => Sys2Proof.Machine.execGetLines s
  | .restoreLines => Sys2Proof.Machine.execRestoreLines s
  | .recall => Sys2Proof.Machine.execRecall s
  | .relay => Sys2Proof.Machine.execRelay s
  | .cancelRelay => Sys2Proof.Machine.execCancelRelay s
  | .setHeadlink => Sys2Proof.Machine.execSetHeadlink s
  | .getRelays => Sys2Proof.Machine.execGetRelays s
  | .restoreHeadlink => Sys2Proof.Machine.execRestoreHeadlink s
  | .requestFrameComplete => Sys2Proof.Machine.execRequestFrameComplete s
  | .replyFrame rate stopGood first rest => Sys2Proof.Machine.execReplyFrame rate stopGood first rest s
  | .replyDeadlineExpiry => Sys2Proof.Machine.execReplyDeadlineExpiry s
  | .turnaroundGapEnd => Sys2Proof.Machine.execTurnaroundGapEnd s
  | .hostByteReceived b stopGood => Sys2Proof.Machine.execHostByteReceived b stopGood s
  | .gapDeadlineExpiry => Sys2Proof.Machine.execGapDeadlineExpiry s
  | .silenceDeadlineExpiry => Sys2Proof.Machine.execSilenceDeadlineExpiry s
  | .frameTxComplete s3 => Sys2Proof.Machine.execFrameTxComplete s s3
  | .unknownKind => Sys2Proof.Machine.execUnknownKind s
  | .hello => Sys2Proof.Machine.execHello s
  | .openSession => Sys2Proof.Machine.execOpenSession s
  | .closeSession => Sys2Proof.Machine.execCloseSession s
  | .ping => Sys2Proof.Machine.execPing s
  | .setLink => Sys2Proof.Machine.execSetLink s
  | .restart => Sys2Proof.Machine.execRestart s
  | .time => Sys2Proof.Machine.execTime s
  | .commit => Sys2Proof.Machine.execCommit s
  | .commitWriteDone stored => Sys2Proof.Machine.execCommitWriteDone stored s
  | .commitVerifyDone readGood => Sys2Proof.Machine.execCommitVerifyDone readGood s
  | .generationWriteDone readBack afterErase => Sys2Proof.Machine.execGenerationWriteDone readBack afterErase s
  | .restore => Sys2Proof.Machine.execRestore s
  | .restoreReadDone readGood => Sys2Proof.Machine.execRestoreReadDone readGood s
  | .restoreCamera c => Sys2Proof.Machine.execRestoreCamera c s
  | .partTakenNotice p => Sys2Proof.Machine.execPartTakenNotice p s
  | .eraseProfile => Sys2Proof.Machine.execEraseProfile s
  | .erasePrepareDone readA readB => Sys2Proof.Machine.execErasePrepareDone readA readB s
  | .getProfile => Sys2Proof.Machine.execGetProfile s
  | .firstActiveLine c => Sys2Proof.Machine.execFirstActiveLine c s

end Sys2Proof.Machine
end

