-- ==== Sys2Proof/Safety.lean ====
section
/-! DEFINITION. What claims are stated in: the laws the spec lays on the part's state, and what the taking of a host
command leaves. -/

namespace Sys2Proof.Safety

open Sys2Proof.Machine

/-! ### Laws on the state -/

/-- The capacities of the queues (R83, R111, R140, R160, R162, R163), and never two requests of one origin (R83). -/
structure QueuesLaw (s : State) : Prop where
  records : s.reports.records.length ≤ 32
  requests : s.sched.requests.length ≤ 8
  origins : (s.sched.requests.map (·.origin)).Nodup
  relays : s.head.queue.length ≤ 8
  commands : s.link.commands.length ≤ 4
  cache : s.link.cache.length ≤ 4
  immediate : s.link.immediate.length ≤ 4

/-- The records marked SENDING or PUSHED: at most the window in an OPEN session in PUSH mode, none otherwise (R119,
R120). -/
def WindowLaw (s : State) : Prop :=
  if s.reports.delivery.session = .opened ∧ s.reports.delivery.mode = .push then
    inDelivery s.reports.records ≤ s.reports.delivery.window
  else inDelivery s.reports.records = 0

/-- The newest presentation: the last on its way to the compositor, else the pending one, else the applied one (R97,
R98). -/
def newestPresentation (s : State) : Presentation :=
  s.wires.presentations.getLast?.getD (s.comp.pending.getD s.comp.applied)

/-- How many records have entered the queue since the one of a sequence, itself counted, when `next` is the next
sequence: sequences run from 1 to 65535 and from there to 1 (R110). -/
def enteredSince (seq next : Nat) : Nat := (next + 65535 - seq) % 65535

/-- A watch rule's REPORT actions give priorities of 0 to 3 (R46). -/
def reportsRanged (cfg : RuleConfig) : Prop := ∀ p c, .report p c ∈ cfg.actions → p ≤ 3

/-- The records of the report queue (R105, R111, R119, R121). Sequences are of 1 to 65535, distinct and in the order of
entry: the older of two entered earlier. Behind a record at most 124 have entered, counted as R111 counts: those that
are still there, and for each that was displaced a rise in the priorities of those that are. The SENDING and PUSHED
records stand at the oldest end. A round holds sequences of PUSHED records. Every priority is of 0 to 3, in the queue, on
its way to it, and wherever a report will take it from. -/
structure ReportsLaw (s : State) : Prop where
  next : 1 ≤ s.reports.nextSeq ∧ s.reports.nextSeq ≤ 65535
  range : ∀ r ∈ s.reports.records, 1 ≤ r.seq ∧ r.seq ≤ 65535
  order : ∀ before r behind, s.reports.records = before ++ r :: behind →
    1 ≤ enteredSince r.seq s.reports.nextSeq ∧
    enteredSince r.seq s.reports.nextSeq ≤ 1 + behind.length + (behind.map (·.report.priority)).sum ∧
    ∀ x ∈ behind, enteredSince x.seq s.reports.nextSeq < enteredSince r.seq s.reports.nextSeq
  marks : ∀ before r behind, s.reports.records = before ++ r :: behind → r.mark ≠ .unsent →
    ∀ x ∈ before, x.mark ≠ .unsent
  round : ∀ ns, s.reports.delivery.round = some ns → ∀ n ∈ ns, ∃ r ∈ s.reports.records, r.seq = n ∧ r.mark = .pushed
  priorities : ∀ r ∈ s.reports.records, r.report.priority ≤ 3
  offers : ∀ r ∈ s.wires.offers, r.priority ≤ 3
  zones : ∀ z zone, s.zoneEngine.table.get z = some zone → zone.cfg.priority ≤ 3
  rules : ∀ r rule, s.ruleEngine.table.get r = some rule → reportsRanged rule.cfg
  applying : ∀ p, s.store.applying = some p →
    (∀ z cfg, p.zones.get z = some cfg → cfg.priority ≤ 3) ∧ ∀ r cfg, p.rules.get r = some cfg → reportsRanged cfg

/-- The screen source agrees with the hold and the request set (R86, R88, R89): HOLD exactly while a hold is set, a
shown origin exactly in REQUEST and then an entry's, ROTATING or BLANK while there is no hold and no request. The newest
presentation is the source's: the held view, the shown request's view, the view of the rotation entry at the index,
BLANK (R88, R89, R97). -/
structure ScreenLaw (s : State) : Prop where
  hold : s.sched.hold.isSome ↔ s.sched.source.state = .hold
  held : ∀ v, s.sched.hold = some v → newestPresentation s = .hold v
  request : s.sched.source.state = .request → ∃ q ∈ s.sched.requests,
    s.sched.source.shown = some q.origin ∧ newestPresentation s = .request q.view q.origin
  rotating : s.sched.source.state = .rotating → ∃ e, s.sched.rotation[s.sched.source.index]? = some e ∧
    newestPresentation s = .rotating e.view s.sched.source.index
  blank : s.sched.source.state = .blank → newestPresentation s = .blank
  others : s.sched.source.state ≠ .request → s.sched.source.shown = none
  empty : s.sched.hold = none → s.sched.requests = [] →
    s.sched.source.state = .rotating ∨ s.sched.source.state = .blank

/-- A zone's runtime record (R22, R23, R26, R27, R35, R38): OFF exactly when not enabled; without reference, d and
history in OFF, BLIND and LEARNING; with a reference in QUIET and ACTIVE; its counts within their widths. -/
structure ZoneLaw (z : Zone) : Prop where
  off : z.run.state = .off ↔ z.cfg.enabled = false
  cleared : z.run.state = .off ∨ z.run.state = .blind ∨ z.run.state = .learning →
    z.run.reference = none ∧ z.run.lastD = none ∧ z.run.history = []
  learned : z.run.state = .quiet ∨ z.run.state = .active → z.run.reference.isSome
  history : z.run.history.length ≤ 16
  fields : z.run.fieldsInState ≤ 65535
  onsets : z.run.onsetCount ≤ 65535

/-- A rule's runtime record (R51): DISARMED exactly when its armed field is no; a step and its deadline exactly in
STEPPING, which is ORDER mode only; a cooldown deadline exactly in COOLDOWN; its fire count within its width. -/
structure RuleLaw (r : Rule) : Prop where
  disarmed : r.run.state = .disarmed ↔ r.cfg.armed = false
  step : r.run.step.isSome ↔ r.run.state = .stepping
  stepDeadline : r.run.stepDeadline.isSome ↔ r.run.state = .stepping
  cooldownDeadline : r.run.cooldownDeadline.isSome ↔ r.run.state = .cooldown
  order : r.run.state = .stepping → r.cfg.mode = .order
  fires : r.run.fireCount ≤ 65535

/-- A contact line's runtime fields (R126): INACTIVE with nothing pending unless INPUT; no claimant, no pulse and not
asserted unless OUTPUT. -/
structure LineLaw (l : Line) : Prop where
  input : l.mode ≠ .input → l.accepted = .inactive ∧ l.pendingChange = none
  output : l.mode ≠ .output →
    l.claimants = Vector.replicate 24 false ∧ l.pulse = none ∧ l.asserted = false

/-- Every zone, rule and line record obeys its law. -/
structure RecordsLaw (s : State) : Prop where
  zones : ∀ z zone, s.zoneEngine.table.get z = some zone → ZoneLaw zone
  rules : ∀ r rule, s.ruleEngine.table.get r = some rule → RuleLaw rule
  lines : ∀ l, LineLaw (s.lines.get l)

/-- The directory agrees with the slots (R198); a commit's target is erased by generation and its generation is not
the erased one (R199, R200); in the generation phase the target's length and CRC are in order (R201). -/
structure StoreLaw (s : State) : Prop where
  dirA : s.store.dirA = judgeSlot s.store.slotA
  dirB : s.store.dirB = judgeSlot s.store.slotB
  erased : ∀ id, s.store.target = some id → (slotOf id s.store).generation = 0xFFFFFFFF
  generation : ∀ g, s.store.targetGen = some g → g ≠ 0xFFFFFFFF
  verified : s.store.phase = some .generation → ∀ id, s.store.target = some id →
    slotCrcGood (slotOf id s.store) = true

/-- The relay queue and the link (R139, R140, R143, §7.3): distinct tids; IDLE only with an empty queue; in SENDING
and AWAIT_REPLY a transaction is in flight; the in-flight one has begun an attempt and holds a tag, the others have
not and hold none. Of a reply frame at most five bytes are held, the first of them the start 5Bh, and in AWAIT_REPLY only
(R145, R195). -/
structure RelayLaw (s : State) : Prop where
  size : s.head.queue.length ≤ 8
  tids : (s.head.queue.map (·.tid)).Nodup
  idle : s.head.link = .idle → s.head.queue = []
  flying : s.head.link = .sending ∨ s.head.link = .awaitReply → s.head.inFlight = true
  held : s.head.inFlight = true → ∃ t rest, s.head.queue = t :: rest ∧ 1 ≤ t.attempts ∧ t.tag.isSome
  queued : ∀ t ∈ waiting s.head, t.attempts = 0 ∧ t.tag = none ∧ t.cancelPending = false ∧ t.failure = none
  received : s.head.received = [] ∨
    (s.head.link = .awaitReply ∧ s.head.received.head? = some 0x5B ∧ s.head.received.length ≤ 5)

/-! ### The taking of a host command -/

/-- The frame `f` of this kind is the oldest of the command queue, a command can be taken, and the session is OPEN
(R164). -/
structure Ready (kind : Byte) (f : Frame) (rest : List Frame) (s : State) : Prop where
  oldest : s.link.commands = f :: rest
  kind : f.kind = kind
  room : s.link.cache.length < 4 ∨ ∃ e es, s.link.cache = e :: es ∧ e.mark = .sent
  going : s.link.restartPending = false
  session : s.link.session.state = .opened

/-- A configuration command is not held off by a profile operation (R176). -/
def Unheld (s : State) : Prop := s.store.block ≠ .restoring ∧ s.store.block ≠ .erasing

/-- The newest entry of the reply cache answers the frame with this reply payload (R156, R163). -/
def Answered (f : Frame) (payload : List Byte) (t : State) : Prop :=
  ∃ e, t.link.cache.getLast? = some e ∧ e.seq = f.seq ∧ e.crc = f.crc
    ∧ e.frame = buildFrame f.seq (replyKind f.kind) payload

/-- The state with the host link controller, the delivery marks and the round put out of sight: what the start of a
frame's transmission cannot touch (R165). -/
def beyondLink (s : State) : State :=
  (s.setLink (startLink .r9600)).setReports
    { s.reports with
      records := unsentRecords s.reports.records, delivery := { s.reports.delivery with round := none } }

/-- `t` is the state after the taking of `f`, answered with a payload, where `u` is `s` with the command's effect on
the other blocks: the frame has left the command queue, the reply is cached, the session, the line and the receiver
are as before, and everything beyond the link is as in `u` (R164, R165). -/
structure Taken (f : Frame) (rest : List Frame) (payload : List Byte) (s u t : State) : Prop where
  commands : t.link.commands = rest
  answer : Answered f payload t
  session : t.link.session = s.link.session
  rate : t.link.rate = s.link.rate
  receiver : t.link.receiver = s.link.receiver
  gap : t.link.gap = s.link.gap
  badStop : t.link.badStop = s.link.badStop
  restart : t.link.restartPending = s.link.restartPending
  beyond : beyondLink t = beyondLink u

/-- The kind of a host command (chapter 09); none for a row that is no command of the host or has no kind of its
own. -/
def hostKind (i : Instr) : Option Byte :=
  match i with
  | .hello => some 0x01
  | .openSession => some 0x02
  | .closeSession => some 0x03
  | .ping => some 0x04
  | .setLink => some 0x05
  | .restart => some 0x06
  | .time => some 0x07
  | .setCamera => some 0x10
  | .getCamera => some 0x11
  | .setClass => some 0x14
  | .getClass => some 0x15
  | .putZone => some 0x18
  | .dropZone => some 0x19
  | .relearnZone => some 0x1A
  | .getZone => some 0x1B
  | .putRule => some 0x20
  | .dropRule => some 0x21
  | .armRule => some 0x22
  | .getRule => some 0x23
  | .putView => some 0x28
  | .dropView => some 0x29
  | .setRotation => some 0x2A
  | .setMinshow => some 0x2B
  | .showView => some 0x2C
  | .withdraw => some 0x2D
  | .hold => some 0x2E
  | .release => some 0x2F
  | .getScreen => some 0x30
  | .setFilter => some 0x38
  | .pull => some 0x39
  | .ack => some 0x3A
  | .setLine => some 0x40
  | .driveLine => some 0x41
  | .getLines => some 0x42
  | .setHeadlink => some 0x48
  | .relay => some 0x49
  | .cancelRelay => some 0x4A
  | .getRelays => some 0x4B
  | .commit => some 0x50
  | .restore => some 0x51
  | .eraseProfile => some 0x52
  | .getProfile => some 0x53
  | _ => none

/-- The fourteen configuration commands (R176). -/
def configurationCommands : List Instr :=
  [.setCamera, .setClass, .putZone, .dropZone, .putRule, .dropRule, .armRule, .putView, .dropView, .setRotation,
    .setMinshow, .setFilter, .setLine, .setHeadlink]

/-! ### What transitions send -/

/-- The CAMERA report of a transition from one record to another (R12). -/
def cameraTold (c : CameraId) (old new : Camera) (changed : Bool) : Report :=
  ⟨new.stamp, 2, c.val + 1, .camera old.state new.state new.standard changed⟩

/-- The camera's record becomes `new` by a transition: a notice to the zone engine, in the message given, one to the
scheduler, a CAMERA report (R11, R12). -/
def cameraMovesBy (message : CameraNotice → CameraMessage) (c : CameraId) (new : Camera) (changed : Bool) (s : State) :
    State :=
  let notice : CameraNotice := ⟨(s.cams.get c).state, new.state, new.standard⟩
  (((s.setCam c new).tellZones c (message notice)).tellSched c notice).offer
    (cameraTold c (s.cams.get c) new changed)

/-- The transition of a camera outside the application of a restored profile (R11, R12). -/
def cameraMoves (c : CameraId) (new : Camera) (changed : Bool) (s : State) : State :=
  cameraMovesBy .notice c new changed s

/-- The zone's entry becomes `new` by a transition from a state: the transition is sent to the rule engine, and a
ZONE report is offered where the flag says so (R41, R42). -/
def zoneMoves (z : ZoneId) (previous : ZoneState) (new : Zone) (cause : ZoneCause) (reported : Bool) (s : State) :
    State :=
  let s1 := (s.setZone z (some new)).tellRules
    (.transition ⟨z, previous, new.run.state, cause, new.run.stamp⟩)
  if reported then
    s1.offer ⟨new.run.stamp, new.cfg.priority, z.val,
      .zone previous new.run.state cause new.run.lastS new.run.reference new.run.lastD new.run.onsetCount⟩
  else s1

/-- A zone's runtime record on entry to OFF, BLIND or LEARNING: cleared, the onset count kept; last S stays on entry to
LEARNING only (R27). -/
def clearedFor (run : ZoneRun) (st : ZoneState) (cause : ZoneCause) (now : Time) : ZoneRun :=
  { run with
    state := st, reference := none, learnSum := 0, learnCount := 0, history := []
    lastS := if st = .learning then run.lastS else none
    lastD := none, fieldsInState := 0, lastCause := some cause, stamp := now }

/-- The transition that a camera notice makes a zone take: the state it enters and the cause (R29, R30). -/
def noticeMoves (c : CameraId) (n : CameraNotice) (zone : Zone) : Option (ZoneState × ZoneCause) :=
  if zone.cfg.camera ≠ c then none
  else if n.previous = .locked then
    (if zone.run.state = .off ∨ zone.run.state = .blind then none else some (.blind, .lost))
  else if n.new = .locked ∧ zone.run.state = .blind then
    (if hasVisibleCells n.standard zone.cfg = true then some (.learning, .seen) else some (.blind, .notVisible))
  else none

/-- The zone transition and the ZONE report of a zone that enters OFF, BLIND or LEARNING (R41, R42). -/
def clearedMove (z : ZoneId) (zone : Zone) (st : ZoneState) (cause : ZoneCause) (now : Time) :
    ZoneTransition × Report :=
  let run := clearedFor zone.run st cause now
  (⟨z, zone.run.state, st, cause, now⟩,
    ⟨now, zone.cfg.priority, z.val, .zone zone.run.state st cause run.lastS none none zone.run.onsetCount⟩)

/-- The entries of a zone in the summaries on their way are discarded (R32). -/
def entriesGone (z : ZoneId) (s : State) : State :=
  s.setWires { s.wires with camToZones := s.wires.camToZones.map (List.map fun
    | .summary f => .summary { f with entries := f.entries.filter fun e => e.1 != z }
    | .notice n => .notice n
    | .restored place n => .restored place n) }

/-- A zone that is dropped, disabled or replaced in camera, rectangle or component: it no longer qualifies for the field
in progress (R16), and its entries on their way are discarded (R32). -/
def zoneGone (z : ZoneId) (s : State) : State :=
  let s1 := entriesGone z s
  s1.setCams (s1.cams.map fun cam => { cam with qualifying := cam.qualifying.map (List.filter fun x => x != z) })

/-- The state that placement gives a zone: LEARNING when its camera is LOCKED in the zone engine's copy and the zone has
visible cells under the copy's standard, BLIND otherwise (R28, R31). -/
def placed (cfg : ZoneConfig) (s : State) : ZoneState :=
  if (s.zoneEngine.camCopy.get cfg.camera).state = .locked ∧
      hasVisibleCells (s.zoneEngine.camCopy.get cfg.camera).standard cfg = true then .learning else .blind

/-- The part of the restored profile is handed and taken: the notice of it goes to the store (R204). -/
def partTaken (part : Part) (s : State) : State :=
  s.setStore { s.store with handed := s.store.handed.erase part, notices := s.store.notices ++ [part] }

/-- A part of the profile that is being applied has been handed to its block and not yet taken (R204). -/
def Handed (part : Part) (p : Profile) (s : State) : Prop := s.store.applying = some p ∧ part ∈ s.store.handed

/-! ### What rules do (chapter 03) -/

/-- What the rule engine sends the other blocks, in the order it sends it on each path (R57, R62–R66). -/
structure Sent where
  requests : List ViewRequest
  withdrawals : List Origin
  claims : List Claim
  recalls : List Recall
  reports : List Report

/-- Nothing sent. -/
def Sent.nothing : Sent := ⟨[], [], [], [], []⟩

/-- One batch sent after another. -/
def Sent.andThen (x y : Sent) : Sent :=
  ⟨x.requests ++ y.requests, x.withdrawals ++ y.withdrawals, x.claims ++ y.claims, x.recalls ++ y.recalls,
    x.reports ++ y.reports⟩

/-- What is sent stands behind the messages already on each path. -/
def sending (x : Sent) (s : State) : State :=
  s.setWires { s.wires with
    requests := s.wires.requests ++ x.requests, withdrawals := s.wires.withdrawals ++ x.withdrawals
    claims := s.wires.claims ++ x.claims, recalls := s.wires.recalls ++ x.recalls
    offers := s.wires.offers ++ x.reports }

/-- The fields of a RULE report (R63). -/
def ruleTold (e : RuleEngine) (now : Time) (r : RuleId) (cfg : RuleConfig) (fires priority : Nat) (event : RuleEvent)
    (cause : Option ClearCause) : Report :=
  ⟨now, priority, r.val, .rule event cause cfg.mode (cfg.terms.map (termValue e)) fires⟩

/-- What the firing of a rule sends, its fire count being `fires` after it: its actions in list order (R53,
R62–R66). -/
def firingSends (e : RuleEngine) (now : Time) (r : RuleId) (cfg : RuleConfig) (fires : Nat) : Sent where
  requests := cfg.actions.filterMap fun
    | .showView view priority dwell lifetime _ => some ⟨.rule r, view, priority, dwell, lifetime⟩
    | _ => none
  withdrawals := []
  claims := cfg.actions.filterMap fun
    | .line l (.pulse n) => some (.pulse l n)
    | .line l .latch => some (.latch r l)
    | _ => none
  recalls := cfg.actions.filterMap fun
    | .recall head preset => some ⟨r, head, preset⟩
    | _ => none
  reports := cfg.actions.filterMap fun
    | .report priority _ => some (ruleTold e now r cfg fires priority .fired none)
    | _ => none

/-- What the release of a rule sends: the withdrawal where a SHOW action asks for it, the drop of each LATCH, the
CLEARED report where the REPORT action asks for it (R57). -/
def releaseSends (e : RuleEngine) (now : Time) (r : RuleId) (cfg : RuleConfig) (fires : Nat) (cause : ClearCause) :
    Sent where
  requests := []
  withdrawals := if withdrawsOnRelease cfg then [.rule r] else []
  claims := cfg.actions.filterMap fun
    | .line l .latch => some (.drop r l)
    | _ => none
  recalls := []
  reports := cfg.actions.filterMap fun
    | .report priority true => some (ruleTold e now r cfg fires priority .cleared (some cause))
    | _ => none

/-- What one term event does to a rule (section 3.9). -/
inductive RuleOutcome where
  | stays
  | awaits (n : Nat)
  | fires
  | cools
  | releases
  | resumes
  deriving DecidableEq

/-- The outcome for a rule when the term copies change from those of `e` to those of `e'` (R50, R52, R54, R55, R58,
R59, R61). -/
def ruleOutcome (e e' : RuleEngine) (rule : Rule) : RuleOutcome :=
  let rises := termRises e e' rule.cfg.terms
  let holds := condition e' rule.cfg rule.run.state
  let awaited := rule.run.step.getD 0
  if termsMove e e' rule.cfg.terms = false then .stays
  else match rule.run.state with
    | .disarmed => .stays
    | .idle =>
        if rule.cfg.mode = .order then (if rises 1 then .awaits 2 else .stays)
        else if holds then .fires else .stays
    | .stepping =>
        if rises awaited ∧ awaited = rule.cfg.terms.length then .fires
        else if rises awaited then .awaits (awaited + 1)
        else if rises 1 then .awaits 2
        else .stays
    | .fired => if holds then .stays else if rule.cfg.cooldown = 0 then .releases else .cools
    | .cooldown => if holds then .resumes else .stays

/-- A rule's runtime record after an outcome (R51–R55, R58, R59). -/
def ruleRunAfter (o : RuleOutcome) (now : Time) (rule : Rule) : RuleRun :=
  match o with
  | .stays => rule.run
  | .awaits n => ⟨.stepping, some n, some (later now rule.cfg.window), none, rule.run.fireCount, rule.run.lastFired⟩
  | .fires => ⟨.fired, none, none, none, bump rule.run.fireCount, some now⟩
  | .cools => ⟨.cooldown, none, none, some (later now rule.cfg.cooldown), rule.run.fireCount, rule.run.lastFired⟩
  | .releases => ⟨.idle, none, none, none, rule.run.fireCount, rule.run.lastFired⟩
  | .resumes => ⟨.fired, none, none, none, rule.run.fireCount, rule.run.lastFired⟩

/-- What a rule sends by an outcome: its actions at a firing, its release at a release, nothing otherwise. -/
def outcomeSends (o : RuleOutcome) (e : RuleEngine) (now : Time) (r : RuleId) (rule : Rule) : Sent :=
  match o with
  | .fires => firingSends e now r rule.cfg (bump rule.run.fireCount)
  | .releases => releaseSends e now r rule.cfg rule.run.fireCount .cooldownEnd
  | _ => .nothing

/-- What all rules send when the copies change to those of `e'`, in ascending rule order (R50). -/
def allSends (e e' : RuleEngine) (now : Time) : Sent :=
  (List.finRange 24).foldl (fun x r => match e.table.get r with
    | some rule => x.andThen (outcomeSends (ruleOutcome e e' rule) e' now r rule)
    | none => x) .nothing

/-- Every rule after a change of the copies to those of `e'`. -/
def tableAfter (e e' : RuleEngine) (now : Time) : Vector (Option Rule) 24 :=
  e.table.map (Option.map fun rule => ⟨rule.cfg, ruleRunAfter (ruleOutcome e e' rule) now rule⟩)

/-- The rule engine meets a change of the term copies to those of `e'`. -/
def rulesMeet (e' : RuleEngine) (s : State) : State :=
  sending (allSends s.ruleEngine e' s.now)
    (s.setRules { e' with table := tableAfter s.ruleEngine e' s.now })

/-- What a disarming sends: the release of a rule in FIRED or COOLDOWN (R71). -/
def disarmSends (e : RuleEngine) (now : Time) (r : RuleId) (rule : Rule) (cause : ClearCause) : Sent :=
  if rule.run.state = .fired ∨ rule.run.state = .cooldown then
    releaseSends e now r rule.cfg rule.run.fireCount cause
  else .nothing

/-- A rule without step and deadline. -/
def restingRun (st : RuleState) (fires : Nat) (last : Option Time) : RuleRun := ⟨st, none, none, none, fires, last⟩

/-- A rule whose record `cfg` says yes is armed with these counts: it fires at once when its mode is ANY, ALL or
COUNT and its condition is true, and enters IDLE otherwise (R70). -/
def armedAs (r : RuleId) (cfg : RuleConfig) (fires : Nat) (last : Option Time) (s : State) : State :=
  if cfg.mode ≠ .order ∧ condition s.ruleEngine cfg .idle = true then
    sending (firingSends s.ruleEngine s.now r cfg (bump fires))
      (s.setRule r (some ⟨cfg, restingRun .fired (bump fires) (some s.now)⟩))
  else s.setRule r (some ⟨cfg, restingRun .idle fires last⟩)

/-! ### What the scheduler does (chapter 04) -/

/-- A request that stops being shown keeps what is left of its dwell (R86). -/
def paused (now : Time) (q : Request) : Request := { q with remaining := owedDwell now q, dwellDeadline := none }

/-- A request that becomes the shown one has its dwell deadline set to the time plus its remaining dwell (R86). -/
def shownFrom (now : Time) (q : Request) : Request :=
  { paused now q with dwellDeadline := some (later now (owedDwell now q)) }

/-- A new source is on the screen: its record, the request set under it, and its presentation (R89). -/
def newSource (source : Source) (requests : List Request) (p : Presentation) (s : State) : State :=
  (s.setSched { s.sched with source := source, requests := requests }).sendPresentation p

/-- The table of R89: the hold, else the top request, else the entry that the search yields, else BLANK. A choice
that yields the source that is there changes nothing. -/
structure Chosen (s u : State) : Prop where
  held : ∀ v, s.sched.hold = some v →
    (s.sched.source.state = .hold → u = s) ∧
    (s.sched.source.state ≠ .hold → u = newSource ⟨.hold, s.sched.source.index, none, s.now, none, none⟩
      (s.sched.requests.map (paused s.now)) (.hold v) s)
  request : s.sched.hold = none → ∀ q, topRequest s.sched.requests = some q →
    (s.sched.source.state = .request → s.sched.source.shown = some q.origin → u = s) ∧
    (s.sched.source.state ≠ .request ∨ s.sched.source.shown ≠ some q.origin →
      u = newSource ⟨.request, s.sched.source.index, some q.origin, s.now, none, none⟩
        (s.sched.requests.map fun x => if x.origin = q.origin then shownFrom s.now x else paused s.now x)
        (.request q.view q.origin) s)
  visit : s.sched.hold = none → s.sched.requests = [] → ∀ k e, search s.sched s.sched.source.index = some k →
    s.sched.rotation[k]? = some e →
    u = newSource ⟨.rotating, k, none, s.now, some (later s.now (e.dwell * 100)), none⟩ [] (.rotating e.view k) s
  blank : s.sched.hold = none → s.sched.requests = [] → search s.sched s.sched.source.index = none →
    (s.sched.source.state = .blank → u = s) ∧
    (s.sched.source.state ≠ .blank →
      u = newSource ⟨.blank, s.sched.source.index, none, s.now, none, none⟩ [] .blank s)

/-- The fields of a REQUEST report (R101). -/
def requestTold (now : Time) (q : Request) (outcome : RequestOutcome) (remaining : Nat) : Report :=
  ⟨now, 0, originSource q.origin, .request q.view q.priority outcome remaining q.arrival⟩

/-- The request is on screen (R86). -/
def shownNow (q : Request) (s : State) : Prop :=
  s.sched.source.state = .request ∧ s.sched.source.shown = some q.origin

/-- The request has left the set, and its REQUEST report is offered (R86, R101). -/
def requestEnded (q : Request) (outcome : RequestOutcome) (remaining : Nat) (s : State) : State :=
  (s.setSched { s.sched with
    requests := s.sched.requests.filter (fun x => x.origin != q.origin)
    source := if s.sched.source.state = .request ∧ s.sched.source.shown = some q.origin then
        { s.sched.source with shown := none }
      else s.sched.source }).offer (requestTold s.now q outcome remaining)

/-- The request has entered the set as its newest arrival (R85). -/
def requestEntered (q : Request) (s : State) : State :=
  s.setSched { s.sched with requests := s.sched.requests ++ [q] }

/-- A preemption: the choice at once when the source has been shown for the minimum show, otherwise a deferral at the
source start plus minimum show, unless one is pending (R93). -/
def preempted (s : State) : State :=
  if s.sched.minShow * 10 ≤ elapsed s.now s.sched.source.start then chooseSource s
  else s.setSched { s.sched with source := { s.sched.source with
    deferral := some (s.sched.source.deferral.getD (later s.sched.source.start (s.sched.minShow * 10))) } }

/-- The screen after an entry that did not end the shown source (R93). -/
structure EntryJudged (q : Request) (s u : State) : Prop where
  hold : s.sched.source.state = .hold → u = s
  blank : s.sched.source.state = .blank → u = chooseSource s
  rotating : s.sched.source.state = .rotating → u = preempted s
  top : s.sched.source.state = .request → topRequest s.sched.requests = some q → u = preempted s
  below : s.sched.source.state = .request → topRequest s.sched.requests ≠ some q → u = s

/-! ### What the contact block does (chapter 06) -/

/-- The line transition is sent to the rule engine and its CONTACT report offered (R131). -/
def lineTold (t : LineChange) (s : State) : State :=
  (s.setWires { s.wires with
    linesToRules := upd s.wires.linesToRules t.line (s.wires.linesToRules.get t.line ++ [t]) }).offer
    ⟨t.stamp, 1, t.line.val + 1, .contact t.previous t.new⟩

/-- A line and the states it passes through as it judges its pin afresh, its accepted state INACTIVE: nothing with
the pin at the other level; otherwise a change becomes pending, or is accepted at once with debounce 0 (R130). -/
def judgedAfresh (now : Time) (ext : Level) (line : Line) : Line × List (LineState × LineState) :=
  if ext ≠ line.activeLevel then (line, [])
  else if line.debounce = 0 then ({ line with accepted := .active, pendingChange := none }, [(.inactive, .active)])
  else ({ line with pendingChange := some (later now line.debounce) }, [])

/-- The transition of a line whose accepted state is discarded (R128). -/
def discarded (line : Line) : List (LineState × LineState) :=
  if line.accepted = .active then [(.active, .inactive)] else []

/-- The table of R128: the line after a write of its three fields, and the transitions it sends. -/
def lineWritten (now : Time) (ext : Level) (cfg : LineConfig) (old : Line) : Line × List (LineState × LineState) :=
  let stored : Line := { old with mode := cfg.mode, activeLevel := cfg.activeLevel, debounce := cfg.debounce }
  let bare : Line := { stored with claimants := Vector.replicate 24 false, pulse := none, asserted := false }
  let still : Line := { stored with accepted := .inactive, pendingChange := none }
  let entered : Line := { bare with asserted := old.drive == .on }
  match old.mode, cfg.mode with
  | .input, .input =>
      if cfg.activeLevel = old.activeLevel then (stored, [])
      else ((judgedAfresh now ext still).1, discarded old ++ (judgedAfresh now ext still).2)
  | .input, .unused => (still, discarded old)
  | .input, .output => ({ entered with accepted := .inactive, pendingChange := none }, discarded old)
  | _, .input => judgedAfresh now ext { bare with accepted := .inactive, pendingChange := none }
  | .output, .unused => (bare, [])
  | .output, .output => (stored, [])
  | .unused, .output => (entered, [])
  | .unused, .unused => (stored, [])

/-- A line is written, and its transitions are sent in order (R128, R131). -/
def lineWrites (l : LineId) (cfg : LineConfig) (s : State) : State :=
  let x := lineWritten s.now (s.extPins.get l) cfg (s.lines.get l)
  x.2.foldl (fun s t => lineTold ⟨l, t.1, t.2, s.now⟩ s) (s.setLine l x.1)

/-- An OUTPUT line with new claims or drive, asserted exactly when its drive is ON, or AUTO with a claimant or a pulse
deadline in the future (R134). -/
structure Asserts (now : Time) (line : Line) : Prop where
  rule : line.asserted = true ↔ line.drive = .on ∨
    (line.drive = .auto ∧ ((∃ r, line.claimants.get r = true) ∨ ∃ d, line.pulse = some d ∧ after d now = true))

/-! ### Sessions (chapter 08) -/

/-- The session is closed: the queue keeps its records, all UNSENT, without round, deadline and retries (R117, R168). -/
def sessionClosed (s : State) : State :=
  ((s.setLink { s.link with session := { s.link.session with state := .closed, deadline := none } }).setReports
    { s.reports with
      records := unsentRecords s.reports.records
      delivery := { s.reports.delivery with session := .closed, retry := 0, deadline := none, round := none } }).setWires
    { s.wires with stall := false }

/-- The session closes with a SESSION report of a reason (R168). -/
def sessionLost (reason : SessionReason) (s : State) : State :=
  (sessionClosed s).offer ⟨s.now, 3, 0, .session reason s.link.session.mode
    (s.reports.records.filter fun r => r.mark == .pushed).length⟩

/-! ### What the head link does (chapter 07) -/

/-- The fields of the RELAY report of a transaction's end (R151). -/
def relayTold (now : Time) (t : Transaction) (result : RelayResult) : Report :=
  ⟨now, if result = .ok ∨ result = .cancelled ∨ result = .superseded then 1 else 2, originSource t.origin,
    .relay (some t.tid) t.head t.op result t.attempts⟩

/-- The in-flight transaction, the oldest, has ended with a result, and the link is in GAP (R148). -/
def flightOver (t : Transaction) (rest : List Transaction) (result : RelayResult) (s : State) : State :=
  (s.setHead { s.head with
    queue := rest, inFlight := false, link := .gap, replyDeadline := none
    gapLength := some s.head.settings.gap, line := none, received := [] }).offer (relayTold s.now t result)

/-- An attempt of the in-flight transaction has failed: it ends CANCELLED when the host has asked for that, waits for
its next attempt while its attempts are below retries + 1, and otherwise ends with the failure (R147). -/
def attemptFailed (t : Transaction) (rest : List Transaction) (failure : Failure) (s : State) : State :=
  if t.cancelPending = true then flightOver t rest .cancelled s
  else if t.attempts < s.head.settings.retries + 1 then
    s.setHead { s.head with
      queue := { t with failure := some failure } :: rest, link := .gap, replyDeadline := none
      gapLength := some s.head.settings.gap, line := none, received := [] }
  else flightOver t rest (match failure with | .noReply => .noReply | .badReply => .badReply) s

/-- The tid that a transaction takes beside those of `q`: the first from `next` on that none of them holds (R140). -/
def TidTaken (q : List Transaction) (next tid : Byte) : Prop :=
  ∃ n : Nat, tid = next + BitVec.ofNat 8 n ∧ (∀ t ∈ q, t.tid ≠ tid) ∧
    ∀ m < n, ∃ t ∈ q, t.tid = next + BitVec.ofNat 8 m

/-- A transaction has entered at the newest end of the queue; from IDLE the link has taken it, with the next tag, and
transmits its request frame (R140, R141, R143). -/
def transactionIn (t : Transaction) (h : HeadLink) : HeadLink :=
  if h.link = .idle then
    let taken := { t with attempts := 1, tag := some h.nextTag }
    { h with
      queue := [taken], inFlight := true, nextTid := t.tid + 1, nextTag := h.nextTag + 1, link := .sending
      replyDeadline := none, gapLength := none, line := some ⟨h.settings.rate, requestFrame taken⟩, received := [] }
  else { h with queue := h.queue ++ [t], nextTid := t.tid + 1 }

/-! ### What the receiver and the transmitter do (chapter 08) -/

/-- A row takes the host command of a kind: the row of that kind, UNKNOWN_KIND for a kind that no command carries. -/
def Carries (i : Instr) (kind : Byte) : Prop :=
  hostKind i = some kind ∨ (i = .unknownKind ∧ ∀ j, hostKind j ≠ some kind)

/-- `t` is the state after the takings that a check of the command queue brings about (R164): as long as a command can
be taken, the row of the oldest frame takes it. -/
inductive TakesOn : State → State → Prop
  | done (s : State) : s.link.commands = [] ∨ takeable s.link = false → TakesOn s s
  | taking (i : Instr) (f : Frame) (rest : List Frame) (s u t : State) :
      s.link.commands = f :: rest → takeable s.link = true → Carries i f.kind → exec i s = .next u → TakesOn u t →
      TakesOn s t

/-- A frame is refused with a NAK, and the receiver is in HUNT (R157–R160). -/
def refusedFrame (seq : Byte) (reason : NakReason) (s : State) : State :=
  (s.setLink { s.link with
    receiver := .hunt, gap := none, badStop := false
    immediate := if s.link.immediate.length < 4 then s.link.immediate ++ [.nak seq reason]
      else s.link.immediate }).kick

/-- The session when a valid frame arrives (R161, R170). -/
def heardSession (now : Time) (x : Session) : Session :=
  if x.state = .opened then
    { x with deadline := if x.silence = 0 then none else some (later now (x.silence * 100)) }
  else x

/-- Bytes that arrive at the host link receiver one after another, each with a good stop bit; none when a byte has no
next state. -/
def receiving : List Byte → State → Option State
  | [], s => some s
  | b :: bs, s => match exec (.hostByteReceived b true) s with
      | .next t => receiving bs t
      | _ => none

/-! ### What the profile store does (chapter 10) -/

/-- The operation in progress has ended with a PROFILE report of an event, a slot and a generation (R199, R208). -/
def operationOver (event : ProfileEvent) (slot : Nat) (gen : Option Word32) (s : State) : State :=
  (s.setStore { s.store with
    block := .idle, target := none, targetGen := none, snapshot := none, phase := none, restoreSlot := none
    applying := none, handed := [], notices := [], taken := [] }).offer ⟨s.now, 2, slot, .profile event gen⟩

/-- The number of a slot in a PROFILE report (R105). -/
def slotNumber : SlotId → Nat
  | .a => 1
  | .b => 2

/-- The store with a slot and its directory entry replaced. -/
def storing (id : SlotId) (slot : Slot) (entry : Option DirectoryEntry) (s : State) : State :=
  s.setStore (match id with
    | .a => { s.store with slotA := slot, dirA := entry }
    | .b => { s.store with slotB := slot, dirB := entry })

/-- The references of a profile's rules and rotation stand within the profile (R68, R203). -/
structure ProfileLaw (p : Profile) : Prop where
  zones : ∀ r cfg, p.rules.get r = some cfg → ∀ z n, ⟨.zone z, n⟩ ∈ cfg.terms → (p.zones.get z).isSome
  inputs : ∀ r cfg, p.rules.get r = some cfg → ∀ l n, ⟨.line l, n⟩ ∈ cfg.terms → (p.lines.get l).mode = .input
  views : ∀ r cfg, p.rules.get r = some cfg → ∀ v a b c d, .showView v a b c d ∈ cfg.actions →
    (p.views.get v).isSome
  outputs : ∀ r cfg, p.rules.get r = some cfg → ∀ l form, .line l form ∈ cfg.actions → (p.lines.get l).mode = .output
  rotation : ∀ e ∈ p.rotation, (p.views.get e.view).isSome

/-- The law on rule references (R68): every zone, line and view named by a defined watch rule, every view in the
rotation list or the request set, and the held view are defined, every line named by a term is in INPUT mode and
every line named by a LINE action is in OUTPUT mode. -/
structure ReferencesLaw (s : State) : Prop where
  zones : ∀ r rule, s.ruleEngine.table.get r = some rule → ∀ z n, ⟨.zone z, n⟩ ∈ rule.cfg.terms →
    (s.zoneEngine.table.get z).isSome
  inputs : ∀ r rule, s.ruleEngine.table.get r = some rule → ∀ l n, ⟨.line l, n⟩ ∈ rule.cfg.terms →
    (s.lines.get l).mode = .input
  views : ∀ r rule, s.ruleEngine.table.get r = some rule → ∀ v a b c d, .showView v a b c d ∈ rule.cfg.actions →
    (s.sched.views.get v).isSome
  outputs : ∀ r rule, s.ruleEngine.table.get r = some rule → ∀ l form, .line l form ∈ rule.cfg.actions →
    (s.lines.get l).mode = .output
  rotation : ∀ e ∈ s.sched.rotation, (s.sched.views.get e.view).isSome
  requests : ∀ q ∈ s.sched.requests, (s.sched.views.get q.view).isSome
  held : ∀ v, s.sched.hold = some v → (s.sched.views.get v).isSome

/-- A part of the profile that is being applied has been taken by its block (R204). -/
def partDone (part : Part) (s : State) : Prop := part ∈ s.store.notices ∨ part ∈ s.store.taken

/-- How far the application of a restored profile has come (R204): the store is RESTORING; each part is handed once,
in the order of the four steps; a block that has taken its part holds what the profile gives it; and between the two
events of the rule engine there is no rule. -/
structure ApplyingLaw (s : State) : Prop where
  idle : s.store.applying = none → s.store.handed = [] ∧ s.store.notices = [] ∧ s.store.taken = []
  restoring : s.store.applying.isSome → s.store.block = .restoring
  profile : ∀ p, s.store.applying = some p → ProfileLaw p
  once : (s.store.handed ++ s.store.notices ++ s.store.taken).Nodup
  second : ∀ x ∈ secondParts, x ∈ s.store.handed ∨ partDone x s → .rulesRemove ∈ s.store.taken
  third : ∀ x ∈ thirdParts, x ∈ s.store.handed ∨ partDone x s → .zones ∈ s.store.taken ∧ .lines ∈ s.store.taken
  last : .rulesArm ∈ s.store.handed ∨ partDone .rulesArm s → .schedule ∈ s.store.taken
  zones : ∀ p, s.store.applying = some p → partDone .zones s →
    ∀ z, (s.zoneEngine.table.get z).isSome = (p.zones.get z).isSome
  lines : ∀ p, s.store.applying = some p → partDone .lines s →
    ∀ l, (s.lines.get l).mode = (p.lines.get l).mode
  schedule : ∀ p, s.store.applying = some p → partDone .schedule s → s.sched.views = p.views
  between : partDone .rulesRemove s → ¬ partDone .rulesArm s → ∀ r, s.ruleEngine.table.get r = none

/-! ### Layouts of the catalogue (chapter 09), as its tables give them -/

/-- The code of a value by a row of the table of R189: the codes run from 0 in the order of the list. -/
def codeFrom0 {α : Type} [DecidableEq α] (values : List α) (x : α) : Byte := BitVec.ofNat 8 (values.idxOf x)

/-- The code of a value by a row of R189 whose codes run from 1; 0 for none. -/
def codeFrom1 {α : Type} [DecidableEq α] (values : List α) : Option α → Byte
  | none => 0
  | some x => BitVec.ofNat 8 (values.idxOf x + 1)

/-- A byte in which bit i is set when the i-th of these holds. -/
def flags (bits : List Bool) : Byte :=
  BitVec.ofNat 8 ((bits.zipIdx.map fun (b, i) => if b then 2 ^ i else 0).sum)

/-- A yes/no field (§9.11). -/
def yesByte (b : Bool) : Byte := if b then 0x01 else 0x00

/-- An origin: 0–23 the rule, FFh HOST, FEh absent (R189). -/
def originByte : Option Origin → Byte
  | some (.rule r) => BitVec.ofNat 8 r.val
  | some .host => 0xFF
  | none => 0xFE

/-- A camera standard: 0 none, 1 525, 2 625 (R189). -/
def standardByte : Option Standard → Byte := codeFrom1 [.s525, .s625]

/-- A time remaining in two bytes, FFFFh for none (R185, R186). -/
def remaining2 (now : Time) (d : Option Time) : List Byte :=
  match d with
  | some d => be16 (remainingTo d now)
  | none => [0xFF, 0xFF]

/-- A time remaining in four bytes, FFFFFFFFh for none (R183). -/
def remaining4 (now : Time) (d : Option Time) : List Byte :=
  match d with
  | some d => be32 (remainingTo d now)
  | none => [0xFF, 0xFF, 0xFF, 0xFF]

/-- GET_CAMERA's reply (R179); the run standard is none while the run count is 0. -/
def cameraLayout (c : CameraId) (x : Camera) : List Byte :=
  [BitVec.ofNat 8 (c.val + 1), yesByte x.enabled, codeFrom0 [.odd, .even, .both] x.parity,
    codeFrom0 [.off, .searching, .locked, .lost] x.state, standardByte x.standard, BitVec.ofNat 8 x.runCount,
    if x.runCount = 0 then 0 else standardByte x.runStandard] ++ be32 x.stamp.toNat

/-- The class of GET_CLASS's reply: SET_CLASS's thirteen bytes (R179). -/
def classLayout (k : ClassId) (x : SensClass) : List Byte :=
  [BitVec.ofNat 8 k.val] ++ be16 x.threshold ++ be16 x.darkFloor ++ [BitVec.ofNat 8 x.window, BitVec.ofNat 8 x.kOn,
    BitVec.ofNat 8 x.kOff, BitVec.ofNat 8 x.hold, BitVec.ofNat 8 x.learn, BitVec.ofNat 8 x.adapt] ++ be16 x.maxActive

/-- The zone payload (R192). -/
def zoneLayout (z : ZoneId) (x : ZoneConfig) : List Byte :=
  [BitVec.ofNat 8 z.val, BitVec.ofNat 8 (x.camera.val + 1), BitVec.ofNat 8 x.col0, BitVec.ofNat 8 x.row0,
    BitVec.ofNat 8 x.col1, BitVec.ofNat 8 x.row1, codeFrom0 [.y, .cb, .cr] x.component, BitVec.ofNat 8 x.cls.val,
    yesByte x.enabled, flags [x.causes.onset, x.causes.calm, x.causes.stale, x.causes.learned, x.causes.lost],
    BitVec.ofNat 8 x.priority, BitVec.ofNat 8 x.label.length] ++ x.label ++ [0x00]

/-- The zone runtime block: 21 bytes (R192). -/
def zoneRunLayout (x : ZoneRun) : List Byte :=
  [codeFrom0 [.off, .blind, .learning, .quiet, .active] x.state,
    flags [x.reference.isSome, x.lastS.isSome, x.lastD.isSome, x.lastCause.isSome]]
    ++ be16 (x.reference.getD 0) ++ [BitVec.ofNat 8 x.learnCount] ++ be16 (x.lastS.getD 0) ++ be16 (x.lastD.getD 0)
    ++ [BitVec.ofNat 8 x.history.length]
    ++ be16 ((x.history.zipIdx.map fun (hit, i) => if hit then 2 ^ i else 0).sum)
    ++ be16 x.fieldsInState ++ be16 x.onsetCount
    ++ [codeFrom1 [.enabled, .disabled, .lost, .seen, .notVisible, .reset, .learned, .onset, .calm, .stale] x.lastCause]
    ++ be32 x.stamp.toNat

/-- One term of the rule payload: the type byte, bit 7 the negate flag, and the operand (R189, R193). -/
def termLayout (t : Term) : List Byte :=
  match t.operand with
  | .zone z => [if t.negate then 0x81 else 0x01, BitVec.ofNat 8 z.val]
  | .line l => [if t.negate then 0x82 else 0x02, BitVec.ofNat 8 (l.val + 1)]

/-- One action of the rule payload, by its type (R193). -/
def actionLayout : Action → List Byte
  | .report priority clear => [0x01, BitVec.ofNat 8 priority, yesByte clear]
  | .showView view priority dwell lifetime withdraw =>
      [0x02, BitVec.ofNat 8 view.val, BitVec.ofNat 8 priority, BitVec.ofNat 8 dwell] ++ be16 lifetime
        ++ [yesByte withdraw]
  | .line l (.pulse steps) => [0x03, BitVec.ofNat 8 (l.val + 1), 0x00, BitVec.ofNat 8 steps]
  | .line l .latch => [0x03, BitVec.ofNat 8 (l.val + 1), 0x01, 0x00]
  | .recall head preset => [0x04, BitVec.ofNat 8 head.val, BitVec.ofNat 8 preset.val]

/-- The rule payload (R193). -/
def ruleLayout (r : RuleId) (x : RuleConfig) : List Byte :=
  [BitVec.ofNat 8 r.val, yesByte x.armed] ++ (match x.mode with
    | .any => [0x00, 0x00]
    | .all => [0x01, 0x00]
    | .count n => [0x02, BitVec.ofNat 8 n]
    | .order => [0x03, 0x00]) ++ [BitVec.ofNat 8 x.terms.length] ++ x.terms.flatMap termLayout ++ be16 x.window
    ++ be16 x.cooldown ++ [BitVec.ofNat 8 x.actions.length] ++ x.actions.flatMap actionLayout

/-- The rule runtime block (R193): the deadline is that of STEPPING or COOLDOWN, a term's value that of the copies. -/
def ruleRunLayout (now : Time) (e : RuleEngine) (x : Rule) : List Byte :=
  let deadline := if x.run.state = .stepping then x.run.stepDeadline
    else if x.run.state = .cooldown then x.run.cooldownDeadline else none
  [codeFrom0 [.disarmed, .idle, .stepping, .fired, .cooldown] x.run.state, BitVec.ofNat 8 (x.run.step.getD 0),
    flags [deadline.isSome, x.run.lastFired.isSome]]
    ++ be32 (match deadline with | some d => remainingTo d now | none => 0) ++ be16 x.run.fireCount
    ++ be32 (x.run.lastFired.getD 0).toNat
    ++ x.cfg.terms.map fun t => codeFrom0 [.false, .true, .unknown] (termValue e t)

/-- GET_SCREEN's reply (R103, R183). -/
def screenLayout (s : State) : List Byte :=
  let src := s.sched.source
  let deadline := match src.state with
    | .rotating => src.rotationDeadline
    | .request => src.shown.bind fun o => (requestOf o s.sched.requests).bind (·.dwellDeadline)
    | _ => none
  let view := fun v : Option ViewId => match v with | some v => (BitVec.ofNat 8 v.val : Byte) | none => 0xFF
  [codeFrom0 [.blank, .rotating, .request, .hold] src.state, BitVec.ofNat 8 src.index, originByte src.shown]
    ++ be32 (elapsed s.now src.start) ++ remaining4 s.now deadline ++ remaining4 s.now src.deferral
    ++ [view s.sched.hold, BitVec.ofNat 8 s.sched.minShow]
    ++ [BitVec.ofNat 8 s.sched.rotation.length]
    ++ s.sched.rotation.flatMap (fun e => [BitVec.ofNat 8 e.view.val, BitVec.ofNat 8 e.dwell])
    ++ [BitVec.ofNat 8 s.sched.requests.length]
    ++ s.sched.requests.flatMap (fun q => [originByte (some q.origin), BitVec.ofNat 8 q.view.val,
      BitVec.ofNat 8 q.priority] ++ be16 (owedDwell s.now q) ++ be32 (remainingTo q.lifetime s.now))
    ++ [view (viewOf s.comp.applied)]

/-- One line block of GET_LINES (R185): of an UNUSED line the level is LOW, of an OUTPUT line the driven one. -/
def lineLayout (now : Time) (ext : Level) (x : Line) : List Byte :=
  let pin := match x.mode with
    | .unused => Level.low
    | .input => ext
    | .output => if x.asserted then x.activeLevel else match x.activeLevel with | .low => .high | .high => .low
  [codeFrom0 [.unused, .input, .output] x.mode, codeFrom0 [.low, .high] x.activeLevel, BitVec.ofNat 8 x.debounce,
    codeFrom0 [.auto, .on, .off] x.drive, codeFrom0 [.low, .high] pin, codeFrom0 [.inactive, .active] x.accepted]
    ++ remaining2 now x.pendingChange ++ [yesByte x.asserted]
    ++ be24 ((x.claimants.toList.zipIdx.map fun (b, i) => if b then 2 ^ i else 0).sum) ++ remaining2 now x.pulse

/-- One transaction in GET_RELAYS' reply (R186). -/
def transactionLayout (inFlight : Bool) (x : Transaction) : List Byte :=
  [x.tid, originByte (some x.origin), BitVec.ofNat 8 x.head.val] ++ (match x.op with
    | .recall p => [0x01, BitVec.ofNat 8 p.val]
    | .raw bytes => [0x02, BitVec.ofNat 8 bytes.length]) ++ [BitVec.ofNat 8 x.attempts,
      flags [inFlight, x.cancelPending, x.tag.isSome, false, x.failure == some .noReply, x.failure == some .badReply],
      x.tag.getD 0]

/-- GET_RELAYS' reply (R152, R186). -/
def relaysLayout (s : State) : List Byte :=
  let h := s.head
  [codeFrom0 [.r19200, .r38400] h.settings.rate, BitVec.ofNat 8 h.settings.timeout, BitVec.ofNat 8 h.settings.retries,
    BitVec.ofNat 8 h.settings.gap, codeFrom0 [.idle, .sending, .awaitReply, .gap] h.link]
    ++ remaining2 s.now h.replyDeadline ++ [h.nextTid, h.nextTag, BitVec.ofNat 8 h.queue.length]
    ++ h.queue.zipIdx.flatMap fun (x, i) => transactionLayout (h.inFlight && i == 0) x

/-- GET_PROFILE's reply (R187, R199). -/
def profileLayout (x : ProfileStore) : List Byte :=
  let entry := fun d : Option DirectoryEntry => match d with
    | some d => [0x01] ++ be32 d.generation.toNat ++ be16 d.length
    | none => [0x00, 0xFF, 0xFF, 0xFF, 0xFF, 0x00, 0x00]
  [codeFrom0 [.idle, .committing, .restoring, .erasing] x.block] ++ entry x.dirA ++ entry x.dirB
    ++ [codeFrom1 [.a, .b] x.startSource] ++ be32 (x.startGen.getD 0).toNat

end Sys2Proof.Safety
end

