-- ==== Sys2Proof/Certificates/Slice0/Obligations.lean ====
section
/-! DEFINITION. The statements about the part, for the provers. Each cites the rules of spec/ it rests on; a clause
that is the model's choice names its log entry. -/

open Sys2Proof Sys2Proof.Machine Sys2Proof.Safety

/-! ### The machine as a whole -/

/-- The queue of waiting commands (log 3): the oldest is executed on the state with the rest of the queue; with none
waiting the part idles. -/
def Obligations.StepTakesFront : Prop :=
  (∀ (c : Instr) (rest : List Instr) (s : State), s.pending = c :: rest → step s = exec c (s.setPending rest)) ∧
  ∀ s : State, s.pending = [] → step s = .next s

/-- The state right after reset (R75, R97, R114, R115, R154, R173, R207; what stands in the slots, on the straps and
on the pins is the model's choice, log 6): a power-on with every strap low leaves it as it is, and it holds the
values named. That the load takes no time, so that the start-up record carries time stamp 0, is the model's choice
(log 29). -/
def Obligations.ResetState : Prop :=
  exec (.powerOn ⟨.low, .low, .low, .low⟩) State.reset = .next State.reset ∧
  State.reset.reports.records = [⟨1, ⟨0, 2, 0, .profile .factory none⟩, .unsent⟩] ∧
  State.reset.reports.nextSeq = 2 ∧ State.reset.reports.dropped = 0 ∧
  State.reset.reports.delivery = ⟨.closed, .pull, 1, 10, 0, none, none⟩ ∧
  State.reset.link.session = ⟨.closed, .pull, 1, 10, 0, none⟩ ∧
  State.reset.link.receiver = .hunt ∧ State.reset.link.commands = [] ∧ State.reset.link.cache = [] ∧
  State.reset.link.immediate = [] ∧ State.reset.link.tx = none ∧
  (∀ c, (State.reset.cams.get c).state = .searching) ∧
  (∀ z, State.reset.ruleEngine.zoneCopy.get z = .unknown) ∧
  (∀ l, State.reset.ruleEngine.lineCopy.get l = .inactive) ∧
  State.reset.comp.applied = .blank ∧ State.reset.comp.pending = none ∧
  State.reset.head.queue = [] ∧ State.reset.head.link = .idle ∧
  State.reset.head.nextTid = 0 ∧ State.reset.head.nextTag = 0 ∧ State.reset.head.received = []

/-- R1: the time base goes up by 1 at each centisecond and wraps from FFFFFFFFh to 0; nothing else changes at a
tick. A value lies after another when their difference modulo 2^32 is from 1 to 7FFFFFFFh. -/
def Obligations.TimeBaseTicks : Prop :=
  (∀ s : State, exec .timeBaseTick s = .next (s.setNow (s.now + 1))) ∧
  (∀ s : State, s.now = 0xFFFFFFFF → exec .timeBaseTick s = .next (s.setNow 0)) ∧
  ∀ a b : Time, after a b = true ↔ 1 ≤ (a - b).toNat ∧ (a - b).toNat ≤ 0x7FFFFFFF

/-- R206, R207, R173, R114, R154, R166, R89, R97: what power-on and the reset line leave, whatever the state before.
The slots are kept and the directory is rebuilt from them. With S3 high the factory defaults are loaded; with S3 low
the newest valid slot that passes the checks of R203, else the other slot if it is valid and passes them, else the
factory defaults. That the load takes no time, so that the time base and the stamps stand at 0, is the model's choice
(log 29), as is that a slot is read without fault (log 39).
R51, R47, R45, R75, R2: after power-on every rule is DISARMED or IDLE as its armed field says, every term copy is
UNKNOWN or INACTIVE, every zone is OFF or BLIND as its enabled field says, and every camera is SEARCHING or OFF as its
enabled field says.
R126, R130, R131: every line is driven AUTO, without claimants, pulse and assertion, and INACTIVE, but that an INPUT
line with its pin at the active level has a change pending, or with debounce 0 is ACTIVE at once; such a line sends
its transition and offers its CONTACT report, in the order L1 to L8, which is the model's choice (log 38). Every other
path between the blocks is empty. -/
def Obligations.FullReset : Prop :=
  (∀ (straps : Straps) (s : State), ∃ t,
    exec (.powerOn straps) s = .next t ∧ exec (.resetLine straps) s = .next t ∧
    t.now = 0 ∧ t.straps = straps ∧ t.link = startLink (strapRate straps) ∧
    t.outputStandard = strapStandard straps ∧
    t.store.slotA = s.store.slotA ∧ t.store.slotB = s.store.slotB ∧
    t.store.dirA = judgeSlot s.store.slotA ∧ t.store.dirB = judgeSlot s.store.slotB ∧ t.store.block = .idle ∧
    t.reports.records = [⟨1, ⟨0, 2, slotCode t.store.startSource,
      .profile (if t.store.startSource.isSome then .loaded else .factory) t.store.startGen⟩, .unsent⟩] ∧
    t.reports.nextSeq = 2 ∧ t.reports.dropped = 0 ∧
    t.reports.delivery = ⟨.closed, .pull, 1, 10, 0, none, none⟩ ∧
    t.head.queue = [] ∧ t.head.link = .idle ∧ t.head.nextTid = 0 ∧ t.head.nextTag = 0 ∧ t.head.received = [] ∧
    t.sched.requests = [] ∧ t.sched.hold = none ∧ t.sched.source = ⟨.blank, 0, none, 0, none, none⟩ ∧
    t.comp.applied = .blank ∧ t.comp.pending = none ∧
    let newest := newestSlot (judgeSlot s.store.slotA) (judgeSlot s.store.slotB)
    let other := fun id : SlotId => match id with | .a => SlotId.b | .b => .a
    let factory := t.store.startSource = none ∧ t.store.startGen = none ∧ runningProfile t = factoryProfile
    let loads := fun (id : SlotId) (p : Profile) => t.store.startSource = some id ∧
      t.store.startGen = some (slotOf id s.store).generation ∧ runningProfile t = p
    let fits := fun (id : SlotId) (p : Profile) =>
      (judgeSlot (slotOf id s.store)).isSome ∧ checkedProfile (slotOf id s.store) = some p
    (straps.s3 = .high → factory) ∧
    (straps.s3 = .low → newest = none → factory) ∧
    ∀ id, straps.s3 = .low → newest = some id →
      (∀ p, fits id p → loads id p) ∧
      (∀ p, (∀ q, ¬ fits id q) → fits (other id) p → loads (other id) p) ∧
      ((∀ q, ¬ fits id q) → (∀ q, ¬ fits (other id) q) → factory)) ∧
  (∀ (straps : Straps) (s : State), ∃ t, exec (.powerOn straps) s = .next t ∧
    (∀ r rule, t.ruleEngine.table.get r = some rule →
      rule.run = ⟨if rule.cfg.armed then .idle else .disarmed, none, none, none, 0, none⟩) ∧
    (∀ z, t.ruleEngine.zoneCopy.get z = .unknown) ∧ (∀ l, t.ruleEngine.lineCopy.get l = .inactive) ∧
    (∀ z zone, t.zoneEngine.table.get z = some zone →
      zone.run.state = if zone.cfg.enabled then .blind else .off) ∧
    ∀ c, (t.cams.get c).state = (if (t.cams.get c).enabled then .searching else .off) ∧
      (t.cams.get c).standard = none ∧ (t.cams.get c).runCount = 0) ∧
  ∀ (straps : Straps) (s : State), ∃ t, exec (.powerOn straps) s = .next t ∧ t.extPins = s.extPins ∧
    let active := fun l => (t.lines.get l).mode = .input ∧ s.extPins.get l = (t.lines.get l).activeLevel
    (∀ l, (t.lines.get l).drive = .auto ∧ (t.lines.get l).claimants = Vector.replicate 24 false ∧
      (t.lines.get l).pulse = none ∧ (t.lines.get l).asserted = false ∧
      (¬ active l → (t.lines.get l).accepted = .inactive ∧ (t.lines.get l).pendingChange = none) ∧
      (active l → (t.lines.get l).debounce ≠ 0 →
        (t.lines.get l).accepted = .inactive ∧ (t.lines.get l).pendingChange = some (later 0 (t.lines.get l).debounce)) ∧
      (active l → (t.lines.get l).debounce = 0 →
        (t.lines.get l).accepted = .active ∧ (t.lines.get l).pendingChange = none)) ∧
    t.wires = { Wires.empty with
      linesToRules := Vector.ofFn fun l =>
        if active l ∧ (t.lines.get l).debounce = 0 then [⟨l, .inactive, .active, 0⟩] else []
      offers := (List.finRange 8).filterMap fun l =>
        if active l ∧ (t.lines.get l).debounce = 0 then some ⟨0, 1, l.val + 1, .contact .inactive .active⟩ else none }

/-! ### The judging of host commands -/

/-- R164: in a CLOSED session a command other than HELLO and OPEN is answered CLOSED, and nothing else happens.
R174, R175: a frame of a kind that no command carries is answered UNKNOWN and changes nothing; its reply kind is
FFh for a kind of 80h or above (R156). -/
def Obligations.CommandsTurnedAway : Prop :=
  (∀ (i : Instr) (kind : Byte) (f : Frame) (rest : List Frame) (s : State),
    hostKind i = some kind → i ≠ .hello → i ≠ .openSession →
    s.link.commands = f :: rest → f.kind = kind → takeable s.link = true → s.link.session.state = .closed →
    ∃ t, exec i s = .next t ∧ Taken f rest [0x09] s s t) ∧
  (∀ (f : Frame) (rest : List Frame) (s : State),
    Ready f.kind f rest s → (∀ i, hostKind i ≠ some f.kind) →
    ∃ t, exec .unknownKind s = .next t ∧ Taken f rest [0x04] s s t ∧
      (128 ≤ f.kind.toNat → ∃ e, t.link.cache.getLast? = some e ∧ e.frame = buildFrame f.seq 0xFF [0x04]))

/-- R174, R176: while the profile store is RESTORING or ERASING each of the fourteen configuration commands is
refused BUSY, whatever its payload, and changes nothing. -/
def Obligations.ConfigurationHeldOff : Prop :=
  ∀ (i : Instr) (kind : Byte) (f : Frame) (rest : List Frame) (s : State),
    i ∈ configurationCommands → hostKind i = some kind → Ready kind f rest s →
    s.store.block = .restoring ∨ s.store.block = .erasing →
    ∃ t, exec i s = .next t ∧ Taken f rest [0x08] s s t

/-- R174: "A command refused at any step changes no state in any block." A host command whose status is neither OK
nor ACCEPTED leaves every block as it was; SHOW_VIEW, which may offer its REFUSED_FULL report, is the exception. -/
def Obligations.RefusalsChangeNothing : Prop :=
  ∀ (i : Instr) (kind : Byte) (f : Frame) (rest : List Frame) (s t : State) (status : Byte) (fields : List Byte),
    hostKind i = some kind → i ≠ .showView → Ready kind f rest s → exec i s = .next t →
    Answered f (status :: fields) t → status ≠ 0 → status ≠ 1 →
    Taken f rest (status :: fields) s s t

/-! ### Cameras (chapter 01) -/

/-- R5, R7, R11, R12: a valid field that ends in SEARCHING or LOST. With three fields of its standard in the run the
camera locks: run cleared, standard recorded, LOST deadline discarded, loss deadline three field periods away (six
counts; for 525 five or six, log 5), a transition with its notices and report. Otherwise the run grows or begins
again at 1, with a new run deadline. A field that is not valid clears the run. -/
def Obligations.GoodFieldRun : Prop :=
  ∀ (c : CameraId) (f : FieldInfo) (s : State),
    (s.cams.get c).state = .searching ∨ (s.cams.get c).state = .lost →
    (fieldClass f = none → exec (.fieldEnd c f) s = .next (s.setCam c
      { s.cams.get c with runCount := 0, runStandard := none, runDeadline := none })) ∧
    ∀ st, fieldClass f = some st → ∃ span, (span = 6 ∨ (st = .s525 ∧ span = 5)) ∧
      (3 ≤ (s.cams.get c).runCount → (s.cams.get c).runStandard = some st →
        exec (.fieldEnd c f) s = .next ((cameraMoves c { s.cams.get c with
          state := .locked, standard := some st, runCount := 0, runStandard := none, runDeadline := none
          stamp := s.now, lossDeadline := some (s.now + span), lostDeadline := none, qualifying := none }
          ((s.cams.get c).standard != some st) s).setFresh (s.fresh + 1))) ∧
      (0 < (s.cams.get c).runCount → (s.cams.get c).runCount < 3 → (s.cams.get c).runStandard = some st →
        exec (.fieldEnd c f) s = .next ((s.setCam c { s.cams.get c with
          runCount := (s.cams.get c).runCount + 1, runStandard := some st
          runDeadline := some (s.now + span) }).setFresh (s.fresh + 1))) ∧
      ((s.cams.get c).runCount = 0 ∨ (s.cams.get c).runStandard ≠ some st →
        exec (.fieldEnd c f) s = .next ((s.setCam c { s.cams.get c with
          runCount := 1, runStandard := some st, runDeadline := some (s.now + span) }).setFresh (s.fresh + 1)))

/-- R8, R9, R15, R16, R18: a field that ends in LOCKED. A valid field of the recorded standard restarts the loss
deadline and goes to the frame store, in place of the one before of its parity, which is the model's choice (log 41);
where the measure parity selects its parity, the zone engine is sent one summary of the qualifying zones, empty where
no first active line has fixed them (log 16). The three field periods of a 525 camera are five or six counts (log 5).
A valid field of the other standard takes the camera to LOST with a run of 1. A field that is not valid is not
measured. A camera in OFF takes none (R6). -/
def Obligations.LockedField : Prop :=
  ∀ (c : CameraId) (f : FieldInfo) (s : State),
    ((s.cams.get c).state = .off → exec (.fieldEnd c f) s = .next s) ∧
    ((s.cams.get c).state = .locked →
      (fieldClass f = none → exec (.fieldEnd c f) s = .next (s.setCam c { s.cams.get c with qualifying := none })) ∧
      ∀ st, fieldClass f = some st → ∃ span, (span = 6 ∨ (st = .s525 ∧ span = 5)) ∧
        ((s.cams.get c).standard ≠ some st →
          exec (.fieldEnd c f) s = .next ((cameraMoves c { s.cams.get c with
            state := .lost, stamp := s.now, lossDeadline := none, lostDeadline := some (s.now + 200)
            runCount := 1, runStandard := some st, runDeadline := some (s.now + span), qualifying := none }
            false s).setFresh (s.fresh + 1))) ∧
        ((s.cams.get c).standard = some st → ∃ t, exec (.fieldEnd c f) s = .next t ∧
          t.cams.get c = { s.cams.get c with
            lossDeadline := some (s.now + span), qualifying := none
            storeOdd := if f.parity = .odd then some f.picture else (s.cams.get c).storeOdd
            storeEven := if f.parity = .even then some f.picture else (s.cams.get c).storeEven } ∧
          t = ((s.setCam c (t.cams.get c)).setFresh (s.fresh + 1)).setWires t.wires ∧
          t.wires = if paritySelected (s.cams.get c).parity f.parity then
              (s.tellZones c (.summary ⟨s.now, (((s.cams.get c).qualifying.getD []).filterMap fun z =>
                (s.zoneEngine.table.get z).map fun zone => (z, zoneMean zone.cfg st f.picture))⟩)).wires
            else s.wires))

/-- R14: the zone mean S is the largest whole number of 1/16 levels whose product with the sample count does not pass
sixteen times the sum of the samples of the visible cells, so S = floor (sum × 16 / count).
R34: the change measure d, in per mille of the larger of the reference and the dark floor, at most 65535. -/
def Obligations.MeasuresOfAField : Prop :=
  (∀ (z : ZoneConfig) (st : Standard) (p : Picture),
    z.col0 ≤ z.col1 → z.row0 ≤ z.row1 → z.row0 < rowsOf st →
    zoneMean z st p * (samplesPerCell z.component * visibleCells z st) ≤ 16 * zoneSum z (lastVisibleRow z st) p ∧
    16 * zoneSum z (lastVisibleRow z st) p <
      (zoneMean z st p + 1) * (samplesPerCell z.component * visibleCells z st)) ∧
  (∀ (cls : SensClass) (R S : Nat), 1 ≤ cls.darkFloor →
    changeMeasure cls R S =
      min 65535 (((if S ≤ R then R - S else S - R) * 1000) / (if R ≤ cls.darkFloor then cls.darkFloor else R)))

/-- R5, R8, R10, R16: the run deadline clears the run, the loss deadline takes a LOCKED camera to LOST with its run
at 0, the LOST deadline takes a LOST camera to SEARCHING with its run kept, each once the time base has reached it;
the first active line of a field of a LOCKED camera fixes the zones that qualify.
R3, R6, R11, R12: a camera record that is written, by SET_CAMERA or by a restored profile: from any state but OFF
an enabled field of no takes it to OFF, from OFF one of yes to SEARCHING with a run of 0, each by a transition;
otherwise the two fields are stored and nothing else changes. R44: the notice of a restored record to the zone engine
has its place behind those of all restored records on their way, of any camera and of any restore (log 10). -/
def Obligations.CameraEvents : Prop :=
  (∀ (c : CameraId) (s : State) (d : Time), reached s.now d = true →
    ((s.cams.get c).runDeadline = some d → exec (.runDeadlineExpiry c) s = .next (s.setCam c
      { s.cams.get c with runCount := 0, runStandard := none, runDeadline := none })) ∧
    ((s.cams.get c).state = .locked → (s.cams.get c).lossDeadline = some d →
      exec (.lossDeadlineExpiry c) s = .next (cameraMoves c { s.cams.get c with
        state := .lost, stamp := s.now, lossDeadline := none, lostDeadline := some (s.now + 200), runCount := 0
        runStandard := none, runDeadline := none, qualifying := none } false s)) ∧
    ((s.cams.get c).state = .lost → (s.cams.get c).lostDeadline = some d →
      exec (.lostDeadlineExpiry c) s = .next (cameraMoves c { s.cams.get c with
        state := .searching, stamp := s.now, lostDeadline := none } false s)) ∧
    ((s.cams.get c).state = .locked → exec (.firstActiveLine c) s = .next (s.setCam c { s.cams.get c with
      qualifying := some ((List.finRange 48).filter fun z =>
        match s.zoneEngine.table.get z with
        | some zone => zone.cfg.enabled && zone.cfg.camera == c &&
            hasVisibleCells (s.cams.get c).standard zone.cfg
        | none => false) }))) ∧
  (∀ (c : CameraId) (cfg : CameraConfig) (s : State), ∃ u : (CameraNotice → CameraMessage) → State,
    ((s.cams.get c).state ≠ .off → cfg.enabled = false → ∀ m, u m = cameraMovesBy m c { s.cams.get c with
      enabled := false, parity := cfg.parity, state := .off, stamp := s.now, runCount := 0, runStandard := none
      runDeadline := none, lossDeadline := none, lostDeadline := none, qualifying := none } false s) ∧
    ((s.cams.get c).state = .off → cfg.enabled = true → ∀ m, u m = cameraMovesBy m c { s.cams.get c with
      enabled := true, parity := cfg.parity, state := .searching, stamp := s.now, runCount := 0
      runStandard := none, runDeadline := none } false s) ∧
    (((s.cams.get c).state = .off ↔ cfg.enabled = false) →
      ∀ m, u m = s.setCam c { s.cams.get c with enabled := cfg.enabled, parity := cfg.parity }) ∧
    (∀ f rest, Ready 0x10 f rest s → Unheld s → parseSetCamera f.payload = .ok (c, cfg) →
      ∃ t, exec .setCamera s = .next t ∧ Taken f rest [0x00] s (u .notice) t) ∧
    ∀ p, Handed (.camera c) p s → p.cameras.get c = cfg →
      ∃ place, (∀ d k n, .restored k n ∈ s.wires.camToZones.get d → k < place) ∧
        exec (.restoreCamera c) s = .next (partTaken (.camera c) (u (.restored place))))

/-! ### Zones (chapter 02) -/

/-- R32, R33, R41, R42: field summaries. A summary is taken entry by entry in list order, and one without entries
changes nothing. An entry for a zone that is not defined, OFF or BLIND is discarded. For a zone in LEARNING, S is added
to the learn sum and the learn count goes up by 1; at Learn the zone goes to QUIET by LEARNED with the reference floor
(sum / count), an empty history and fields in state 0 (its sum and count are left, log 23). Every other zone and every
other block is as before. -/
def Obligations.LearningField : Prop :=
  (∀ (c : CameraId) (e : ZoneId × Nat) (es : List (ZoneId × Nat)) (stamp : Time) (rest : List CameraMessage)
      (s : State), s.wires.camToZones.get c = .summary ⟨stamp, e :: es⟩ :: rest →
    let apart : List CameraMessage := .summary ⟨stamp, [e]⟩ :: .summary ⟨stamp, es⟩ :: rest
    ∃ u, exec (.fieldSummary c) (s.setWires
        { s.wires with camToZones := upd s.wires.camToZones c apart }) = .next u ∧
      exec (.fieldSummary c) s = exec (.fieldSummary c) u) ∧
  (∀ (c : CameraId) (stamp : Time) (rest : List CameraMessage) (s : State),
    s.wires.camToZones.get c = .summary ⟨stamp, []⟩ :: rest →
    exec (.fieldSummary c) s = .next (s.setWires { s.wires with camToZones := upd s.wires.camToZones c rest })) ∧
  (∀ (c : CameraId) (z : ZoneId) (S : Nat) (stamp : Time) (rest : List CameraMessage) (s : State),
    s.wires.camToZones.get c = .summary ⟨stamp, [(z, S)]⟩ :: rest →
    (∀ zone, s.zoneEngine.table.get z = some zone → zone.run.state = .off ∨ zone.run.state = .blind) →
    exec (.fieldSummary c) s = .next (s.setWires { s.wires with camToZones := upd s.wires.camToZones c rest })) ∧
  ∀ (c : CameraId) (z : ZoneId) (S : Nat) (stamp : Time) (rest : List CameraMessage) (zone : Zone) (s : State),
    s.wires.camToZones.get c = .summary ⟨stamp, [(z, S)]⟩ :: rest →
    s.zoneEngine.table.get z = some zone → zone.run.state = .learning →
    let cls := s.zoneEngine.classes.get zone.cfg.cls
    let s1 := s.setWires { s.wires with camToZones := upd s.wires.camToZones c rest }
    (cls.learn ≤ zone.run.learnCount + 1 →
      exec (.fieldSummary c) s = .next (zoneMoves z .learning ⟨zone.cfg, { zone.run with
        state := .quiet, reference := some ((zone.run.learnSum + S) / (zone.run.learnCount + 1))
        learnSum := zone.run.learnSum + S, learnCount := zone.run.learnCount + 1, history := [], lastS := some S
        fieldsInState := 0, lastCause := some .learned, stamp := stamp }⟩ .learned zone.cfg.causes.learned s1)) ∧
    (zone.run.learnCount + 1 < cls.learn →
      exec (.fieldSummary c) s = .next (s1.setZone z (some ⟨zone.cfg, { zone.run with
        learnSum := zone.run.learnSum + S, learnCount := zone.run.learnCount + 1, lastS := some S
        fieldsInState := bump zone.run.fieldsInState }⟩)))

/-- R34–R37, R41, R42: a field summary of one entry for a zone in QUIET or ACTIVE. The field is a hit when d reaches
the threshold; it enters the history; the hit count is taken over the newest W entries. QUIET goes to ACTIVE by ONSET
at K_on hits and otherwise adapts its reference by trunc ((S − R) / 2^a), not at all when a is 0. ACTIVE goes to QUIET
by CALM at K_off hits or fewer once Hold fields have been taken, else to LEARNING by STALE at a non-zero Max active,
else stays. -/
def Obligations.JudgedField : Prop :=
  ∀ (c : CameraId) (z : ZoneId) (S R : Nat) (stamp : Time) (rest : List CameraMessage) (zone : Zone) (s : State),
    s.wires.camToZones.get c = .summary ⟨stamp, [(z, S)]⟩ :: rest →
    s.zoneEngine.table.get z = some zone → zone.run.reference = some R →
    let cls := s.zoneEngine.classes.get zone.cfg.cls
    let d := changeMeasure cls R S
    let history := (decide (cls.threshold ≤ d) :: zone.run.history).take 16
    let hits := (history.take cls.window).count true
    let fields := bump zone.run.fieldsInState
    let s1 := s.setWires { s.wires with camToZones := upd s.wires.camToZones c rest }
    let judged : ZoneRun := { zone.run with
      lastS := some S, lastD := some d, history := history, fieldsInState := fields }
    let calm := hits ≤ cls.kOff ∧ cls.hold ≤ fields
    let stale := cls.maxActive ≠ 0 ∧ cls.maxActive ≤ fields
    (zone.run.state = .quiet → cls.kOn ≤ hits →
      exec (.fieldSummary c) s = .next (zoneMoves z .quiet ⟨zone.cfg, { judged with
        state := .active, fieldsInState := 0, onsetCount := bump zone.run.onsetCount, lastCause := some .onset
        stamp := stamp }⟩ .onset zone.cfg.causes.onset s1)) ∧
    (zone.run.state = .quiet → hits < cls.kOn →
      exec (.fieldSummary c) s = .next (s1.setZone z (some ⟨zone.cfg, { judged with
        reference := some (if cls.adapt = 0 then R
          else ((R : Int) + ((S : Int) - R).tdiv (2 ^ cls.adapt)).toNat) }⟩))) ∧
    (zone.run.state = .active → calm →
      exec (.fieldSummary c) s = .next (zoneMoves z .active ⟨zone.cfg, { judged with
        state := .quiet, fieldsInState := 0, lastCause := some .calm, stamp := stamp }⟩
        .calm zone.cfg.causes.calm s1)) ∧
    (zone.run.state = .active → ¬ calm → stale →
      exec (.fieldSummary c) s = .next (zoneMoves z .active ⟨zone.cfg, { judged with
        state := .learning, reference := none, learnSum := 0, learnCount := 0, history := [], lastD := none
        fieldsInState := 0, lastCause := some .stale, stamp := stamp }⟩ .stale zone.cfg.causes.stale s1)) ∧
    (zone.run.state = .active → ¬ calm → ¬ stale →
      exec (.fieldSummary c) s = .next (s1.setZone z (some ⟨zone.cfg, judged⟩)))

/-- R28–R30, R41, R42: a camera notice at the zone engine. The copy takes the notice's state and standard. When the
camera leaves LOCKED each of its zones that is not OFF or BLIND goes to BLIND; when it enters LOCKED each of its zones
in BLIND goes to LEARNING with visible cells and to BLIND without; every other zone is as before, as are the configured
fields of all and every block but the zone engine. Each of these is one zone transition sent to the rule engine, and
where the zone's report causes include LOST one ZONE report offered, zone by zone in ascending order; nothing else is
sent. R44: the notice of a restored record is taken when none of a restored record that made its transition earlier is
on its way, and not before. -/
def Obligations.NoticeAtZones : Prop :=
  (∀ (c d : CameraId) (place earlier : Nat) (n m : CameraNotice) (rest : List CameraMessage) (s : State),
    s.wires.camToZones.get c = .restored place n :: rest → .restored earlier m ∈ s.wires.camToZones.get d →
    earlier < place → exec (.cameraNoticeAtZones c) s = .next s) ∧
  ∀ (c : CameraId) (n : CameraNotice) (message : CameraMessage) (rest : List CameraMessage) (s : State),
    s.wires.camToZones.get c = message :: rest →
    (message = .notice n ∨ ∃ place, message = .restored place n ∧
      ∀ d k m, .restored k m ∈ s.wires.camToZones.get d → place ≤ k) →
    let moved := (List.finRange 48).filterMap fun z => (s.zoneEngine.table.get z).bind fun zone =>
      (noticeMoves c n zone).map fun m => (zone.cfg.causes.lost, clearedMove z zone m.1 m.2 s.now)
    ∃ t, exec (.cameraNoticeAtZones c) s = .next t ∧
      t.zoneEngine.camCopy = upd s.zoneEngine.camCopy c ⟨n.new, n.standard⟩ ∧
      t.zoneEngine.classes = s.zoneEngine.classes ∧
      t = (s.setZones t.zoneEngine).setWires t.wires ∧
      t.wires.camToZones = upd s.wires.camToZones c rest ∧
      t.wires = { s.wires with
        camToZones := t.wires.camToZones, zonesToRules := t.wires.zonesToRules, offers := t.wires.offers } ∧
      t.wires.zonesToRules = s.wires.zonesToRules ++ moved.map (fun m => .transition m.2.1) ∧
      t.wires.offers = s.wires.offers ++ (moved.filter (·.1)).map (·.2.2) ∧
      ∀ z,
        (s.zoneEngine.table.get z = none → t.zoneEngine.table.get z = none) ∧
        ∀ zone, s.zoneEngine.table.get z = some zone →
          (zone.cfg.camera ≠ c → t.zoneEngine.table.get z = some zone) ∧
          (zone.run.state = .off → t.zoneEngine.table.get z = some zone) ∧
          (zone.cfg.camera = c → n.previous = .locked → zone.run.state = .blind →
            t.zoneEngine.table.get z = some zone) ∧
          (zone.cfg.camera = c → n.previous = .locked → zone.run.state ≠ .off → zone.run.state ≠ .blind →
            t.zoneEngine.table.get z = some ⟨zone.cfg, { zone.run with
              state := .blind, reference := none, learnSum := 0, learnCount := 0, history := [], lastS := none
              lastD := none, fieldsInState := 0, lastCause := some .lost, stamp := s.now }⟩) ∧
          (zone.cfg.camera = c → n.previous ≠ .locked → n.new ≠ .locked →
            t.zoneEngine.table.get z = some zone) ∧
          (zone.cfg.camera = c → n.previous ≠ .locked → n.new = .locked → zone.run.state ≠ .blind →
            t.zoneEngine.table.get z = some zone) ∧
          (zone.cfg.camera = c → n.previous ≠ .locked → n.new = .locked → zone.run.state = .blind →
            hasVisibleCells n.standard zone.cfg = true →
            t.zoneEngine.table.get z = some ⟨zone.cfg, { zone.run with
              state := .learning, reference := none, learnSum := 0, learnCount := 0, history := []
              lastD := none, fieldsInState := 0, lastCause := some .seen, stamp := s.now }⟩) ∧
          (zone.cfg.camera = c → n.previous ≠ .locked → n.new = .locked → zone.run.state = .blind →
            hasVisibleCells n.standard zone.cfg = false →
            t.zoneEngine.table.get z = some ⟨zone.cfg, { zone.run with
              state := .blind, reference := none, learnSum := 0, learnCount := 0, history := [], lastS := none
              lastD := none, fieldsInState := 0, lastCause := some .notVisible, stamp := s.now }⟩)

/-- R21–R23, R27, R31, R180: PUT_ZONE. On an undefined id a zone that is not enabled is stored in OFF without a
transition, and an enabled one goes by ENABLED to the state that placement gives. On a defined id: disabled, it goes to
OFF by DISABLED; enabled, by ENABLED; enabled still with another camera, rectangle or component, by RESET; otherwise
the configured fields are stored and the runtime record is kept. -/
def Obligations.ZonePut : Prop :=
  ∀ (z : ZoneId) (cfg : ZoneConfig) (f : Frame) (rest : List Frame) (s : State),
    Ready 0x18 f rest s → Unheld s → parseZone f.payload = .ok (z, cfg) →
    let fresh : ZoneRun := ⟨.off, none, 0, 0, [], none, none, 0, 0, none, 0⟩
    let stored := fun run : ZoneRun => s.setZone z (some ⟨cfg, run⟩)
    let moves := fun (run : ZoneRun) (st : ZoneState) (cause : ZoneCause) (s : State) =>
      zoneMoves z run.state ⟨cfg, clearedFor run st cause s.now⟩ cause cfg.causes.lost s
    ∃ t u, exec .putZone s = .next t ∧ Taken f rest [0x00] s u t ∧
      (s.zoneEngine.table.get z = none → cfg.enabled = false → u = stored fresh) ∧
      (s.zoneEngine.table.get z = none → cfg.enabled = true → u = moves fresh (placed cfg s) .enabled s) ∧
      ∀ old, s.zoneEngine.table.get z = some old →
        let same := cfg.camera = old.cfg.camera ∧ cfg.col0 = old.cfg.col0 ∧ cfg.row0 = old.cfg.row0 ∧
          cfg.col1 = old.cfg.col1 ∧ cfg.row1 = old.cfg.row1 ∧ cfg.component = old.cfg.component
        (old.cfg.enabled = false → cfg.enabled = false → u = stored old.run) ∧
        (old.cfg.enabled = false → cfg.enabled = true → u = moves old.run (placed cfg s) .enabled s) ∧
        (old.cfg.enabled = true → cfg.enabled = false → u = moves old.run .off .disabled (zoneGone z s)) ∧
        (old.cfg.enabled = true → cfg.enabled = true → ¬ same →
          u = moves old.run (placed cfg s) .reset (zoneGone z s)) ∧
        (old.cfg.enabled = true → cfg.enabled = true → same → u = stored old.run)

/-- R24, R25, R27, R31, R180: DROP_ZONE of a zone that no rule names removes it, by a transition to OFF by DISABLED
from any other state. RELEARN_ZONE of an enabled zone is a transition by RESET to the state that placement gives, its
configured fields and onset count kept. Either is answered ABSENT for an undefined id and changes nothing. -/
def Obligations.ZoneDropRelearn : Prop :=
  (∀ (z : ZoneId) (f : Frame) (rest : List Frame) (s : State),
    parseId 48 f.payload = .ok z → s.zoneEngine.table.get z = none →
    (Ready 0x19 f rest s → Unheld s → ∃ t, exec .dropZone s = .next t ∧ Taken f rest [0x05] s s t) ∧
    (Ready 0x1A f rest s → ∃ t, exec .relearnZone s = .next t ∧ Taken f rest [0x05] s s t)) ∧
  ∀ (z : ZoneId) (zone : Zone) (f : Frame) (rest : List Frame) (s : State),
    parseId 48 f.payload = .ok z → s.zoneEngine.table.get z = some zone →
    (Ready 0x19 f rest s → Unheld s →
      (∀ r rule, s.ruleEngine.table.get r = some rule → ∀ n, ⟨.zone z, n⟩ ∉ rule.cfg.terms) →
      ∃ t u, exec .dropZone s = .next t ∧ Taken f rest [0x00] s u t ∧
        (zone.run.state = .off → u = (zoneGone z s).setZone z none) ∧
        (zone.run.state ≠ .off → u = (zoneMoves z zone.run.state
          ⟨zone.cfg, clearedFor zone.run .off .disabled s.now⟩ .disabled zone.cfg.causes.lost
          (zoneGone z s)).setZone z none)) ∧
    (Ready 0x19 f rest s → Unheld s →
      (∃ r rule n, s.ruleEngine.table.get r = some rule ∧ ⟨.zone z, n⟩ ∈ rule.cfg.terms) →
      ∃ t, exec .dropZone s = .next t ∧ Taken f rest [0x06] s s t) ∧
    (Ready 0x1A f rest s → zone.cfg.enabled = true → ∃ t, exec .relearnZone s = .next t ∧
      Taken f rest [0x00] s (zoneMoves z zone.run.state
        ⟨zone.cfg, clearedFor zone.run (placed zone.cfg s) .reset s.now⟩ .reset zone.cfg.causes.lost
        (entriesGone z s)) t) ∧
    (Ready 0x1A f rest s → zone.cfg.enabled = false →
      ∃ t, exec .relearnZone s = .next t ∧ Taken f rest [0x0A] s s t)

/-- R20, R44, R179: SET_CLASS replaces one class whole and moves no zone. The restored classes and zones replace
theirs; every restored zone is OFF if not enabled and placed by R31 if it is, with a cleared record, and the rule
engine is sent one restart notice behind what it was sent before. -/
def Obligations.ClassesAndRestoredZones : Prop :=
  (∀ (k : ClassId) (cls : SensClass) (f : Frame) (rest : List Frame) (s : State),
    Ready 0x14 f rest s → Unheld s → parseSetClass f.payload = .ok (k, cls) →
    ∃ t, exec .setClass s = .next t ∧
      Taken f rest [0x00] s (s.setZones { s.zoneEngine with classes := upd s.zoneEngine.classes k cls }) t) ∧
  ∀ (p : Profile) (s : State), Handed .zones p s →
    ∃ u, exec .restoreZones s = .next (partTaken .zones u) ∧
      u.zoneEngine.classes = p.classes ∧ u.zoneEngine.camCopy = s.zoneEngine.camCopy ∧
      (∀ z, (p.zones.get z = none → u.zoneEngine.table.get z = none) ∧
        ∀ cfg, p.zones.get z = some cfg →
          let copy := s.zoneEngine.camCopy.get cfg.camera
          u.zoneEngine.table.get z = some ⟨cfg,
            ⟨if cfg.enabled then
                (if copy.state = .locked ∧ hasVisibleCells copy.standard cfg = true then .learning else .blind)
              else .off, none, 0, 0, [], none, none, 0, 0, none, 0⟩⟩) ∧
      u.wires.zonesToRules = s.wires.zonesToRules ++ [.restart] ∧ u.wires.offers = s.wires.offers ∧
      u.ruleEngine = s.ruleEngine ∧ u.sched = s.sched ∧ u.lines = s.lines ∧ u.head = s.head

/-! ### Watch rules (chapter 03) -/

/-- R50, R52–R55, R57–R59, R61–R66: a zone transition or a line transition at the rule engine. The term copy is
updated first; then every rule with a term that moved acts in its present state, in ascending order: each takes the
outcome of section 3.9, with its runtime record and with what it sends; nothing else of the part changes. That a rule
none of whose terms moved stays as it is, is the model's reading (log 31). -/
def Obligations.RulesTakeTermEvents : Prop :=
  (∀ (t : ZoneTransition) (rest : List ZoneMessage) (s : State), s.wires.zonesToRules = .transition t :: rest →
    exec .zoneTransition s = .next (rulesMeet
      { s.ruleEngine with zoneCopy := upd s.ruleEngine.zoneCopy t.zone (zoneValue t.new) }
      (s.setWires { s.wires with zonesToRules := rest }))) ∧
  ∀ (l : LineId) (t : LineChange) (rest : List LineChange) (s : State), s.wires.linesToRules.get l = t :: rest →
    exec (.lineTransition l) s = .next (rulesMeet
      { s.ruleEngine with lineCopy := upd s.ruleEngine.lineCopy t.line t.new }
      (s.setWires { s.wires with linesToRules := upd s.wires.linesToRules l rest }))

/-- R39, R48, R49: a term is true exactly when its zone is ACTIVE, or QUIET if negated, or its line is ACTIVE, or
INACTIVE if negated, as the copies hold them; a zone that is OFF, BLIND or LEARNING makes it false either way. A rule's
condition counts its true terms by its mode; an ORDER rule's is its last term's, in FIRED and COOLDOWN only. -/
def Obligations.TermsAndConditions : Prop :=
  (∀ (e : RuleEngine) (z : ZoneId) (st : ZoneState) (negate : Bool), e.zoneCopy.get z = zoneValue st →
    (termTrue e ⟨.zone z, negate⟩ = true ↔ st = if negate then .quiet else .active)) ∧
  (∀ (e : RuleEngine) (l : LineId) (negate : Bool),
    termTrue e ⟨.line l, negate⟩ = true ↔ e.lineCopy.get l = if negate then .inactive else .active) ∧
  ∀ (e : RuleEngine) (cfg : RuleConfig) (st : RuleState),
    (cfg.mode = .any → (condition e cfg st = true ↔ ∃ t ∈ cfg.terms, termTrue e t = true)) ∧
    (cfg.mode = .all → (condition e cfg st = true ↔ ∀ t ∈ cfg.terms, termTrue e t = true)) ∧
    (∀ n, cfg.mode = .count n → (condition e cfg st = true ↔ n ≤ (cfg.terms.filter (termTrue e)).length)) ∧
    (cfg.mode = .order → (condition e cfg st = true ↔
      (st = .fired ∨ st = .cooldown) ∧ ∃ t, cfg.terms.getLast? = some t ∧ termTrue e t = true))

/-- R60, R56, R57: the expiry of a step deadline takes a rule in STEPPING to IDLE and sends nothing; the expiry of a
cooldown deadline takes a rule in COOLDOWN to IDLE with its release, of clear cause COOLDOWN_END. A deadline not yet
reached does nothing. -/
def Obligations.RuleDeadlines : Prop :=
  ∀ (r : RuleId) (rule : Rule) (d : Time) (s : State), s.ruleEngine.table.get r = some rule →
    let idle := some (⟨rule.cfg, restingRun .idle rule.run.fireCount rule.run.lastFired⟩ : Rule)
    (rule.run.state = .stepping → rule.run.stepDeadline = some d →
      exec (.stepDeadlineExpiry r) s = .next (if reached s.now d then s.setRule r idle else s)) ∧
    (rule.run.state = .cooldown → rule.run.cooldownDeadline = some d →
      exec (.cooldownDeadlineExpiry r) s = .next (if reached s.now d then
        sending (releaseSends s.ruleEngine s.now r rule.cfg rule.run.fireCount .cooldownEnd) (s.setRule r idle)
      else s))

/-- R68–R72, R181, R182: PUT_RULE, ARM_RULE and DROP_RULE. PUT_RULE checks each reference the record makes, terms and
then actions: the first that fails refuses it, ABSENT for a zone or view that is not defined, STATE for a term's line
not in INPUT mode or an action's not in OUTPUT mode. The others are answered ABSENT for an undefined id. A defined rule
is disarmed first, with its release when it is FIRED or COOLDOWN, its fire count and last-fired stamp kept; a
record whose armed field is yes is then armed; a rule that is armed already is left as it is; a dropped rule leaves
the table. -/
def Obligations.RuleCommands : Prop :=
  ∀ (r : RuleId) (f : Frame) (rest : List Frame) (s : State),
    (∀ cfg, Ready 0x20 f rest s → Unheld s → parseRule f.payload = .ok (r, cfg) →
      let failures : List Byte := cfg.terms.filterMap (fun t => match t.operand with
          | .zone z => if s.zoneEngine.table.get z = none then some 0x05 else none
          | .line l => if (s.lines.get l).mode = .input then none else some 0x0A)
        ++ cfg.actions.filterMap fun
          | .showView v _ _ _ _ => if s.sched.views.get v = none then some 0x05 else none
          | .line l _ => if (s.lines.get l).mode = .output then none else some 0x0A
          | _ => none
      (∀ status others, failures = status :: others →
        ∃ t, exec .putRule s = .next t ∧ Taken f rest [status] s s t) ∧
      (failures = [] →
      let arm := fun (fires : Nat) (last : Option Time) (s : State) =>
        if cfg.armed then armedAs r cfg fires last s else s.setRule r (some ⟨cfg, restingRun .disarmed fires last⟩)
      ∃ t u, exec .putRule s = .next t ∧ Taken f rest [0x00] s u t ∧
        (s.ruleEngine.table.get r = none → u = arm 0 none s) ∧
        ∀ old, s.ruleEngine.table.get r = some old → u = arm old.run.fireCount old.run.lastFired
          (sending (disarmSends s.ruleEngine s.now r old .replaced) s))) ∧
    (s.ruleEngine.table.get r = none →
      (∀ armed, Ready 0x22 f rest s → Unheld s → parseArmRule f.payload = .ok (r, armed) →
        ∃ t, exec .armRule s = .next t ∧ Taken f rest [0x05] s s t) ∧
      (Ready 0x21 f rest s → Unheld s → parseId 24 f.payload = .ok r →
        ∃ t, exec .dropRule s = .next t ∧ Taken f rest [0x05] s s t)) ∧
    ∀ rule, s.ruleEngine.table.get r = some rule →
      (∀ armed, Ready 0x22 f rest s → Unheld s → parseArmRule f.payload = .ok (r, armed) →
        ∃ t u, exec .armRule s = .next t ∧ Taken f rest [0x00] s u t ∧
          (armed = true → rule.cfg.armed = true → u = s) ∧
          (armed = true → rule.cfg.armed = false →
            u = armedAs r { rule.cfg with armed := true } rule.run.fireCount rule.run.lastFired s) ∧
          (armed = false → u = sending (disarmSends s.ruleEngine s.now r rule .disarmed) (s.setRule r
            (some ⟨{ rule.cfg with armed := false },
              restingRun .disarmed rule.run.fireCount rule.run.lastFired⟩)))) ∧
      (Ready 0x21 f rest s → Unheld s → parseId 24 f.payload = .ok r →
        ∃ t, exec .dropRule s = .next t ∧ Taken f rest [0x00] s
          (sending (disarmSends s.ruleEngine s.now r rule .dropped) (s.setRule r none)) t)

/-- R74: the rule engine's part of a restored profile. At the first event every rule is disarmed, a release carrying
the cause RESTORED, and the table is emptied; that the rules are disarmed, and send what they send, in the order W0 to
W23 is the model's choice (log 40). At the zone engine's restart notice every zone copy is UNKNOWN and the line copies
are kept. At the second event, taken behind that notice, the table holds the restored rules, those armed as R70 arms
them, in ascending order: an ORDER rule in IDLE, another FIRED when its condition is true. -/
def Obligations.RulesRestored : Prop :=
  (∀ (p : Profile) (s : State), Handed .rulesRemove p s → exec .restoreRulesRemove s = .next (partTaken .rulesRemove
    (sending ((List.finRange 24).foldl (fun x r => match s.ruleEngine.table.get r with
        | some rule => x.andThen (disarmSends s.ruleEngine s.now r rule .restored)
        | none => x) .nothing)
      (s.setRules { s.ruleEngine with table := Vector.replicate 24 none })))) ∧
  (∀ (rest : List ZoneMessage) (s : State), s.wires.zonesToRules = .restart :: rest →
    exec .restartNotice s = .next ((s.setWires { s.wires with zonesToRules := rest }).setRules
      { s.ruleEngine with zoneCopy := Vector.replicate 48 .unknown })) ∧
  ∀ (p : Profile) (s : State), Handed .rulesArm p s → .restart ∉ s.wires.zonesToRules →
    let fires := fun cfg : RuleConfig => cfg.armed ∧ cfg.mode ≠ .order ∧ condition s.ruleEngine cfg .idle = true
    exec .restoreRulesArm s = .next (partTaken .rulesArm
      (sending ((List.finRange 24).foldl (fun x r => match p.rules.get r with
          | some cfg => if fires cfg then x.andThen (firingSends s.ruleEngine s.now r cfg 1) else x
          | none => x) .nothing)
        (s.setRules { s.ruleEngine with table := p.rules.map (Option.map fun cfg =>
          ⟨cfg, if fires cfg then restingRun .fired 1 (some s.now)
            else restingRun (if cfg.armed then .idle else .disarmed) 0 none⟩) })))

/-! ### Views and the presentation schedule (chapter 04) -/

/-- R84: the top request is the entry of highest priority and, among those, the earliest arrival; it exists whenever
the set is not empty, and without a hold it is the request that the selection shows. The eviction candidate is the
entry of lowest priority and, among those, the earliest arrival. -/
def Obligations.TopAndCandidate : Prop :=
  (∀ rs : List Request, rs ≠ [] → ∃ q before behind, topRequest rs = some q ∧ rs = before ++ q :: behind ∧
    (∀ x ∈ before, x.priority < q.priority) ∧ ∀ x ∈ behind, x.priority ≤ q.priority) ∧
  (∀ rs : List Request, rs ≠ [] → ∃ q before behind, evictionCandidate rs = some q ∧ rs = before ++ q :: behind ∧
    (∀ x ∈ before, q.priority < x.priority) ∧ ∀ x ∈ behind, q.priority ≤ x.priority) ∧
  ∀ (sc : Scheduler) (q : Request), sc.hold = none → topRequest sc.requests = some q → sourceChoice sc = .request q

/-- R79, R80: the search from k yields a showable entry, with none showable before it among k, k + 1, … up to the
last, then 0, 1, …, k − 1; it yields nothing exactly when no entry is showable. An entry is showable when its dwell
is above 0 and a tile of its view names a camera that is LOCKED in the scheduler's copy. -/
def Obligations.SearchFindsFirst : Prop :=
  ∀ (sc : Scheduler) (k : Nat), k < sc.rotation.length →
    let showable := fun i => ∃ (e : RotationEntry) (cfg : ViewConfig) (c : CameraId), sc.rotation[i]? = some e ∧
      0 < e.dwell ∧ sc.views.get e.view = some cfg ∧ some c ∈ cfg.tiles ∧ sc.camCopy.get c = .locked
    (search sc k = none ↔ ∀ i, ¬ showable i) ∧
    ∀ j, search sc k = some j → showable j ∧
      ∀ i < sc.rotation.length, showable i →
        (j + sc.rotation.length - k) % sc.rotation.length ≤ (i + sc.rotation.length - k) % sc.rotation.length

/-- R88, R89: RELEASE clears the hold and the scheduler chooses the source by the table of R89; without a hold it
changes nothing. HOLD of a defined view holds it at once: a shown request keeps its remaining dwell, the rotation
index is remembered, any deferral is discarded; the view that is held already is left as it is. HOLD of an undefined
view is answered ABSENT. -/
def Obligations.HoldAndRelease : Prop :=
  ∀ (f : Frame) (rest : List Frame) (s : State),
    (Ready 0x2F f rest s → f.payload = [] → ∃ t u, exec .release s = .next t ∧ Taken f rest [0x00] s u t ∧
      (s.sched.hold = none → u = s) ∧
      ∀ v, s.sched.hold = some v → Chosen (s.setSched { s.sched with hold := none }) u) ∧
    (∀ v, Ready 0x2E f rest s → parseId 12 f.payload = .ok v → s.sched.views.get v = none →
      ∃ t, exec .hold s = .next t ∧ Taken f rest [0x05] s s t) ∧
    ∀ v, Ready 0x2E f rest s → parseId 12 f.payload = .ok v → (s.sched.views.get v).isSome →
      ∃ t u, exec .hold s = .next t ∧ Taken f rest [0x00] s u t ∧
        (s.sched.source.state = .hold → s.sched.hold = some v → u = s) ∧
        (s.sched.source.state ≠ .hold ∨ s.sched.hold ≠ some v →
          u = newSource ⟨.hold, s.sched.source.index, none, s.now, none, none⟩
            (s.sched.requests.map (paused s.now)) (.hold v) (s.setSched { s.sched with hold := some v }))

/-- R85, R93, R101: a view request at the scheduler, of a rule or by SHOW_VIEW. One of the same origin is replaced;
else it enters a set of fewer than 8; else it enters for the eviction candidate when that has a lower priority; else
it is refused, its REQUEST report of outcome REFUSED_FULL is offered, and SHOW_VIEW is answered FULL. The entry takes
its dwell and lifetime from the request. When the entry that left was on screen the scheduler chooses at once;
otherwise the screen is judged by R93. A rule's request for a view that is not defined ends RESTORED; SHOW_VIEW of one
is answered ABSENT and changes nothing. -/
def Obligations.RequestEnters : Prop :=
  ∀ (q : ViewRequest) (s : State),
    let new : Request := ⟨q.origin, q.view, q.priority, q.dwell * 100, none, later s.now (q.lifetime * 100), s.now⟩
    let full := 8 ≤ s.sched.requests.length
    ∃ u,
      ((s.sched.views.get q.view).isNone → u = s.offer (requestTold s.now new .restored new.remaining)) ∧
      ((s.sched.views.get q.view).isSome →
        (∀ old, requestOf q.origin s.sched.requests = some old → (
          let s1 := requestEntered new (requestEnded old .replaced (owedDwell s.now old) s)
          (shownNow old s → u = chooseSource s1) ∧ (¬ shownNow old s → EntryJudged new s1 u))) ∧
        (requestOf q.origin s.sched.requests = none → ¬ full → EntryJudged new (requestEntered new s) u) ∧
        ∀ old, requestOf q.origin s.sched.requests = none → full →
          evictionCandidate s.sched.requests = some old →
          (old.priority < q.priority → (
            let s1 := requestEntered new (requestEnded old .evicted (owedDwell s.now old) s)
            (shownNow old s → u = chooseSource s1) ∧ (¬ shownNow old s → EntryJudged new s1 u))) ∧
          (q.priority ≤ old.priority → u = s.offer (requestTold s.now new .refusedFull new.remaining))) ∧
      (∀ rest s0, s0.wires.requests = q :: rest → s = s0.setWires { s0.wires with requests := rest } →
        exec .viewRequest s0 = .next u) ∧
      (∀ f rest, Ready 0x2C f rest s → parseShow f.payload = .ok q → s.sched.views.get q.view = none →
        ∃ t, exec .showView s = .next t ∧ Taken f rest [0x05] s s t) ∧
      ∀ f rest, Ready 0x2C f rest s → parseShow f.payload = .ok q → (s.sched.views.get q.view).isSome →
        ∃ t, exec .showView s = .next t ∧ Taken f rest
          [if full ∧ requestOf q.origin s.sched.requests = none ∧
              (∀ old, evictionCandidate s.sched.requests = some old → q.priority ≤ old.priority)
            then 0x07 else 0x00] s u t

/-- R86, R87, R90, R101: the ends of a request: DONE at the expiry of its dwell deadline while it is shown, EXPIRED
at the expiry of its lifetime, WITHDRAWN at a withdrawal of its origin, a rule's or the host's. It leaves the set,
its REQUEST report is offered, and the scheduler chooses at once if it was on screen. A withdrawal of an origin without
a request, of an empty set as well, changes nothing; WITHDRAW is then answered ABSENT. -/
def Obligations.RequestEnds : Prop :=
  (∀ (q : Request) (s : State), requestOf q.origin s.sched.requests = some q →
    let finish := fun (outcome : RequestOutcome) (remaining : Nat) (s : State) =>
      if s.sched.source.state = .request ∧ s.sched.source.shown = some q.origin then
        chooseSource (requestEnded q outcome remaining s)
      else requestEnded q outcome remaining s
    (∀ d, shownNow q s → q.dwellDeadline = some d → reached s.now d = true →
      exec .dwellDeadlineExpiry s = .next (finish .done 0 s)) ∧
    (reached s.now q.lifetime = true →
      exec (.lifetimeDeadlineExpiry q.origin) s = .next (finish .expired (owedDwell s.now q) s)) ∧
    (∀ rest s0, s0.wires.withdrawals = q.origin :: rest → s = s0.setWires { s0.wires with withdrawals := rest } →
      exec .withdrawal s0 = .next (finish .withdrawn (owedDwell s.now q) s)) ∧
    (∀ f rest, q.origin = .host → Ready 0x2D f rest s → f.payload = [] →
      ∃ t, exec .withdraw s = .next t ∧ Taken f rest [0x00] s (finish .withdrawn (owedDwell s.now q) s) t)) ∧
  (∀ (o : Origin) (rest : List Origin) (s : State), requestOf o s.sched.requests = none →
    s.wires.withdrawals = o :: rest → exec .withdrawal s = .next (s.setWires { s.wires with withdrawals := rest })) ∧
  ∀ (f : Frame) (rest : List Frame) (s : State), requestOf .host s.sched.requests = none → Ready 0x2D f rest s →
    f.payload = [] → ∃ t, exec .withdraw s = .next t ∧ Taken f rest [0x05] s s t

/-- R91, R92, R94, R95: the rotation deadline and the notice that makes the shown entry unshowable advance the
rotation: the index goes to the following position, 0 past the last, and the source is chosen. The deferral deadline
discards the deferral and the source is chosen again, in ROTATING when a request waits. In BLANK a notice of LOCKED
makes the scheduler choose. -/
def Obligations.RotationAndDeferral : Prop :=
  ∀ s : State,
    let onward := fun s : State => chooseSource (s.setSched { s.sched with source := { s.sched.source with
      index := if s.sched.source.index + 1 < s.sched.rotation.length then s.sched.source.index + 1 else 0 } })
    let undeferred := s.setSched { s.sched with source := { s.sched.source with deferral := none } }
    (∀ d, s.sched.source.state = .rotating → s.sched.source.rotationDeadline = some d → reached s.now d = true →
      exec .rotationDeadlineExpiry s = .next (onward s)) ∧
    (∀ d, s.sched.source.deferral = some d → reached s.now d = true →
      (s.sched.source.state = .request → exec .deferralDeadlineExpiry s = .next (chooseSource undeferred)) ∧
      (s.sched.source.state = .rotating → s.sched.requests ≠ [] →
        exec .deferralDeadlineExpiry s = .next (chooseSource undeferred)) ∧
      (s.sched.source.state = .rotating → s.sched.requests = [] →
        exec .deferralDeadlineExpiry s = .next undeferred)) ∧
    ∀ (c : CameraId) (n : CameraNotice) (rest : List CameraNotice), s.wires.camToSched.get c = n :: rest →
      let s1 := (s.setWires { s.wires with camToSched := upd s.wires.camToSched c rest }).setSched
        { s.sched with camCopy := upd s.sched.camCopy c n.new }
      (s.sched.source.state = .rotating → positionShowable s1.sched s1.sched.source.index = true →
        exec (.cameraNoticeAtScheduler c) s = .next s1) ∧
      (s.sched.source.state = .rotating → positionShowable s1.sched s1.sched.source.index = false →
        exec (.cameraNoticeAtScheduler c) s = .next (onward s1)) ∧
      (s.sched.source.state = .blank → n.new = .locked →
        exec (.cameraNoticeAtScheduler c) s = .next (chooseSource s1)) ∧
      (s.sched.source.state = .blank → n.new ≠ .locked → exec (.cameraNoticeAtScheduler c) s = .next s1) ∧
      (s.sched.source.state = .request ∨ s.sched.source.state = .hold →
        exec (.cameraNoticeAtScheduler c) s = .next s1)

/-- R77, R78, R81, R82, R96, R183: the view commands. PUT_VIEW stores the view, and the scheduler advances from an
entry that is no longer showable and chooses again from BLANK. DROP_VIEW removes a view that nothing refers to; it is
refused IN_USE for one in the rotation list, a SHOW action, the request set or the hold, and ABSENT for an undefined
one. SET_ROTATION, refused ABSENT when it names an undefined view, replaces the list, sets the index to 0 and, in
ROTATING and BLANK, chooses. SET_MINSHOW stores the setting; a pending deferral takes it, and elapses at once when its
time has come. -/
def Obligations.ViewCommands : Prop :=
  ∀ (f : Frame) (rest : List Frame) (s : State), Unheld s →
    (∀ v cfg, Ready 0x28 f rest s → parseView f.payload = .ok (v, cfg) →
      let s1 := s.setSched { s.sched with views := upd s.sched.views v (some cfg) }
      ∃ t u, exec .putView s = .next t ∧ Taken f rest [0x00] s u t ∧
        (s.sched.source.state = .rotating → positionShowable s1.sched s.sched.source.index = true → u = s1) ∧
        (s.sched.source.state = .rotating → positionShowable s1.sched s.sched.source.index = false →
          u = chooseSource (s1.setSched { s1.sched with source := { s1.sched.source with
            index := if s.sched.source.index + 1 < s.sched.rotation.length then s.sched.source.index + 1
              else 0 } })) ∧
        (s.sched.source.state = .blank → u = chooseSource s1) ∧
        (s.sched.source.state = .request ∨ s.sched.source.state = .hold → u = s1)) ∧
    (∀ v, Ready 0x29 f rest s → parseId 12 f.payload = .ok v → (s.sched.views.get v).isSome →
      (∀ e ∈ s.sched.rotation, e.view ≠ v) → (∀ q ∈ s.sched.requests, q.view ≠ v) → s.sched.hold ≠ some v →
      (∀ r rule, s.ruleEngine.table.get r = some rule → ∀ p d l w, .showView v p d l w ∉ rule.cfg.actions) →
      ∃ t, exec .dropView s = .next t ∧
        Taken f rest [0x00] s (s.setSched { s.sched with views := upd s.sched.views v none }) t) ∧
    (∀ v, Ready 0x29 f rest s → parseId 12 f.payload = .ok v →
      (s.sched.views.get v = none → ∃ t, exec .dropView s = .next t ∧ Taken f rest [0x05] s s t) ∧
      ((s.sched.views.get v).isSome →
        (∃ e ∈ s.sched.rotation, e.view = v) ∨ (∃ q ∈ s.sched.requests, q.view = v) ∨ s.sched.hold = some v ∨
          (∃ r rule, s.ruleEngine.table.get r = some rule ∧ ∃ p d l w, .showView v p d l w ∈ rule.cfg.actions) →
        ∃ t, exec .dropView s = .next t ∧ Taken f rest [0x06] s s t)) ∧
    (∀ es, Ready 0x2A f rest s → parseRotation f.payload = .ok es → (∃ e ∈ es, s.sched.views.get e.view = none) →
      ∃ t, exec .setRotation s = .next t ∧ Taken f rest [0x05] s s t) ∧
    (∀ es, Ready 0x2A f rest s → parseRotation f.payload = .ok es →
      (∀ e ∈ es, (s.sched.views.get e.view).isSome) →
      let s1 := s.setSched { s.sched with rotation := es, source := { s.sched.source with index := 0 } }
      ∃ t u, exec .setRotation s = .next t ∧ Taken f rest [0x00] s u t ∧
        (s.sched.source.state = .rotating ∨ s.sched.source.state = .blank → u = chooseSource s1) ∧
        (s.sched.source.state = .request ∨ s.sched.source.state = .hold → u = s1)) ∧
    ∀ m, Ready 0x2B f rest s → parseMinShow f.payload = .ok m →
      let at_ := later s.sched.source.start (m * 10)
      let s1 := s.setSched { s.sched with minShow := m }
      let under := fun d : Option Time => s1.setSched { s1.sched with source := { s1.sched.source with deferral := d } }
      ∃ t u, exec .setMinshow s = .next t ∧ Taken f rest [0x00] s u t ∧
        (s.sched.source.deferral = none → u = s1) ∧
        ∀ d, s.sched.source.deferral = some d →
          (reached s.now at_ = false → u = under (some at_)) ∧
          (reached s.now at_ = true → s.sched.source.state = .request → u = chooseSource (under none)) ∧
          (reached s.now at_ = true → s.sched.source.state = .rotating →
            u = if s.sched.requests = [] then under none else chooseSource (under none))

/-- R102: the restored schedule. Every request ends RESTORED in arrival order with its report; the hold is cleared;
views, rotation and minimum show are the restored ones; and the source is the entry that the search from 0 yields, or
BLANK, which sends no presentation when the source was BLANK. -/
def Obligations.ScheduleRestored : Prop :=
  ∀ (p : Profile) (s : State), Handed .schedule p s →
    ∃ u, exec .restoreSchedule s = .next (partTaken .schedule u) ∧
      u.sched.views = p.views ∧ u.sched.rotation = p.rotation ∧ u.sched.minShow = p.minShow ∧
      u.sched.camCopy = s.sched.camCopy ∧ u.sched.requests = [] ∧ u.sched.hold = none ∧
      u = (s.setSched u.sched).setWires
        { s.wires with offers := u.wires.offers, presentations := u.wires.presentations } ∧
      u.wires.offers = s.wires.offers ++
        s.sched.requests.map (fun q => requestTold s.now q .restored (owedDwell s.now q)) ∧
      (∀ k e, search { s.sched with views := p.views, rotation := p.rotation } 0 = some k →
        p.rotation[k]? = some e →
        u.sched.source = ⟨.rotating, k, none, s.now, some (later s.now (e.dwell * 100)), none⟩ ∧
        u.wires.presentations = s.wires.presentations ++ [.rotating e.view k]) ∧
      (search { s.sched with views := p.views, rotation := p.rotation } 0 = none →
        (s.sched.source.state = .blank → u.sched.source = { s.sched.source with index := 0, deferral := none } ∧
          u.wires.presentations = s.wires.presentations) ∧
        (s.sched.source.state ≠ .blank → u.sched.source = ⟨.blank, 0, none, s.now, none, none⟩ ∧
          u.wires.presentations = s.wires.presentations ++ [.blank]))

/-- R18, R97–R100: a presentation that arrives becomes the pending one in place of any other. At an output frame
start a pending presentation is applied with one SCREEN report; the frame is then composed from the applied one:
black for BLANK, otherwise the view's record as it stands, a tile of a camera that is not LOCKED showing the
no-signal pattern, another tile what the camera's frame store keeps (log 41), without drawing it (log 13). -/
def Obligations.FramesComposed : Prop :=
  (∀ (p : Presentation) (rest : List Presentation) (s : State), s.wires.presentations = p :: rest →
    exec .presentation s = .next ((s.setWires { s.wires with presentations := rest }).setComp
      { s.comp with pending := some p })) ∧
  ∀ s : State,
    let applied := s.comp.pending.getD s.comp.applied
    let s1 := match s.comp.pending with
      | none => s
      | some p => s.offer ⟨s.now, 0, (match viewOf p with | some v => v.val | none => 255),
          match p with
          | .blank => .screen .blank none none (viewOf s.comp.applied)
          | .rotating _ k => .screen .rotating (some k) none (viewOf s.comp.applied)
          | .request _ o => .screen .request none (some o) (viewOf s.comp.applied)
          | .hold _ => .screen .hold none none (viewOf s.comp.applied)⟩
    (applied = .blank → exec .outputFrameStart s = .next (s1.setComp ⟨applied, none, .blank⟩)) ∧
    ∀ v cfg, viewOf applied = some v → s.sched.views.get v = some cfg →
      exec .outputFrameStart s = .next (s1.setComp ⟨applied, none, .tiles cfg.layout
        (cfg.tiles.map fun
          | none => .black
          | some c =>
              if (s.cams.get c).state ≠ .locked then .noSignal c
              else .picture c ((s.cams.get c).standard != some s.outputStandard) (s.cams.get c).storeOdd
                (s.cams.get c).storeEven) cfg.title⟩)

/-! ### Activity reports (chapter 05) -/

/-- R107, R109–R113: an offer that is taken. One that fails the filter has no existence for the queue. One that
passes enters a queue of fewer than 32 records under the next sequence, which goes from 65535 to 1. In a full queue
the UNSENT record of lowest priority, the oldest of those, yields to it when its priority is lower; either way the
dropped total goes up by 1, to 65535 at most. Then the transmitter chooses, if it is free. -/
def Obligations.ReportEnters : Prop :=
  ∀ (k : ReportKind) (r : Report) (before behind : List Report) (s : State),
    s.wires.offers = before ++ r :: behind → reportKind r = k →
    (∀ x ∈ before, reportKind x ≠ k ∧ mustPrecede x r = false) →
    let entry := s.reports.filter.get (kindIndex k)
    let passes := entry.enable = true ∧ entry.minPriority ≤ r.priority
    let entered : Record := ⟨s.reports.nextSeq, r, .unsent⟩
    let next := if s.reports.nextSeq = 65535 then 1 else s.reports.nextSeq + 1
    let dropped := min 65535 (s.reports.dropped + 1)
    ∃ q, exec (.reportOffer k) s =
        .next ((s.setWires { s.wires with offers := before ++ behind }).setReports q).kick ∧
      (¬ passes → q = s.reports) ∧
      (passes → s.reports.records.length < 32 →
        q = { s.reports with records := s.reports.records ++ [entered], nextSeq := next }) ∧
      ∀ victim older newer, passes → 32 ≤ s.reports.records.length → s.reports.dropped ≤ 65535 →
        s.reports.records = older ++ victim :: newer → (s.reports.records.map (·.seq)).Nodup →
        victim.mark = .unsent →
        (∀ x ∈ older, x.mark = .unsent → victim.report.priority < x.report.priority) →
        (∀ x ∈ newer, x.mark = .unsent → victim.report.priority ≤ x.report.priority) →
        (victim.report.priority < r.priority → q = { s.reports with
          records := older ++ newer ++ [entered], nextSeq := next, dropped := dropped }) ∧
        (r.priority ≤ victim.report.priority → q = { s.reports with dropped := dropped })

/-- R119, R122, R165: the transmitter's choice. When it is free it takes the oldest frame of the immediate queue, else
the oldest UNSENT reply, else the frame due: the oldest record of a round, which leaves the round, or the oldest
UNSENT record while fewer than the window are SENDING or PUSHED, which is marked SENDING. Otherwise it starts nothing.
That no frame is due from a stall until the session is closed or opened again is the model's reading of R122 (log 11).
-/
def Obligations.TransmitterChooses : Prop :=
  ∀ s : State,
    let start := fun (bytes : List Byte) (source : TxSource) (l : HostLink) =>
      { l with tx := some ⟨bytes, source, s.link.rate⟩ }
    let due := s.reports.delivery.session = .opened ∧ s.reports.delivery.mode = .push ∧ s.wires.stall = false
    let told := fun r : Record => reportFrame s.reports.dropped r
    (s.link.tx.isSome → s.kick = s) ∧
    (s.link.tx = none → ∀ f fs, s.link.immediate = f :: fs →
      s.kick = s.setLink (start (immediateBytes f) .immediate { s.link with immediate := fs })) ∧
    (s.link.tx = none → s.link.immediate = [] → ∀ pre e post, s.link.cache = pre ++ e :: post → e.mark = .unsent →
      (∀ x ∈ pre, x.mark ≠ .unsent) →
      s.kick = s.setLink (start e.frame .reply
        { s.link with cache := pre ++ { e with mark := .sending } :: post })) ∧
    (s.link.tx = none → s.link.immediate = [] → (∀ e ∈ s.link.cache, e.mark ≠ .unsent) →
      (¬ due → s.kick = s) ∧
      (∀ n ns pre r post, due → s.reports.delivery.round = some (n :: ns) → s.reports.records = pre ++ r :: post →
        r.seq = n → (∀ x ∈ pre, x.seq ≠ n) →
        s.kick = (s.setReports { s.reports with delivery := { s.reports.delivery with round := some ns } }).setLink
          (start (told r) (.report n true) s.link)) ∧
      (due → s.reports.delivery.round = some [] → s.kick = s) ∧
      (∀ pre r post, due → s.reports.delivery.round = none →
        (s.reports.records.filter fun x => x.mark != .unsent).length < s.reports.delivery.window →
        s.reports.records = pre ++ r :: post → r.mark = .unsent →
        (∀ x ∈ pre, x.mark ≠ .unsent ∧ x.seq ≠ r.seq) →
        s.kick = (s.setReports { s.reports with records := pre ++ { r with mark := .sending } :: post }).setLink
          (start (told r) (.report r.seq false) s.link)) ∧
      (due → s.reports.delivery.round = none →
        s.reports.delivery.window ≤ (s.reports.records.filter fun x => x.mark != .unsent).length ∨
          (∀ r ∈ s.reports.records, r.mark ≠ .unsent) → s.kick = s))

/-- R108, R138, R153, R184, R186: SET_FILTER and SET_HEADLINK, and the restored filter and head link settings,
replace theirs whole and change nothing else. -/
def Obligations.FilterAndHeadSettings : Prop :=
  (∀ (x : Filter) (f : Frame) (rest : List Frame) (s : State), Ready 0x38 f rest s → Unheld s →
    parseFilter f.payload = .ok x →
    ∃ t, exec .setFilter s = .next t ∧ Taken f rest [0x00] s (s.setReports { s.reports with filter := x }) t) ∧
  (∀ (x : HeadSettings) (f : Frame) (rest : List Frame) (s : State), Ready 0x48 f rest s → Unheld s →
    parseHeadlink f.payload = .ok x →
    ∃ t, exec .setHeadlink s = .next t ∧ Taken f rest [0x00] s (s.setHead { s.head with settings := x }) t) ∧
  ∀ (p : Profile) (s : State),
    (Handed .filter p s → exec .restoreFilter s =
      .next (partTaken .filter (s.setReports { s.reports with filter := p.filter }))) ∧
    (Handed .headLink p s → exec .restoreHeadlink s =
      .next (partTaken .headLink (s.setHead { s.head with settings := p.head })))

/-- R123, R124, R184: an ACK of a sequence removes its record and every older one, answers with the number removed,
the number left and the dropped total, sets the retry count to 0, takes the removed records out of a round, which ends
when that leaves it empty, and sets the retransmit deadline afresh when a record remains PUSHED and no round is in
progress. A round whose last resend has left it for the line ends when the ACK removes that record, and goes on to the
end of the resend otherwise, which is the model's reading (log 36). An ACK of a sequence that names no record is
answered ABSENT with the fill and the dropped total, and changes nothing. -/
def Obligations.AckRemoves : Prop :=
  ∀ (seq : Nat) (f : Frame) (rest : List Frame) (s : State), Ready 0x3A f rest s → parseWord f.payload = .ok seq →
    ((∀ r ∈ s.reports.records, r.seq ≠ seq) → ∃ t, exec .ack s = .next t ∧
      Taken f rest (0x05 :: byte s.reports.records.length :: be16 s.reports.dropped) s s t) ∧
    ∀ older r left, s.reports.records = older ++ r :: left → r.seq = seq → (∀ x ∈ older, x.seq ≠ seq) →
      let kept := fun n => left.any fun x => x.seq == n
      let onLine := match s.link.tx with
        | some ⟨_, .report n true, _⟩ => kept n
        | _ => false
      let round := match s.reports.delivery.round with
        | none => none
        | some [] => if onLine = true then some [] else none
        | some (n :: ns) => if (n :: ns).filter kept = [] then none else some ((n :: ns).filter kept)
      let pushed := left.any fun x => x.mark == .pushed
      let q := { s.reports with
        records := left
        delivery := { s.reports.delivery with
          retry := 0, round := round
          deadline := if pushed = false then none
            else if round = none then some (later s.now s.reports.delivery.retransmit)
            else s.reports.delivery.deadline } }
      ∃ t, exec .ack s = .next t ∧
        Taken f rest (0x00 :: byte (older.length + 1) :: byte left.length :: be16 s.reports.dropped) s
          (s.setReports q) t ∧
        (s.link.tx.isSome → t.reports = q)

/-- R121, R122, R171: while a round is in progress no retransmit deadline expires: one that a first send's completion
has set is held until the round's end (log 18). The expiry of the retransmit deadline discards it and adds 1 to the
retry count; below 8 a round begins of the sequences of every PUSHED record, oldest first; at 8 the queue declares a
stall, at whose notice the host link controller closes the session and offers the SESSION report of reason
PUSH_STALLED. -/
def Obligations.RetransmitAndStall : Prop :=
  ∀ s : State,
    (∀ ns, s.reports.delivery.round = some ns → exec .retransmitDeadlineExpiry s = .next s) ∧
    (∀ d, s.reports.delivery.round = none → s.reports.delivery.deadline = some d → reached s.now d = true →
      (s.reports.delivery.retry + 1 < 8 → exec .retransmitDeadlineExpiry s =
        .next (s.setReports { s.reports with delivery := { s.reports.delivery with
          deadline := none, retry := s.reports.delivery.retry + 1
          round := some (s.reports.records.filterMap fun r => if r.mark = .pushed then some r.seq else none) } }).kick) ∧
      (s.reports.delivery.retry = 7 → exec .retransmitDeadlineExpiry s =
        .next ((s.setReports { s.reports with delivery := { s.reports.delivery with
          deadline := none, retry := 8 } }).setWires { s.wires with stall := true }))) ∧
    (∀ d, s.reports.delivery.deadline = some d → reached s.now d = false →
      exec .retransmitDeadlineExpiry s = .next s) ∧
    (s.wires.stall = true → exec .pushStallNotice s = .next (sessionLost .pushStalled s))

/-! ### Contact lines (chapter 06) -/

/-- R129, R131: a level change at a pin, and the expiry of a debounce deadline. A level that leaves that of the
accepted state begins a pending change, accepted at once with debounce 0; one that returns to it discards the pending
change. At its deadline the change is accepted, at the time of the deadline, with one line transition and one CONTACT
report. A line that is not an INPUT takes no level. -/
def Obligations.PinDebounced : Prop :=
  ∀ (l : LineId) (s : State),
    let line := s.lines.get l
    let level := match s.extPins.get l with | .low => Level.high | .high => Level.low
    let other := match line.accepted with | .inactive => LineState.active | .active => LineState.inactive
    let s1 := s.setExtPins (upd s.extPins l level)
    let accept := fun (stamp : Time) (s : State) => lineTold ⟨l, line.accepted, other, stamp⟩
      (s.setLine l { line with accepted := other, pendingChange := none })
    let reverts := (level = line.activeLevel ↔ line.accepted = .active)
    (line.mode ≠ .input → exec (.pinLevelChange l) s = .next s1) ∧
    (line.mode = .input →
      (reverts → exec (.pinLevelChange l) s = .next (s1.setLine l { line with pendingChange := none })) ∧
      (¬ reverts → line.pendingChange = none → line.debounce = 0 →
        exec (.pinLevelChange l) s = .next (accept s.now s1)) ∧
      (¬ reverts → line.pendingChange = none → line.debounce ≠ 0 → exec (.pinLevelChange l) s =
        .next (s1.setLine l { line with pendingChange := some (later s.now line.debounce) }))) ∧
    ∀ d, line.pendingChange = some d →
      exec (.debounceDeadlineExpiry l) s = .next (if reached s.now d = true then accept d s else s)

/-- R132–R134: latch claims and drops, pulse claims and their expiry, and the host drive. A claim on an OUTPUT line is
recorded and the line is asserted exactly when its drive is ON, or AUTO with a claimant or a pulse that lies in the
future (judged at these events, log 30); a pulse is only ever lengthened, and the time of a claim from which its
deadline is counted is taken to be that of its taking (DEDUCED, log 19); a claim on a line that is not an OUTPUT
changes nothing. -/
def Obligations.OutputsAsserted : Prop :=
  ∀ (l : LineId) (s : State),
    let line := s.lines.get l
    (∀ r rest, s.wires.claims = .latch r l :: rest →
      let s1 := s.setWires { s.wires with claims := rest }
      (line.mode ≠ .output → exec .latchClaim s = .next s1) ∧
      (line.mode = .output → ∃ x, exec .latchClaim s = .next (s1.setLine l x) ∧ Asserts s.now x ∧
        x = { line with claimants := upd line.claimants r true, asserted := x.asserted })) ∧
    (∀ r rest, s.wires.claims = .drop r l :: rest →
      let s1 := s.setWires { s.wires with claims := rest }
      (line.mode ≠ .output → exec .latchDrop s = .next s1) ∧
      (line.mode = .output → ∃ x, exec .latchDrop s = .next (s1.setLine l x) ∧ Asserts s.now x ∧
        x = { line with claimants := upd line.claimants r false, asserted := x.asserted })) ∧
    (∀ n rest, s.wires.claims = .pulse l n :: rest →
      let s1 := s.setWires { s.wires with claims := rest }
      (line.mode ≠ .output → exec .pulseClaim s = .next s1) ∧
      (line.mode = .output → ∃ x, exec .pulseClaim s = .next (s1.setLine l x) ∧ Asserts s.now x ∧
        x = { line with asserted := x.asserted, pulse := match line.pulse with
          | none => some (later s.now n)
          | some d => if after (later s.now n) d = true then some (later s.now n) else some d })) ∧
    (∀ d, line.mode = .output → line.pulse = some d → reached s.now d = true →
      ∃ x, exec (.pulseDeadlineExpiry l) s = .next (s.setLine l x) ∧ Asserts s.now x ∧
        x = { line with pulse := none, asserted := x.asserted }) ∧
    ∀ drive f rest, Ready 0x41 f rest s → parseDriveLine f.payload = .ok (l, drive) →
      ∃ t x, exec .driveLine s = .next t ∧ Taken f rest [0x00] s (s.setLine l x) t ∧
        x = { line with drive := drive, asserted := x.asserted } ∧ (line.mode = .output → Asserts s.now x) ∧
        (line.mode ≠ .output → x.asserted = line.asserted)

/-- R127, R128, R130, R131, R135, R185: SET_LINE, with no reference of a rule against the new mode, and the restored
lines act by the table of R128, the restored ones each in turn; their order, L1 to L8, is the model's choice (log 38).
SET_LINE against such a reference is refused IN_USE and changes nothing. -/
def Obligations.LinesWritten : Prop :=
  (∀ (l : LineId) (cfg : LineConfig) (f : Frame) (rest : List Frame) (s : State),
    Ready 0x40 f rest s → Unheld s → parseSetLine f.payload = .ok (l, cfg) →
    (∀ r rule, s.ruleEngine.table.get r = some rule →
      (cfg.mode ≠ .input → ∀ t ∈ rule.cfg.terms, t.operand ≠ .line l) ∧
      (cfg.mode ≠ .output → ∀ form, .line l form ∉ rule.cfg.actions)) →
    ∃ t, exec .setLine s = .next t ∧ Taken f rest [0x00] s (lineWrites l cfg s) t) ∧
  (∀ (l : LineId) (cfg : LineConfig) (r : RuleId) (rule : Rule) (f : Frame) (rest : List Frame) (s : State),
    Ready 0x40 f rest s → Unheld s → parseSetLine f.payload = .ok (l, cfg) → s.ruleEngine.table.get r = some rule →
    (cfg.mode ≠ .input ∧ ∃ t ∈ rule.cfg.terms, t.operand = .line l) ∨
      (cfg.mode ≠ .output ∧ ∃ form, .line l form ∈ rule.cfg.actions) →
    ∃ t, exec .setLine s = .next t ∧ Taken f rest [0x06] s s t) ∧
  ∀ (p : Profile) (s : State), Handed .lines p s →
    exec .restoreLines s = .next (partTaken .lines
      ((List.finRange 8).foldl (fun s l => lineWrites l (p.lines.get l) s) s))

/-! ### Camera head link (chapter 07) -/

/-- R140–R143, R151, R186: RELAY and a rule's recall. A transaction enters a queue of fewer than 8 under the first free
tid, and from IDLE the link takes it at once; RELAY answers ACCEPTED with the tid, and FULL at 8. A rule's recall to
the head of a queued rule recall takes that one's place, which ends SUPERSEDED; at 8 it ends QUEUE_FULL. -/
def Obligations.TransactionEnters : Prop :=
  (∀ (head : HeadAddr) (op : HeadOp) (f : Frame) (rest : List Frame) (s : State), RelayLaw s →
    Ready 0x49 f rest s → parseRelay f.payload = .ok (head, op) →
    (s.head.queue.length < 8 → ∃ t tid, exec .relay s = .next t ∧ TidTaken s.head.queue s.head.nextTid tid ∧
      Taken f rest [0x01, tid] s
        (s.setHead (transactionIn ⟨tid, .host, head, op, 0, none, false, none⟩ s.head)) t) ∧
    (s.head.queue.length = 8 → ∃ t, exec .relay s = .next t ∧ Taken f rest [0x07] s s t)) ∧
  ∀ (r : Recall) (rest : List Recall) (s : State), RelayLaw s → s.wires.recalls = r :: rest →
    let s1 := s.setWires { s.wires with recalls := rest }
    let replaces := fun t : Transaction => t.head = r.head ∧ (∃ w, t.origin = .rule w) ∧ ∃ p, t.op = .recall p
    let new := fun tid : Byte => (⟨tid, .rule r.rule, r.head, .recall r.preset, 0, none, false, none⟩ : Transaction)
    ((∀ t ∈ waiting s.head, ¬ replaces t) → s.head.queue.length < 8 → ∃ tid,
      TidTaken s.head.queue s.head.nextTid tid ∧
      exec .recall s = .next (s1.setHead (transactionIn (new tid) s.head))) ∧
    ((∀ t ∈ waiting s.head, ¬ replaces t) → s.head.queue.length = 8 →
      exec .recall s = .next (s1.offer ⟨s.now, 2, r.rule.val, .relay none r.head (.recall r.preset) .queueFull 0⟩)) ∧
    ∀ pre old post, s.head.queue = pre ++ old :: post → (s.head.inFlight = true → pre ≠ []) → replaces old →
      (∀ t ∈ pre.drop (if s.head.inFlight then 1 else 0), ¬ replaces t) →
      ∃ tid, TidTaken (pre ++ post) s.head.nextTid tid ∧
        exec .recall s = .next ((s1.setHead { s.head with
          queue := pre ++ new tid :: post, nextTid := tid + 1 }).offer (relayTold s.now old .superseded))

/-- R149–R151, R186: CANCEL_RELAY. A queued transaction leaves the queue and ends CANCELLED; the in-flight one is
marked, or in a gap between its attempts ends CANCELLED at once while the gap runs on; a tid that no transaction of
the queue holds is answered ABSENT and nothing changes. -/
def Obligations.TransactionCancelled : Prop :=
  ∀ (tid : Byte) (f : Frame) (rest : List Frame) (s : State), RelayLaw s → Ready 0x4A f rest s → f.payload = [tid] →
    ((∀ t ∈ s.head.queue, t.tid ≠ tid) → ∃ t, exec .cancelRelay s = .next t ∧ Taken f rest [0x05] s s t) ∧
    (∀ pre x post, s.head.queue = pre ++ x :: post → x.tid = tid → (s.head.inFlight = true → pre ≠ []) →
      ∃ t, exec .cancelRelay s = .next t ∧ Taken f rest [0x00, 0x00] s
        ((s.setHead { s.head with queue := pre ++ post }).offer (relayTold s.now x .cancelled)) t) ∧
    ∀ x post, s.head.queue = x :: post → x.tid = tid → s.head.inFlight = true →
      (s.head.link ≠ .gap → ∃ t, exec .cancelRelay s = .next t ∧ Taken f rest [0x00, 0x01] s
        (s.setHead { s.head with queue := { x with cancelPending := true } :: post }) t) ∧
      (s.head.link = .gap → ∃ t, exec .cancelRelay s = .next t ∧ Taken f rest [0x00, 0x01] s
        ((s.setHead { s.head with queue := post, inFlight := false }).offer (relayTold s.now x .cancelled)) t)

/-- R143–R148, R151, R195: the line of the head link. A request frame that is sent ends a broadcast OK and otherwise
starts the reply wait. In AWAIT_REPLY bytes at the attempt's rate are searched for the start code 5Bh, and the frame
is judged when five have followed, in one run of bytes or in several: with a good CRC, the transaction's address and
its tag it ends the transaction OK or HEAD_REFUSED; with another address or tag it is foreign and discarded; with a
bad CRC it fails the attempt with BAD_REPLY, as the reply deadline does with NO_REPLY, where a frame partly received
is dropped. What is received of characters at another rate or with a wrong stop bit is open, a free value (log 37). In
every other state bytes change nothing. A gap's end sends the next attempt with the same frame, takes the next
transaction with the next tag, or leaves the link IDLE. -/
def Obligations.AttemptsOnTheLine : Prop :=
  ∀ (t : Transaction) (rest : List Transaction) (s : State),
    let sends := fun (x : Transaction) (tag : Byte) => s.setHead { s.head with
      queue := x :: rest, inFlight := true, nextTag := tag, link := .sending, replyDeadline := none
      gapLength := none, line := some ⟨s.head.settings.rate, requestFrame x⟩, received := [] }
    (s.head.queue = t :: rest →
      (s.head.link = .sending → t.head = 0 → exec .requestFrameComplete s = .next (flightOver t rest .ok s)) ∧
      (s.head.link = .sending → t.head ≠ 0 → exec .requestFrameComplete s = .next (s.setHead { s.head with
        link := .awaitReply, replyDeadline := some (later s.now s.head.settings.timeout), received := [] })) ∧
      (∀ (rate : HeadRate) (request before : List Byte), s.head.link = .awaitReply → s.head.received = [] →
        s.head.line = some ⟨rate, request⟩ → 0x5B ∉ before →
        ∀ first more,
          (∀ got, got.length ≤ 4 → first :: more = before ++ 0x5B :: got → exec (.replyFrame rate true first more) s =
            .next (s.setHead { s.head with received := 0x5B :: got })) ∧
          ∀ addr tag status hi lo, first :: more = before ++ [0x5B, addr, tag, status, hi, lo] →
            let good := be16 (crc16 [addr, tag, status]).toNat = [hi, lo]
            (¬ good → exec (.replyFrame rate true first more) s = .next (attemptFailed t rest .badReply s)) ∧
            (good → addr.toNat = t.head.val → t.tag = some tag → exec (.replyFrame rate true first more) s =
              .next (flightOver t rest (if status = 0 then .ok else .headRefused) s)) ∧
            (good → addr.toNat ≠ t.head.val ∨ t.tag ≠ some tag → exec (.replyFrame rate true first more) s = .next s)) ∧
      (∀ d, s.head.link = .awaitReply → s.head.replyDeadline = some d → reached s.now d = true →
        exec .replyDeadlineExpiry s = .next (attemptFailed t rest .noReply s)) ∧
      (s.head.link = .gap → s.head.inFlight = true → exec .turnaroundGapEnd s =
        .next (sends { t with attempts := t.attempts + 1 } s.head.nextTag)) ∧
      (s.head.link = .gap → s.head.inFlight = false → exec .turnaroundGapEnd s =
        .next (sends { t with attempts := t.attempts + 1, tag := some s.head.nextTag } (s.head.nextTag + 1)))) ∧
    (s.head.link = .gap → s.head.queue = [] → exec .turnaroundGapEnd s =
      .next (s.setHead { s.head with link := .idle, gapLength := none })) ∧
    (∀ rate request, s.head.link = .awaitReply → s.head.line = some ⟨rate, request⟩ →
      (∀ b more c others u, exec (.replyFrame rate true b more) s = .next u →
        exec (.replyFrame rate true b (more ++ c :: others)) s = exec (.replyFrame rate true c others) u) ∧
      ∀ other stopGood first sent, other ≠ rate ∨ stopGood = false →
        (Config.misread s.fresh = [] → exec (.replyFrame other stopGood first sent) s = .next s.tickFresh) ∧
        ∀ b more, Config.misread s.fresh = b :: more →
          exec (.replyFrame other stopGood first sent) s = exec (.replyFrame rate true b more) s.tickFresh) ∧
    (s.head.link ≠ .awaitReply → ∀ rate stopGood first sent, exec (.replyFrame rate stopGood first sent) s = .next s) ∧
    ∀ tag : Byte, t.tag = some tag →
      let body := match t.op with | .recall p => [byte p.val] | .raw bytes => bytes
      let covered := [byte t.head.val, tag, (match t.op with | .recall _ => 1 | .raw _ => 2), byte body.length] ++ body
      requestFrame t = 0x5A :: covered ++ be16 (crc16 covered).toNat

/-! ### Host link (chapters 08 and 09) -/

/-- R155–R158, R160–R164, R170: a host frame. Received from HUNT with good stop bits, all its bytes but the last lead
to CHECK, and change nothing else. At the last byte the frame is judged. With another CRC, or a character with a wrong
stop bit (DEDUCED, log 27), it is refused BADCRC; with SEQ 0, BADSEQ. A valid frame restarts the silence deadline of
an OPEN session with a silence timeout. One that a cached reply answers has that reply sent again if it was SENT; one
equal to a waiting frame is discarded; otherwise it joins a command queue of fewer than 4, whose commands are then
taken as far as they can be, oldest first, or is refused BUSY. Each of these leaves the receiver in HUNT, and the
transmitter chooses, if it is free. -/
def Obligations.FrameReceived : Prop :=
  (∀ (seq kind hi : Byte) (payload : List Byte) (s : State), payload.length ≤ 240 → s.link.receiver = .hunt →
    receiving (0xA5 :: byte payload.length :: seq :: kind :: payload ++ [hi]) s =
      some (s.setLink { s.link with
        receiver := .check (byte payload.length) seq kind payload [hi], gap := some (later s.now 5)
        badStop := false }).kick) ∧
  ∀ (len seq kind hi lo : Byte) (payload : List Byte) (stopGood : Bool) (s : State),
    s.link.receiver = .check len seq kind payload [hi] →
    let last : Instr := .hostByteReceived lo stopGood
    let crc : Half := hi ++ lo
    let spoilt := s.link.badStop = true ∨ stopGood = false ∨
      crc ≠ crc16 (byte payload.length :: seq :: kind :: payload)
    let heard : HostLink := { s.link with
      receiver := .hunt, gap := none, badStop := false, session := heardSession s.now s.link.session }
    (spoilt → exec last s = .next (refusedFrame seq .badCrc s)) ∧
    (¬ spoilt → seq = 0 → exec last s = .next (refusedFrame 0 .badSeq s)) ∧
    (¬ spoilt → seq ≠ 0 →
      let cached := ∃ e ∈ s.link.cache, e.seq = seq ∧ e.crc = crc
      let waits := ∃ g ∈ s.link.commands, g.seq = seq ∧ g.crc = crc
      (cached → exec last s = .next (s.setLink { heard with
        cache := s.link.cache.map fun e =>
          if e.seq = seq ∧ e.crc = crc ∧ e.mark = .sent then { e with mark := .unsent } else e }).kick) ∧
      (¬ cached → waits → exec last s = .next (s.setLink heard).kick) ∧
      (¬ cached → ¬ waits → 4 ≤ s.link.commands.length → exec last s = .next (s.setLink { heard with
        immediate := if s.link.immediate.length < 4 then s.link.immediate ++ [.busy seq kind]
          else s.link.immediate }).kick) ∧
      (¬ cached → ¬ waits → s.link.commands.length < 4 → ∃ u,
        TakesOn (s.setLink { heard with commands := s.link.commands ++ [⟨seq, kind, payload, crc⟩] }) u ∧
        exec last s = .next u.kick))

/-- R157–R160: what the receiver does with one byte, and at a gap deadline. In HUNT a byte other than the start code
is discarded. In HEADER, BODY and CHECK a byte that does not complete the frame is stored, the gap deadline is set 50
ms away, and a wrong stop bit is kept in mind (DEDUCED, log 27). When KIND has arrived, a LEN above 240 is refused
OVERSIZE; a LEN of 0 leads to CHECK, another to BODY, and that to CHECK when LEN bytes have arrived. A partial frame
whose gap deadline expires is refused GAP with the SEQ that had arrived. A NAK enters the immediate queue when that
holds fewer than 4, and the transmitter, when it is free, takes it. -/
def Obligations.FramesRefused : Prop :=
  ∀ s : State,
    let goesOn := fun (r : Receiver) (good : Bool) => (s.setLink { s.link with
      receiver := r, gap := some (later s.now 5), badStop := s.link.badStop || !good }).kick
    (∀ b good, s.link.receiver = .hunt → b ≠ 0xA5 → exec (.hostByteReceived b good) s = .next s.kick) ∧
    (∀ good, s.link.receiver = .hunt → exec (.hostByteReceived 0xA5 good) s = .next (s.setLink { s.link with
      receiver := .header [], gap := some (later s.now 5), badStop := !good }).kick) ∧
    (∀ b good, s.link.receiver = .header [] → exec (.hostByteReceived b good) s = .next (goesOn (.header [b]) good)) ∧
    (∀ len b good, s.link.receiver = .header [len] →
      exec (.hostByteReceived b good) s = .next (goesOn (.header [len, b]) good)) ∧
    (∀ len seq kind good, s.link.receiver = .header [len, seq] →
      (240 < len.toNat → exec (.hostByteReceived kind good) s = .next (refusedFrame seq .oversize s)) ∧
      (len = 0 → exec (.hostByteReceived kind good) s = .next (goesOn (.check len seq kind [] []) good)) ∧
      (len ≠ 0 → len.toNat ≤ 240 →
        exec (.hostByteReceived kind good) s = .next (goesOn (.body len seq kind []) good))) ∧
    (∀ len seq kind got b good, s.link.receiver = .body len seq kind got →
      (got.length + 1 < len.toNat →
        exec (.hostByteReceived b good) s = .next (goesOn (.body len seq kind (got ++ [b])) good)) ∧
      (got.length + 1 = len.toNat →
        exec (.hostByteReceived b good) s = .next (goesOn (.check len seq kind (got ++ [b]) []) good))) ∧
    (∀ len seq kind payload b good, s.link.receiver = .check len seq kind payload [] →
      exec (.hostByteReceived b good) s = .next (goesOn (.check len seq kind payload [b]) good)) ∧
    (∀ d, s.link.gap = some d → reached s.now d = true →
      (s.link.receiver = .header [] ∨ (∃ len, s.link.receiver = .header [len]) →
        exec .gapDeadlineExpiry s = .next (refusedFrame 0 .gap s)) ∧
      (∀ len seq, s.link.receiver = .header [len, seq] →
        exec .gapDeadlineExpiry s = .next (refusedFrame seq .gap s)) ∧
      (∀ len seq kind got, s.link.receiver = .body len seq kind got →
        exec .gapDeadlineExpiry s = .next (refusedFrame seq .gap s)) ∧
      ∀ len seq kind payload got, s.link.receiver = .check len seq kind payload got →
        exec .gapDeadlineExpiry s = .next (refusedFrame seq .gap s))

/-- R116, R117, R166–R171, R178: OPEN in either session state takes the parameters, marks every record UNSENT and
starts the silence deadline; CLOSE closes the session without a report; the expiry of the silence deadline closes an
OPEN session with a SESSION report of reason SILENCE. Each of them discards a stall notice that is still on its way:
R171 gives that notice an effect on the session in which the stall was declared, and that it has none on a later one
is the model's reading (log 11). -/
def Obligations.SessionOpensAndCloses : Prop :=
  (∀ (q : OpenRequest) (f : Frame) (rest : List Frame) (s : State),
    s.link.commands = f :: rest → f.kind = 0x02 → takeable s.link = true → parseOpen f.payload = .ok q →
    ∃ t, exec .openSession s = .next t ∧ Answered f [0x00] t ∧ t.link.commands = rest ∧
      t.link.session = ⟨.opened, q.mode, q.window, q.retransmit, q.silence,
        if q.silence = 0 then none else some (later s.now (q.silence * 100))⟩ ∧
      beyondLink t = beyondLink ((s.setReports { s.reports with
        delivery := ⟨.opened, q.mode, q.window, q.retransmit, 0, none, none⟩ }).setWires
          { s.wires with stall := false }) ∧
      (s.link.tx.isSome → t.reports.records = unsentRecords s.reports.records ∧ t.reports.delivery.round = none)) ∧
  (∀ (f : Frame) (rest : List Frame) (s : State), Ready 0x03 f rest s → f.payload = [] →
    ∃ t, exec .closeSession s = .next t ∧ Answered f [0x00] t ∧ t.link.commands = rest ∧
      t.link.session = { s.link.session with state := .closed, deadline := none } ∧
      t.reports = (sessionClosed s).reports ∧ beyondLink t = beyondLink (sessionClosed s)) ∧
  ∀ (d : Time) (s : State), s.link.session.state = .opened → s.link.session.deadline = some d →
    exec .silenceDeadlineExpiry s = .next (if reached s.now d = true then sessionLost .silence s else s)

/-- R164, R165, R172, R173, R178, R206: SET_LINK and RESTART are answered OK, and act when their reply's first
transmission completes: the rate switches, with the partial frame discarded; the part takes a full reset that keeps
the rate and the output standard and samples strap S3 (where its level comes from: log 25). From the taking of RESTART
on, no frame is taken from the command queue. At the completion of any other reply its entry is SENT, the commands
that can be taken are taken, oldest first, and then the transmitter chooses. -/
def Obligations.LinkCommands : Prop :=
  (∀ (r : HostRate) (f : Frame) (rest : List Frame) (s : State), Ready 0x05 f rest s →
    parseSetLink f.payload = .ok r →
    ∃ t, exec .setLink s = .next t ∧ Taken f rest [0x00] s s t ∧
      ∃ e, t.link.cache.getLast? = some e ∧ e.post = some (.switchRate r)) ∧
  (∀ (f : Frame) (rest : List Frame) (s : State), Ready 0x06 f rest s → f.payload = [] →
    ∃ t, exec .restart s = .next t ∧ Answered f [0x00] t ∧ t.link.restartPending = true ∧ t.link.commands = rest ∧
      beyondLink t = beyondLink s ∧ takeable t.link = false ∧
      ∃ e, t.link.cache.getLast? = some e ∧ e.post = some .restart) ∧
  ∀ (pre post : List CacheEntry) (e : CacheEntry) (bytes : List Byte) (rate : HostRate) (s : State),
    s.link.tx = some ⟨bytes, .reply, rate⟩ → s.link.cache = pre ++ e :: post → e.mark = .sending →
    (∀ x ∈ pre ++ post, x.mark ≠ .sending) →
    let sent := { s.link with tx := none, cache := pre ++ { e with mark := .sent, post := none } :: post }
    ∀ s3 : Level,
      let answersOn := fun l : HostLink =>
        ∃ u, TakesOn (s.setLink l) u ∧ exec (.frameTxComplete s3) s = .next u.kick
      (e.post = none → answersOn sent) ∧
      (e.post = some (.switchRate s.link.rate) → answersOn sent) ∧
      (∀ r, e.post = some (.switchRate r) → r ≠ s.link.rate →
        answersOn { sent with rate := r, receiver := .hunt, gap := none, badStop := false }) ∧
      (e.post = some .restart → ∃ u, exec (.powerOn { s.straps with s3 := s3 }) s = .next u ∧
        exec (.frameTxComplete s3) s = .next
          { u with link := startLink s.link.rate, outputStandard := s.outputStandard })

/-- R120, R121, R165: the end of the transmission of a frame that is no reply. A first send's record that is still
SENDING is marked PUSHED and the retransmit deadline is set; one that is not is left, and no deadline is set. A resend
that leaves its round empty ends the round, with the deadline set when a record is PUSHED. The transmitter then
chooses again. -/
def Obligations.ReportSent : Prop :=
  ∀ (n : Nat) (bytes : List Byte) (rate : HostRate) (s3 : Level) (s : State),
    let free := s.setLink { s.link with tx := none }
    let ack := some (later s.now s.reports.delivery.retransmit)
    (s.link.tx = some ⟨bytes, .immediate, rate⟩ → exec (.frameTxComplete s3) s = .next free.kick) ∧
    (s.link.tx = some ⟨bytes, .report n false, rate⟩ →
      (∀ pre r post, s.reports.records = pre ++ r :: post → r.seq = n → (∀ x ∈ pre, x.seq ≠ n) →
        (r.mark = .sending → exec (.frameTxComplete s3) s = .next (free.setReports { s.reports with
          records := pre ++ { r with mark := .pushed } :: post
          delivery := { s.reports.delivery with deadline := ack } }).kick) ∧
        (r.mark ≠ .sending → exec (.frameTxComplete s3) s = .next free.kick)) ∧
      ((∀ r ∈ s.reports.records, r.seq ≠ n) → exec (.frameTxComplete s3) s = .next free.kick)) ∧
    (s.link.tx = some ⟨bytes, .report n true, rate⟩ →
      (s.reports.delivery.round ≠ some [] → exec (.frameTxComplete s3) s = .next free.kick) ∧
      (s.reports.delivery.round = some [] → exec (.frameTxComplete s3) s = .next (free.setReports { s.reports with
        delivery := { s.reports.delivery with
          round := none, deadline := if s.reports.records.any (fun r => r.mark == .pushed) then ack else none } }).kick))

/-- R26, R73, R103, R118, R136, R152, R175, R177–R187, R199: the queries are answered OK with what the part holds at
the taking, laid out by the tables of chapter 09, and change nothing. PULL carries the oldest records, at most as many
as it names and at most 8, and is refused STATE in PUSH mode. HELLO is answered in any session. The model's readings:
a field that a zone's or rule's runtime block marks absent is sent as 0, for which R192 and R193 give no value (log
28), and the time remaining to a deadline that is reached and not yet taken is 0 (log 17). -/
def Obligations.QueriesAnswered : Prop :=
  ∀ (f : Frame) (rest : List Frame) (s : State),
    let tells := fun (i : Instr) (payload : List Byte) => ∃ t, exec i s = .next t ∧ Taken f rest payload s s t
    (Ready 0x04 f rest s → f.payload = [] → tells .ping [0x00]) ∧
    (Ready 0x07 f rest s → f.payload = [] → tells .time (0x00 :: be32 s.now.toNat)) ∧
    (s.link.commands = f :: rest → f.kind = 0x01 → takeable s.link = true → f.payload = [] →
      tells .hello (0x00 :: [0x4E, 0x43, 0x36, 0x41, 1, 1, 6, 48, 8, 24, 12, 16, 8, 32, 8, 8, 15, 240, 4, 4, 4,
        sessionStateCode s.link.session.state, hostRateCode s.link.rate,
        (match s.store.startSource with | none => 0 | some .a => 1 | some .b => 2)]
        ++ be32 (s.store.startGen.getD 0).toNat ++ be32 s.now.toNat
        ++ [byte s.reports.records.length] ++ be16 s.reports.dropped)) ∧
    (∀ n : Byte, Ready 0x39 f rest s → f.payload = [n] →
      (s.reports.delivery.mode = .pull →
        let copies := s.reports.records.take (min n.toNat 8)
        tells .pull (0x00 :: be16 s.reports.dropped ++ [byte s.reports.records.length, byte copies.length]
          ++ copies.flatMap recordBytes)) ∧
      (s.reports.delivery.mode = .push → tells .pull [0x0A])) ∧
    (∀ c, Ready 0x11 f rest s → parseNumber 6 f.payload = .ok c →
      tells .getCamera (0x00 :: cameraLayout c (s.cams.get c))) ∧
    (∀ k, Ready 0x15 f rest s → parseId 8 f.payload = .ok k →
      tells .getClass (0x00 :: classLayout k (s.zoneEngine.classes.get k))) ∧
    (∀ z, Ready 0x1B f rest s → parseId 48 f.payload = .ok z →
      (s.zoneEngine.table.get z = none → tells .getZone [0x05]) ∧
      ∀ zone, s.zoneEngine.table.get z = some zone →
        tells .getZone (0x00 :: zoneLayout z zone.cfg ++ zoneRunLayout zone.run)) ∧
    (∀ r, Ready 0x23 f rest s → parseId 24 f.payload = .ok r →
      (s.ruleEngine.table.get r = none → tells .getRule [0x05]) ∧
      ∀ rule, s.ruleEngine.table.get r = some rule →
        tells .getRule (0x00 :: ruleLayout r rule.cfg ++ ruleRunLayout s.now s.ruleEngine rule)) ∧
    (Ready 0x30 f rest s → f.payload = [] → tells .getScreen (0x00 :: screenLayout s)) ∧
    (Ready 0x42 f rest s → f.payload = [] → tells .getLines
      (0x00 :: (List.finRange 8).flatMap fun l => lineLayout s.now (s.extPins.get l) (s.lines.get l))) ∧
    (Ready 0x4B f rest s → f.payload = [] → tells .getRelays (0x00 :: relaysLayout s)) ∧
    (Ready 0x53 f rest s → f.payload = [] → tells .getProfile (0x00 :: profileLayout s.store))

/-! ### Profile store (chapter 10) -/

/-- R197, R200, R201, R208: a commit. COMMIT in IDLE is answered ACCEPTED: the target is the slot that is not the
newest valid one, slot A when there is none; its generation is the newest valid one plus 1, or 1; it is invalidated;
the snapshot is the running configuration. After FFFFFFFEh the commit fails at once with slot 0. Each phase leaves
what R201 gives: the target written, verified, and valid with its generation when that reads back; a failure offers
COMMIT_FAILED. In any other block state COMMIT is answered BUSY. -/
def Obligations.CommitPhases : Prop :=
  (∀ (f : Frame) (rest : List Frame) (s : State), Ready 0x50 f rest s → f.payload = [] →
    let newest := newestSlot s.store.dirA s.store.dirB
    let target := if newest = some .a then SlotId.b else .a
    let top : Word32 := match newest with
      | none => 0
      | some .a => (s.store.dirA.map (·.generation)).getD 0
      | some .b => (s.store.dirB.map (·.generation)).getD 0
    (s.store.block ≠ .idle → ∃ t, exec .commit s = .next t ∧ Taken f rest [0x08] s s t) ∧
    (s.store.block = .idle → top = 0xFFFFFFFE →
      ∃ t, exec .commit s = .next t ∧ Taken f rest [0x01] s (operationOver .commitFailed 0 none s) t) ∧
    (s.store.block = .idle → top ≠ 0xFFFFFFFE → (newest.isSome → top ≠ 0) → ∃ t u, exec .commit s = .next t ∧
      Taken f rest [0x01] s u t ∧
      u = (storing target { slotOf target s.store with generation := 0xFFFFFFFF } none s).setStore u.store ∧
      u.store = { (storing target { slotOf target s.store with generation := 0xFFFFFFFF } none s).store with
        block := .committing, target := some target, targetGen := some (top + 1), snapshot := some (runningProfile s)
        phase := some .write })) ∧
  ∀ (id : SlotId) (p : Profile) (gen : Word32) (s : State),
    s.store.target = some id → s.store.snapshot = some p → s.store.targetGen = some gen →
    let slot := slotOf id s.store
    (∀ stored, s.store.phase = some .write →
      let image := match stored with | some x => x | none => writtenImage p
      let s1 := storing id ⟨slot.generation, image.length, image.contents, image.crc⟩ none s
      exec (.commitWriteDone stored) s = .next (s1.setStore { s1.store with phase := some .verify })) ∧
    (s.store.phase = some .verify →
      (slot.length ≤ 8182 → slot.crc = crc32 (be16 slot.length ++ slot.contents.bytes) →
        slot.contents = profileContents p →
        exec (.commitVerifyDone true) s = .next (s.setStore { s.store with phase := some .generation })) ∧
      (∀ good, good = false ∨ slot.contents ≠ profileContents p ∨ 8182 < slot.length ∨
          slot.crc ≠ crc32 (be16 slot.length ++ slot.contents.bytes) →
        exec (.commitVerifyDone good) s = .next (operationOver .commitFailed (slotNumber id) none s))) ∧
    (s.store.phase = some .generation → ∀ readBack afterErase,
      (readBack = gen → exec (.generationWriteDone readBack afterErase) s = .next
        (operationOver .committed (slotNumber id) (some gen)
          (storing id { slot with generation := gen } (some ⟨gen, slot.length⟩) s))) ∧
      (readBack ≠ gen → exec (.generationWriteDone readBack afterErase) s = .next
        (operationOver .commitFailed (slotNumber id) none
          (storing id { slot with generation := afterErase } (judgeSlot { slot with generation := afterErase }) s))))

/-- R196, R203, R204, R206, R208: a restore. RESTORE in IDLE of a valid slot, or of the newest valid one, is answered
ACCEPTED, of an invalid one ABSENT, and BUSY in any other block state. A slot that reads good and passes the checks is
applied: its parts are handed in four steps, and RESTORED is offered when every block has taken its part; otherwise
RESTORE_FAILED is. The check of references is the law of R68 within the profile. -/
def Obligations.RestorePhases : Prop :=
  (∀ (x : Option SlotId) (f : Frame) (rest : List Frame) (s : State), Ready 0x51 f rest s →
    parseSelector f.payload = .ok x →
    let slot := match x with
      | none => newestSlot s.store.dirA s.store.dirB
      | some .a => if s.store.dirA.isSome then some .a else none
      | some .b => if s.store.dirB.isSome then some .b else none
    (s.store.block ≠ .idle → ∃ t, exec .restore s = .next t ∧ Taken f rest [0x08] s s t) ∧
    (s.store.block = .idle → slot = none → ∃ t, exec .restore s = .next t ∧ Taken f rest [0x05] s s t) ∧
    ∀ id, s.store.block = .idle → slot = some id → ∃ t, exec .restore s = .next t ∧
      Taken f rest [0x01] s (s.setStore { s.store with block := .restoring, restoreSlot := some id }) t) ∧
  (∀ (id : SlotId) (s : State), s.store.block = .restoring → s.store.restoreSlot = some id →
    let gen := match id with | .a => s.store.dirA.map (·.generation) | .b => s.store.dirB.map (·.generation)
    (s.store.applying = none →
      (∀ p, checkedProfile (slotOf id s.store) = some p → exec (.restoreReadDone true) s =
        .next (s.setStore { s.store with applying := some p, handed := [.rulesRemove] })) ∧
      (∀ good, good = false ∨ checkedProfile (slotOf id s.store) = none → exec (.restoreReadDone good) s =
        .next (operationOver .restoreFailed (slotNumber id) gen s))) ∧
    (s.store.applying.isSome → ∀ part, part ∈ s.store.notices →
      let onward := match part with
        | .rulesRemove => [.zones, .lines, .filter, .headLink]
        | .zones => if .lines ∈ s.store.taken then
            [.camera 0, .camera 1, .camera 2, .camera 3, .camera 4, .camera 5, .schedule] else []
        | .lines => if .zones ∈ s.store.taken then
            [.camera 0, .camera 1, .camera 2, .camera 3, .camera 4, .camera 5, .schedule] else []
        | .schedule => [.rulesArm]
        | _ => []
      ((∀ x : Part, x ≠ part → x ∈ s.store.taken) →
        exec (.partTakenNotice part) s = .next (operationOver .restored (slotNumber id) gen s)) ∧
      (∀ x : Part, x ≠ part → x ∉ s.store.taken → exec (.partTakenNotice part) s = .next (s.setStore { s.store with
        notices := s.store.notices.erase part, taken := part :: s.store.taken
        handed := s.store.handed ++ onward })))) ∧
  ∀ (slot : Slot) (p : Profile), checkedProfile slot = some p ↔ slot.length ≤ 8182 ∧
    slot.crc = crc32 (be16 slot.length ++ slot.contents.bytes) ∧ slot.contents.profile = some p ∧
    rangesGood p = true ∧ ProfileLaw p

/-- R205, R208: ERASE_PROFILE in IDLE is answered ACCEPTED and BUSY otherwise; at the end of the preparation both
slots are invalidated, A and then B, and their directory entries are set from what reads back. -/
def Obligations.EraseInvalidates : Prop :=
  (∀ (f : Frame) (rest : List Frame) (s : State), Ready 0x52 f rest s → f.payload = [] →
    (s.store.block = .idle → ∃ t, exec .eraseProfile s = .next t ∧
      Taken f rest [0x01] s (s.setStore { s.store with block := .erasing }) t) ∧
    (s.store.block ≠ .idle → ∃ t, exec .eraseProfile s = .next t ∧ Taken f rest [0x08] s s t)) ∧
  ∀ (readA readB : Word32) (s : State), s.store.block = .erasing →
    let a := { s.store.slotA with generation := readA }
    let b := { s.store.slotB with generation := readB }
    let s1 := storing .b b (judgeSlot b) (storing .a a (judgeSlot a) s)
    (readA = 0xFFFFFFFF → readB = 0xFFFFFFFF →
      exec (.erasePrepareDone readA readB) s = .next (operationOver .erased 0 none s1) ∧
      judgeSlot a = none ∧ judgeSlot b = none) ∧
    (readA ≠ 0xFFFFFFFF → exec (.erasePrepareDone readA readB) s = .next (operationOver .eraseFailed 1 none s1)) ∧
    (readA = 0xFFFFFFFF → readB ≠ 0xFFFFFFFF →
      exec (.erasePrepareDone readA readB) s = .next (operationOver .eraseFailed 2 none s1))

/-! ### Layouts of configured records (chapter 09) -/

/-- R179–R181, R183, R192–R194: the payloads of SET_CLASS, PUT_ZONE, PUT_RULE and PUT_VIEW that pass their tests are
exactly the layouts of the records they are read as: laying the record out again gives the payload, so that no bit of
it is dropped and no two payloads write one record. -/
def Obligations.PayloadsSpellRecords : Prop :=
  (∀ p k cls, parseSetClass p = .ok (k, cls) → classBytes k cls = p) ∧
  (∀ p z cfg, parseZone p = .ok (z, cfg) → zoneBytes z cfg = p) ∧
  (∀ p r cfg, parseRule p = .ok (r, cfg) → ruleBytes r cfg = p) ∧
  ∀ p v cfg, parseView p = .ok (v, cfg) → viewBytes v cfg = p

/-- R46, R67, R181, R193: every rule record within the ranges of the rule table is accepted by PUT_RULE's shape and
range tests from its layout, as that record. -/
def Obligations.RulesInRangeAccepted : Prop :=
  ∀ (r : RuleId) (cfg : RuleConfig),
    1 ≤ cfg.terms.length → cfg.terms.length ≤ 4 → cfg.actions.length ≤ 3 →
    1 ≤ cfg.window → cfg.window ≤ 65535 → cfg.cooldown ≤ 65535 →
    (∀ n, cfg.mode = .count n → 1 ≤ n ∧ n ≤ cfg.terms.length) → (cfg.mode = .order → 2 ≤ cfg.terms.length) →
    (cfg.actions.filter fun | .report .. => true | _ => false).length ≤ 1 →
    (cfg.actions.filter fun | .showView .. => true | _ => false).length ≤ 1 →
    (∀ p c, .report p c ∈ cfg.actions → p ≤ 3) →
    (∀ v p d l w, .showView v p d l w ∈ cfg.actions → 1 ≤ p ∧ p ≤ 7 ∧ 1 ≤ d ∧ d ≤ 255 ∧ d ≤ l ∧ l ≤ 3600) →
    (∀ l n, .line l (.pulse n) ∈ cfg.actions → 1 ≤ n ∧ n ≤ 255) →
    parseRule (ruleBytes r cfg) = .ok (r, cfg)

/-! ### Laws that every command keeps -/

/-- R83, R111, R140, R160, R162, R163: no queue passes its capacity, and no two requests are of one origin, after any
command.
R119, R120: after any command at most a window of records is SENDING or PUSHED in an OPEN session in PUSH mode,
and none otherwise.
R111, R119, R121: after any command the sequences of the report queue are distinct and in the order of entry, no record
has seen 65535 enter behind it, its SENDING and PUSHED records stand at its oldest end, and a round holds sequences of
PUSHED ones. -/
def Obligations.QueuesKept : Prop :=
  (∀ (i : Instr) (s t : State), QueuesLaw s → exec i s = .next t → QueuesLaw t) ∧
  (∀ (i : Instr) (s t : State), WindowLaw s → exec i s = .next t → WindowLaw t) ∧
  ∀ (i : Instr) (s t : State), QueuesLaw s → ReportsLaw s → exec i s = .next t → ReportsLaw t

/-- R88, R89: "While a hold is set, the screen source is HOLD and shows the held view; while no hold is set and the
request set is empty, the screen source is ROTATING or BLANK." The shown request is an entry of the set.
R97, R98: the newest presentation, on its way, pending or applied, is the source's: the held view, the shown
request's, the rotation entry's at the index, or BLANK. -/
def Obligations.ScreenKept : Prop :=
  ∀ (i : Instr) (s t : State), QueuesLaw s → ScreenLaw s → exec i s = .next t → ScreenLaw t

/-- R22, R23, R26, R27, R38, R51, R53, R126: after any command every zone, rule and line holds a runtime record that
its state allows. -/
def Obligations.RecordsKept : Prop :=
  ∀ (i : Instr) (s t : State), RecordsLaw s → exec i s = .next t → RecordsLaw t

/-- R68, R78, R203, R204: after any command the law on rule references holds, through the application of a restored
profile as well. -/
def Obligations.ReferencesKept : Prop :=
  ∀ (i : Instr) (s t : State), ReferencesLaw s → ApplyingLaw s → exec i s = .next t →
    ReferencesLaw t ∧ ApplyingLaw t

/-- R139, R140, R143: after any command the tids of the relay queue are distinct, the in-flight transaction stands at
its oldest end with a tag and at least one attempt, and the link is IDLE only with an empty queue. -/
def Obligations.RelaysKept : Prop :=
  ∀ (i : Instr) (s t : State), RelayLaw s → exec i s = .next t → RelayLaw t

/-- R198, R199, R201: after any command the directory agrees with the slots, and the target of a commit is invalid by
its generation.
R202: "From the completion of the first successful COMMIT until the next ERASE_PROFILE is accepted, at least one
profile slot is valid." While the store is not ERASING, no command takes the last valid slot that is not the target of
a commit. -/
def Obligations.SlotsKept : Prop :=
  (∀ (i : Instr) (s t : State), StoreLaw s → exec i s = .next t → StoreLaw t) ∧
  (∀ (i : Instr) (s t : State), StoreLaw s → s.store.block ≠ .erasing → exec i s = .next t →
    (∃ id, slotValid (slotOf id s.store) = true ∧ s.store.target ≠ some id) →
    ∃ id, slotValid (slotOf id t.store) = true ∧ t.store.target ≠ some id)

/-- The laws hold right after reset. -/
def Obligations.LawsAtReset : Prop :=
  QueuesLaw State.reset ∧ WindowLaw State.reset ∧ ReportsLaw State.reset ∧ ScreenLaw State.reset ∧
  RecordsLaw State.reset ∧ ReferencesLaw State.reset ∧ ApplyingLaw State.reset ∧ RelayLaw State.reset ∧ StoreLaw State.reset
end

