-- ==== Sys2Proof/Laws/State.lean ====
section
/-! SUPPORT. One lemma per field per update of the state, so that no proof unfolds a record update. -/

namespace Sys2Proof.Machine

@[simp] theorem State.setNow_now (s : State) (x : Time) : (s.setNow x).now = x := rfl
@[simp] theorem State.setNow_straps (s : State) (x : Time) : (s.setNow x).straps = s.straps := rfl
@[simp] theorem State.setNow_outputStandard (s : State) (x : Time) : (s.setNow x).outputStandard = s.outputStandard := rfl
@[simp] theorem State.setNow_extPins (s : State) (x : Time) : (s.setNow x).extPins = s.extPins := rfl
@[simp] theorem State.setNow_cams (s : State) (x : Time) : (s.setNow x).cams = s.cams := rfl
@[simp] theorem State.setNow_zoneEngine (s : State) (x : Time) : (s.setNow x).zoneEngine = s.zoneEngine := rfl
@[simp] theorem State.setNow_ruleEngine (s : State) (x : Time) : (s.setNow x).ruleEngine = s.ruleEngine := rfl
@[simp] theorem State.setNow_sched (s : State) (x : Time) : (s.setNow x).sched = s.sched := rfl
@[simp] theorem State.setNow_comp (s : State) (x : Time) : (s.setNow x).comp = s.comp := rfl
@[simp] theorem State.setNow_reports (s : State) (x : Time) : (s.setNow x).reports = s.reports := rfl
@[simp] theorem State.setNow_lines (s : State) (x : Time) : (s.setNow x).lines = s.lines := rfl
@[simp] theorem State.setNow_head (s : State) (x : Time) : (s.setNow x).head = s.head := rfl
@[simp] theorem State.setNow_link (s : State) (x : Time) : (s.setNow x).link = s.link := rfl
@[simp] theorem State.setNow_store (s : State) (x : Time) : (s.setNow x).store = s.store := rfl
@[simp] theorem State.setNow_wires (s : State) (x : Time) : (s.setNow x).wires = s.wires := rfl
@[simp] theorem State.setNow_fresh (s : State) (x : Time) : (s.setNow x).fresh = s.fresh := rfl
@[simp] theorem State.setNow_pending (s : State) (x : Time) : (s.setNow x).pending = s.pending := rfl

@[simp] theorem State.setCams_now (s : State) (x : Vector Camera 6) : (s.setCams x).now = s.now := rfl
@[simp] theorem State.setCams_straps (s : State) (x : Vector Camera 6) : (s.setCams x).straps = s.straps := rfl
@[simp] theorem State.setCams_outputStandard (s : State) (x : Vector Camera 6) : (s.setCams x).outputStandard = s.outputStandard := rfl
@[simp] theorem State.setCams_extPins (s : State) (x : Vector Camera 6) : (s.setCams x).extPins = s.extPins := rfl
@[simp] theorem State.setCams_cams (s : State) (x : Vector Camera 6) : (s.setCams x).cams = x := rfl
@[simp] theorem State.setCams_zoneEngine (s : State) (x : Vector Camera 6) : (s.setCams x).zoneEngine = s.zoneEngine := rfl
@[simp] theorem State.setCams_ruleEngine (s : State) (x : Vector Camera 6) : (s.setCams x).ruleEngine = s.ruleEngine := rfl
@[simp] theorem State.setCams_sched (s : State) (x : Vector Camera 6) : (s.setCams x).sched = s.sched := rfl
@[simp] theorem State.setCams_comp (s : State) (x : Vector Camera 6) : (s.setCams x).comp = s.comp := rfl
@[simp] theorem State.setCams_reports (s : State) (x : Vector Camera 6) : (s.setCams x).reports = s.reports := rfl
@[simp] theorem State.setCams_lines (s : State) (x : Vector Camera 6) : (s.setCams x).lines = s.lines := rfl
@[simp] theorem State.setCams_head (s : State) (x : Vector Camera 6) : (s.setCams x).head = s.head := rfl
@[simp] theorem State.setCams_link (s : State) (x : Vector Camera 6) : (s.setCams x).link = s.link := rfl
@[simp] theorem State.setCams_store (s : State) (x : Vector Camera 6) : (s.setCams x).store = s.store := rfl
@[simp] theorem State.setCams_wires (s : State) (x : Vector Camera 6) : (s.setCams x).wires = s.wires := rfl
@[simp] theorem State.setCams_fresh (s : State) (x : Vector Camera 6) : (s.setCams x).fresh = s.fresh := rfl
@[simp] theorem State.setCams_pending (s : State) (x : Vector Camera 6) : (s.setCams x).pending = s.pending := rfl

@[simp] theorem State.setExtPins_now (s : State) (x : Vector Level 8) : (s.setExtPins x).now = s.now := rfl
@[simp] theorem State.setExtPins_straps (s : State) (x : Vector Level 8) : (s.setExtPins x).straps = s.straps := rfl
@[simp] theorem State.setExtPins_outputStandard (s : State) (x : Vector Level 8) : (s.setExtPins x).outputStandard = s.outputStandard := rfl
@[simp] theorem State.setExtPins_extPins (s : State) (x : Vector Level 8) : (s.setExtPins x).extPins = x := rfl
@[simp] theorem State.setExtPins_cams (s : State) (x : Vector Level 8) : (s.setExtPins x).cams = s.cams := rfl
@[simp] theorem State.setExtPins_zoneEngine (s : State) (x : Vector Level 8) : (s.setExtPins x).zoneEngine = s.zoneEngine := rfl
@[simp] theorem State.setExtPins_ruleEngine (s : State) (x : Vector Level 8) : (s.setExtPins x).ruleEngine = s.ruleEngine := rfl
@[simp] theorem State.setExtPins_sched (s : State) (x : Vector Level 8) : (s.setExtPins x).sched = s.sched := rfl
@[simp] theorem State.setExtPins_comp (s : State) (x : Vector Level 8) : (s.setExtPins x).comp = s.comp := rfl
@[simp] theorem State.setExtPins_reports (s : State) (x : Vector Level 8) : (s.setExtPins x).reports = s.reports := rfl
@[simp] theorem State.setExtPins_lines (s : State) (x : Vector Level 8) : (s.setExtPins x).lines = s.lines := rfl
@[simp] theorem State.setExtPins_head (s : State) (x : Vector Level 8) : (s.setExtPins x).head = s.head := rfl
@[simp] theorem State.setExtPins_link (s : State) (x : Vector Level 8) : (s.setExtPins x).link = s.link := rfl
@[simp] theorem State.setExtPins_store (s : State) (x : Vector Level 8) : (s.setExtPins x).store = s.store := rfl
@[simp] theorem State.setExtPins_wires (s : State) (x : Vector Level 8) : (s.setExtPins x).wires = s.wires := rfl
@[simp] theorem State.setExtPins_fresh (s : State) (x : Vector Level 8) : (s.setExtPins x).fresh = s.fresh := rfl
@[simp] theorem State.setExtPins_pending (s : State) (x : Vector Level 8) : (s.setExtPins x).pending = s.pending := rfl

@[simp] theorem State.setZones_now (s : State) (x : ZoneEngine) : (s.setZones x).now = s.now := rfl
@[simp] theorem State.setZones_straps (s : State) (x : ZoneEngine) : (s.setZones x).straps = s.straps := rfl
@[simp] theorem State.setZones_outputStandard (s : State) (x : ZoneEngine) : (s.setZones x).outputStandard = s.outputStandard := rfl
@[simp] theorem State.setZones_extPins (s : State) (x : ZoneEngine) : (s.setZones x).extPins = s.extPins := rfl
@[simp] theorem State.setZones_cams (s : State) (x : ZoneEngine) : (s.setZones x).cams = s.cams := rfl
@[simp] theorem State.setZones_zoneEngine (s : State) (x : ZoneEngine) : (s.setZones x).zoneEngine = x := rfl
@[simp] theorem State.setZones_ruleEngine (s : State) (x : ZoneEngine) : (s.setZones x).ruleEngine = s.ruleEngine := rfl
@[simp] theorem State.setZones_sched (s : State) (x : ZoneEngine) : (s.setZones x).sched = s.sched := rfl
@[simp] theorem State.setZones_comp (s : State) (x : ZoneEngine) : (s.setZones x).comp = s.comp := rfl
@[simp] theorem State.setZones_reports (s : State) (x : ZoneEngine) : (s.setZones x).reports = s.reports := rfl
@[simp] theorem State.setZones_lines (s : State) (x : ZoneEngine) : (s.setZones x).lines = s.lines := rfl
@[simp] theorem State.setZones_head (s : State) (x : ZoneEngine) : (s.setZones x).head = s.head := rfl
@[simp] theorem State.setZones_link (s : State) (x : ZoneEngine) : (s.setZones x).link = s.link := rfl
@[simp] theorem State.setZones_store (s : State) (x : ZoneEngine) : (s.setZones x).store = s.store := rfl
@[simp] theorem State.setZones_wires (s : State) (x : ZoneEngine) : (s.setZones x).wires = s.wires := rfl
@[simp] theorem State.setZones_fresh (s : State) (x : ZoneEngine) : (s.setZones x).fresh = s.fresh := rfl
@[simp] theorem State.setZones_pending (s : State) (x : ZoneEngine) : (s.setZones x).pending = s.pending := rfl

@[simp] theorem State.setRules_now (s : State) (x : RuleEngine) : (s.setRules x).now = s.now := rfl
@[simp] theorem State.setRules_straps (s : State) (x : RuleEngine) : (s.setRules x).straps = s.straps := rfl
@[simp] theorem State.setRules_outputStandard (s : State) (x : RuleEngine) : (s.setRules x).outputStandard = s.outputStandard := rfl
@[simp] theorem State.setRules_extPins (s : State) (x : RuleEngine) : (s.setRules x).extPins = s.extPins := rfl
@[simp] theorem State.setRules_cams (s : State) (x : RuleEngine) : (s.setRules x).cams = s.cams := rfl
@[simp] theorem State.setRules_zoneEngine (s : State) (x : RuleEngine) : (s.setRules x).zoneEngine = s.zoneEngine := rfl
@[simp] theorem State.setRules_ruleEngine (s : State) (x : RuleEngine) : (s.setRules x).ruleEngine = x := rfl
@[simp] theorem State.setRules_sched (s : State) (x : RuleEngine) : (s.setRules x).sched = s.sched := rfl
@[simp] theorem State.setRules_comp (s : State) (x : RuleEngine) : (s.setRules x).comp = s.comp := rfl
@[simp] theorem State.setRules_reports (s : State) (x : RuleEngine) : (s.setRules x).reports = s.reports := rfl
@[simp] theorem State.setRules_lines (s : State) (x : RuleEngine) : (s.setRules x).lines = s.lines := rfl
@[simp] theorem State.setRules_head (s : State) (x : RuleEngine) : (s.setRules x).head = s.head := rfl
@[simp] theorem State.setRules_link (s : State) (x : RuleEngine) : (s.setRules x).link = s.link := rfl
@[simp] theorem State.setRules_store (s : State) (x : RuleEngine) : (s.setRules x).store = s.store := rfl
@[simp] theorem State.setRules_wires (s : State) (x : RuleEngine) : (s.setRules x).wires = s.wires := rfl
@[simp] theorem State.setRules_fresh (s : State) (x : RuleEngine) : (s.setRules x).fresh = s.fresh := rfl
@[simp] theorem State.setRules_pending (s : State) (x : RuleEngine) : (s.setRules x).pending = s.pending := rfl

@[simp] theorem State.setSched_now (s : State) (x : Scheduler) : (s.setSched x).now = s.now := rfl
@[simp] theorem State.setSched_straps (s : State) (x : Scheduler) : (s.setSched x).straps = s.straps := rfl
@[simp] theorem State.setSched_outputStandard (s : State) (x : Scheduler) : (s.setSched x).outputStandard = s.outputStandard := rfl
@[simp] theorem State.setSched_extPins (s : State) (x : Scheduler) : (s.setSched x).extPins = s.extPins := rfl
@[simp] theorem State.setSched_cams (s : State) (x : Scheduler) : (s.setSched x).cams = s.cams := rfl
@[simp] theorem State.setSched_zoneEngine (s : State) (x : Scheduler) : (s.setSched x).zoneEngine = s.zoneEngine := rfl
@[simp] theorem State.setSched_ruleEngine (s : State) (x : Scheduler) : (s.setSched x).ruleEngine = s.ruleEngine := rfl
@[simp] theorem State.setSched_sched (s : State) (x : Scheduler) : (s.setSched x).sched = x := rfl
@[simp] theorem State.setSched_comp (s : State) (x : Scheduler) : (s.setSched x).comp = s.comp := rfl
@[simp] theorem State.setSched_reports (s : State) (x : Scheduler) : (s.setSched x).reports = s.reports := rfl
@[simp] theorem State.setSched_lines (s : State) (x : Scheduler) : (s.setSched x).lines = s.lines := rfl
@[simp] theorem State.setSched_head (s : State) (x : Scheduler) : (s.setSched x).head = s.head := rfl
@[simp] theorem State.setSched_link (s : State) (x : Scheduler) : (s.setSched x).link = s.link := rfl
@[simp] theorem State.setSched_store (s : State) (x : Scheduler) : (s.setSched x).store = s.store := rfl
@[simp] theorem State.setSched_wires (s : State) (x : Scheduler) : (s.setSched x).wires = s.wires := rfl
@[simp] theorem State.setSched_fresh (s : State) (x : Scheduler) : (s.setSched x).fresh = s.fresh := rfl
@[simp] theorem State.setSched_pending (s : State) (x : Scheduler) : (s.setSched x).pending = s.pending := rfl

@[simp] theorem State.setComp_now (s : State) (x : Compositor) : (s.setComp x).now = s.now := rfl
@[simp] theorem State.setComp_straps (s : State) (x : Compositor) : (s.setComp x).straps = s.straps := rfl
@[simp] theorem State.setComp_outputStandard (s : State) (x : Compositor) : (s.setComp x).outputStandard = s.outputStandard := rfl
@[simp] theorem State.setComp_extPins (s : State) (x : Compositor) : (s.setComp x).extPins = s.extPins := rfl
@[simp] theorem State.setComp_cams (s : State) (x : Compositor) : (s.setComp x).cams = s.cams := rfl
@[simp] theorem State.setComp_zoneEngine (s : State) (x : Compositor) : (s.setComp x).zoneEngine = s.zoneEngine := rfl
@[simp] theorem State.setComp_ruleEngine (s : State) (x : Compositor) : (s.setComp x).ruleEngine = s.ruleEngine := rfl
@[simp] theorem State.setComp_sched (s : State) (x : Compositor) : (s.setComp x).sched = s.sched := rfl
@[simp] theorem State.setComp_comp (s : State) (x : Compositor) : (s.setComp x).comp = x := rfl
@[simp] theorem State.setComp_reports (s : State) (x : Compositor) : (s.setComp x).reports = s.reports := rfl
@[simp] theorem State.setComp_lines (s : State) (x : Compositor) : (s.setComp x).lines = s.lines := rfl
@[simp] theorem State.setComp_head (s : State) (x : Compositor) : (s.setComp x).head = s.head := rfl
@[simp] theorem State.setComp_link (s : State) (x : Compositor) : (s.setComp x).link = s.link := rfl
@[simp] theorem State.setComp_store (s : State) (x : Compositor) : (s.setComp x).store = s.store := rfl
@[simp] theorem State.setComp_wires (s : State) (x : Compositor) : (s.setComp x).wires = s.wires := rfl
@[simp] theorem State.setComp_fresh (s : State) (x : Compositor) : (s.setComp x).fresh = s.fresh := rfl
@[simp] theorem State.setComp_pending (s : State) (x : Compositor) : (s.setComp x).pending = s.pending := rfl

@[simp] theorem State.setReports_now (s : State) (x : ReportQueue) : (s.setReports x).now = s.now := rfl
@[simp] theorem State.setReports_straps (s : State) (x : ReportQueue) : (s.setReports x).straps = s.straps := rfl
@[simp] theorem State.setReports_outputStandard (s : State) (x : ReportQueue) : (s.setReports x).outputStandard = s.outputStandard := rfl
@[simp] theorem State.setReports_extPins (s : State) (x : ReportQueue) : (s.setReports x).extPins = s.extPins := rfl
@[simp] theorem State.setReports_cams (s : State) (x : ReportQueue) : (s.setReports x).cams = s.cams := rfl
@[simp] theorem State.setReports_zoneEngine (s : State) (x : ReportQueue) : (s.setReports x).zoneEngine = s.zoneEngine := rfl
@[simp] theorem State.setReports_ruleEngine (s : State) (x : ReportQueue) : (s.setReports x).ruleEngine = s.ruleEngine := rfl
@[simp] theorem State.setReports_sched (s : State) (x : ReportQueue) : (s.setReports x).sched = s.sched := rfl
@[simp] theorem State.setReports_comp (s : State) (x : ReportQueue) : (s.setReports x).comp = s.comp := rfl
@[simp] theorem State.setReports_reports (s : State) (x : ReportQueue) : (s.setReports x).reports = x := rfl
@[simp] theorem State.setReports_lines (s : State) (x : ReportQueue) : (s.setReports x).lines = s.lines := rfl
@[simp] theorem State.setReports_head (s : State) (x : ReportQueue) : (s.setReports x).head = s.head := rfl
@[simp] theorem State.setReports_link (s : State) (x : ReportQueue) : (s.setReports x).link = s.link := rfl
@[simp] theorem State.setReports_store (s : State) (x : ReportQueue) : (s.setReports x).store = s.store := rfl
@[simp] theorem State.setReports_wires (s : State) (x : ReportQueue) : (s.setReports x).wires = s.wires := rfl
@[simp] theorem State.setReports_fresh (s : State) (x : ReportQueue) : (s.setReports x).fresh = s.fresh := rfl
@[simp] theorem State.setReports_pending (s : State) (x : ReportQueue) : (s.setReports x).pending = s.pending := rfl

@[simp] theorem State.setLines_now (s : State) (x : Vector Line 8) : (s.setLines x).now = s.now := rfl
@[simp] theorem State.setLines_straps (s : State) (x : Vector Line 8) : (s.setLines x).straps = s.straps := rfl
@[simp] theorem State.setLines_outputStandard (s : State) (x : Vector Line 8) : (s.setLines x).outputStandard = s.outputStandard := rfl
@[simp] theorem State.setLines_extPins (s : State) (x : Vector Line 8) : (s.setLines x).extPins = s.extPins := rfl
@[simp] theorem State.setLines_cams (s : State) (x : Vector Line 8) : (s.setLines x).cams = s.cams := rfl
@[simp] theorem State.setLines_zoneEngine (s : State) (x : Vector Line 8) : (s.setLines x).zoneEngine = s.zoneEngine := rfl
@[simp] theorem State.setLines_ruleEngine (s : State) (x : Vector Line 8) : (s.setLines x).ruleEngine = s.ruleEngine := rfl
@[simp] theorem State.setLines_sched (s : State) (x : Vector Line 8) : (s.setLines x).sched = s.sched := rfl
@[simp] theorem State.setLines_comp (s : State) (x : Vector Line 8) : (s.setLines x).comp = s.comp := rfl
@[simp] theorem State.setLines_reports (s : State) (x : Vector Line 8) : (s.setLines x).reports = s.reports := rfl
@[simp] theorem State.setLines_lines (s : State) (x : Vector Line 8) : (s.setLines x).lines = x := rfl
@[simp] theorem State.setLines_head (s : State) (x : Vector Line 8) : (s.setLines x).head = s.head := rfl
@[simp] theorem State.setLines_link (s : State) (x : Vector Line 8) : (s.setLines x).link = s.link := rfl
@[simp] theorem State.setLines_store (s : State) (x : Vector Line 8) : (s.setLines x).store = s.store := rfl
@[simp] theorem State.setLines_wires (s : State) (x : Vector Line 8) : (s.setLines x).wires = s.wires := rfl
@[simp] theorem State.setLines_fresh (s : State) (x : Vector Line 8) : (s.setLines x).fresh = s.fresh := rfl
@[simp] theorem State.setLines_pending (s : State) (x : Vector Line 8) : (s.setLines x).pending = s.pending := rfl

@[simp] theorem State.setHead_now (s : State) (x : HeadLink) : (s.setHead x).now = s.now := rfl
@[simp] theorem State.setHead_straps (s : State) (x : HeadLink) : (s.setHead x).straps = s.straps := rfl
@[simp] theorem State.setHead_outputStandard (s : State) (x : HeadLink) : (s.setHead x).outputStandard = s.outputStandard := rfl
@[simp] theorem State.setHead_extPins (s : State) (x : HeadLink) : (s.setHead x).extPins = s.extPins := rfl
@[simp] theorem State.setHead_cams (s : State) (x : HeadLink) : (s.setHead x).cams = s.cams := rfl
@[simp] theorem State.setHead_zoneEngine (s : State) (x : HeadLink) : (s.setHead x).zoneEngine = s.zoneEngine := rfl
@[simp] theorem State.setHead_ruleEngine (s : State) (x : HeadLink) : (s.setHead x).ruleEngine = s.ruleEngine := rfl
@[simp] theorem State.setHead_sched (s : State) (x : HeadLink) : (s.setHead x).sched = s.sched := rfl
@[simp] theorem State.setHead_comp (s : State) (x : HeadLink) : (s.setHead x).comp = s.comp := rfl
@[simp] theorem State.setHead_reports (s : State) (x : HeadLink) : (s.setHead x).reports = s.reports := rfl
@[simp] theorem State.setHead_lines (s : State) (x : HeadLink) : (s.setHead x).lines = s.lines := rfl
@[simp] theorem State.setHead_head (s : State) (x : HeadLink) : (s.setHead x).head = x := rfl
@[simp] theorem State.setHead_link (s : State) (x : HeadLink) : (s.setHead x).link = s.link := rfl
@[simp] theorem State.setHead_store (s : State) (x : HeadLink) : (s.setHead x).store = s.store := rfl
@[simp] theorem State.setHead_wires (s : State) (x : HeadLink) : (s.setHead x).wires = s.wires := rfl
@[simp] theorem State.setHead_fresh (s : State) (x : HeadLink) : (s.setHead x).fresh = s.fresh := rfl
@[simp] theorem State.setHead_pending (s : State) (x : HeadLink) : (s.setHead x).pending = s.pending := rfl

@[simp] theorem State.setLink_now (s : State) (x : HostLink) : (s.setLink x).now = s.now := rfl
@[simp] theorem State.setLink_straps (s : State) (x : HostLink) : (s.setLink x).straps = s.straps := rfl
@[simp] theorem State.setLink_outputStandard (s : State) (x : HostLink) : (s.setLink x).outputStandard = s.outputStandard := rfl
@[simp] theorem State.setLink_extPins (s : State) (x : HostLink) : (s.setLink x).extPins = s.extPins := rfl
@[simp] theorem State.setLink_cams (s : State) (x : HostLink) : (s.setLink x).cams = s.cams := rfl
@[simp] theorem State.setLink_zoneEngine (s : State) (x : HostLink) : (s.setLink x).zoneEngine = s.zoneEngine := rfl
@[simp] theorem State.setLink_ruleEngine (s : State) (x : HostLink) : (s.setLink x).ruleEngine = s.ruleEngine := rfl
@[simp] theorem State.setLink_sched (s : State) (x : HostLink) : (s.setLink x).sched = s.sched := rfl
@[simp] theorem State.setLink_comp (s : State) (x : HostLink) : (s.setLink x).comp = s.comp := rfl
@[simp] theorem State.setLink_reports (s : State) (x : HostLink) : (s.setLink x).reports = s.reports := rfl
@[simp] theorem State.setLink_lines (s : State) (x : HostLink) : (s.setLink x).lines = s.lines := rfl
@[simp] theorem State.setLink_head (s : State) (x : HostLink) : (s.setLink x).head = s.head := rfl
@[simp] theorem State.setLink_link (s : State) (x : HostLink) : (s.setLink x).link = x := rfl
@[simp] theorem State.setLink_store (s : State) (x : HostLink) : (s.setLink x).store = s.store := rfl
@[simp] theorem State.setLink_wires (s : State) (x : HostLink) : (s.setLink x).wires = s.wires := rfl
@[simp] theorem State.setLink_fresh (s : State) (x : HostLink) : (s.setLink x).fresh = s.fresh := rfl
@[simp] theorem State.setLink_pending (s : State) (x : HostLink) : (s.setLink x).pending = s.pending := rfl

@[simp] theorem State.setStore_now (s : State) (x : ProfileStore) : (s.setStore x).now = s.now := rfl
@[simp] theorem State.setStore_straps (s : State) (x : ProfileStore) : (s.setStore x).straps = s.straps := rfl
@[simp] theorem State.setStore_outputStandard (s : State) (x : ProfileStore) : (s.setStore x).outputStandard = s.outputStandard := rfl
@[simp] theorem State.setStore_extPins (s : State) (x : ProfileStore) : (s.setStore x).extPins = s.extPins := rfl
@[simp] theorem State.setStore_cams (s : State) (x : ProfileStore) : (s.setStore x).cams = s.cams := rfl
@[simp] theorem State.setStore_zoneEngine (s : State) (x : ProfileStore) : (s.setStore x).zoneEngine = s.zoneEngine := rfl
@[simp] theorem State.setStore_ruleEngine (s : State) (x : ProfileStore) : (s.setStore x).ruleEngine = s.ruleEngine := rfl
@[simp] theorem State.setStore_sched (s : State) (x : ProfileStore) : (s.setStore x).sched = s.sched := rfl
@[simp] theorem State.setStore_comp (s : State) (x : ProfileStore) : (s.setStore x).comp = s.comp := rfl
@[simp] theorem State.setStore_reports (s : State) (x : ProfileStore) : (s.setStore x).reports = s.reports := rfl
@[simp] theorem State.setStore_lines (s : State) (x : ProfileStore) : (s.setStore x).lines = s.lines := rfl
@[simp] theorem State.setStore_head (s : State) (x : ProfileStore) : (s.setStore x).head = s.head := rfl
@[simp] theorem State.setStore_link (s : State) (x : ProfileStore) : (s.setStore x).link = s.link := rfl
@[simp] theorem State.setStore_store (s : State) (x : ProfileStore) : (s.setStore x).store = x := rfl
@[simp] theorem State.setStore_wires (s : State) (x : ProfileStore) : (s.setStore x).wires = s.wires := rfl
@[simp] theorem State.setStore_fresh (s : State) (x : ProfileStore) : (s.setStore x).fresh = s.fresh := rfl
@[simp] theorem State.setStore_pending (s : State) (x : ProfileStore) : (s.setStore x).pending = s.pending := rfl

@[simp] theorem State.setWires_now (s : State) (x : Wires) : (s.setWires x).now = s.now := rfl
@[simp] theorem State.setWires_straps (s : State) (x : Wires) : (s.setWires x).straps = s.straps := rfl
@[simp] theorem State.setWires_outputStandard (s : State) (x : Wires) : (s.setWires x).outputStandard = s.outputStandard := rfl
@[simp] theorem State.setWires_extPins (s : State) (x : Wires) : (s.setWires x).extPins = s.extPins := rfl
@[simp] theorem State.setWires_cams (s : State) (x : Wires) : (s.setWires x).cams = s.cams := rfl
@[simp] theorem State.setWires_zoneEngine (s : State) (x : Wires) : (s.setWires x).zoneEngine = s.zoneEngine := rfl
@[simp] theorem State.setWires_ruleEngine (s : State) (x : Wires) : (s.setWires x).ruleEngine = s.ruleEngine := rfl
@[simp] theorem State.setWires_sched (s : State) (x : Wires) : (s.setWires x).sched = s.sched := rfl
@[simp] theorem State.setWires_comp (s : State) (x : Wires) : (s.setWires x).comp = s.comp := rfl
@[simp] theorem State.setWires_reports (s : State) (x : Wires) : (s.setWires x).reports = s.reports := rfl
@[simp] theorem State.setWires_lines (s : State) (x : Wires) : (s.setWires x).lines = s.lines := rfl
@[simp] theorem State.setWires_head (s : State) (x : Wires) : (s.setWires x).head = s.head := rfl
@[simp] theorem State.setWires_link (s : State) (x : Wires) : (s.setWires x).link = s.link := rfl
@[simp] theorem State.setWires_store (s : State) (x : Wires) : (s.setWires x).store = s.store := rfl
@[simp] theorem State.setWires_wires (s : State) (x : Wires) : (s.setWires x).wires = x := rfl
@[simp] theorem State.setWires_fresh (s : State) (x : Wires) : (s.setWires x).fresh = s.fresh := rfl
@[simp] theorem State.setWires_pending (s : State) (x : Wires) : (s.setWires x).pending = s.pending := rfl

@[simp] theorem State.setFresh_now (s : State) (x : Nat) : (s.setFresh x).now = s.now := rfl
@[simp] theorem State.setFresh_straps (s : State) (x : Nat) : (s.setFresh x).straps = s.straps := rfl
@[simp] theorem State.setFresh_outputStandard (s : State) (x : Nat) : (s.setFresh x).outputStandard = s.outputStandard := rfl
@[simp] theorem State.setFresh_extPins (s : State) (x : Nat) : (s.setFresh x).extPins = s.extPins := rfl
@[simp] theorem State.setFresh_cams (s : State) (x : Nat) : (s.setFresh x).cams = s.cams := rfl
@[simp] theorem State.setFresh_zoneEngine (s : State) (x : Nat) : (s.setFresh x).zoneEngine = s.zoneEngine := rfl
@[simp] theorem State.setFresh_ruleEngine (s : State) (x : Nat) : (s.setFresh x).ruleEngine = s.ruleEngine := rfl
@[simp] theorem State.setFresh_sched (s : State) (x : Nat) : (s.setFresh x).sched = s.sched := rfl
@[simp] theorem State.setFresh_comp (s : State) (x : Nat) : (s.setFresh x).comp = s.comp := rfl
@[simp] theorem State.setFresh_reports (s : State) (x : Nat) : (s.setFresh x).reports = s.reports := rfl
@[simp] theorem State.setFresh_lines (s : State) (x : Nat) : (s.setFresh x).lines = s.lines := rfl
@[simp] theorem State.setFresh_head (s : State) (x : Nat) : (s.setFresh x).head = s.head := rfl
@[simp] theorem State.setFresh_link (s : State) (x : Nat) : (s.setFresh x).link = s.link := rfl
@[simp] theorem State.setFresh_store (s : State) (x : Nat) : (s.setFresh x).store = s.store := rfl
@[simp] theorem State.setFresh_wires (s : State) (x : Nat) : (s.setFresh x).wires = s.wires := rfl
@[simp] theorem State.setFresh_fresh (s : State) (x : Nat) : (s.setFresh x).fresh = x := rfl
@[simp] theorem State.setFresh_pending (s : State) (x : Nat) : (s.setFresh x).pending = s.pending := rfl

@[simp] theorem State.setPending_now (s : State) (x : List Instr) : (s.setPending x).now = s.now := rfl
@[simp] theorem State.setPending_straps (s : State) (x : List Instr) : (s.setPending x).straps = s.straps := rfl
@[simp] theorem State.setPending_outputStandard (s : State) (x : List Instr) : (s.setPending x).outputStandard = s.outputStandard := rfl
@[simp] theorem State.setPending_extPins (s : State) (x : List Instr) : (s.setPending x).extPins = s.extPins := rfl
@[simp] theorem State.setPending_cams (s : State) (x : List Instr) : (s.setPending x).cams = s.cams := rfl
@[simp] theorem State.setPending_zoneEngine (s : State) (x : List Instr) : (s.setPending x).zoneEngine = s.zoneEngine := rfl
@[simp] theorem State.setPending_ruleEngine (s : State) (x : List Instr) : (s.setPending x).ruleEngine = s.ruleEngine := rfl
@[simp] theorem State.setPending_sched (s : State) (x : List Instr) : (s.setPending x).sched = s.sched := rfl
@[simp] theorem State.setPending_comp (s : State) (x : List Instr) : (s.setPending x).comp = s.comp := rfl
@[simp] theorem State.setPending_reports (s : State) (x : List Instr) : (s.setPending x).reports = s.reports := rfl
@[simp] theorem State.setPending_lines (s : State) (x : List Instr) : (s.setPending x).lines = s.lines := rfl
@[simp] theorem State.setPending_head (s : State) (x : List Instr) : (s.setPending x).head = s.head := rfl
@[simp] theorem State.setPending_link (s : State) (x : List Instr) : (s.setPending x).link = s.link := rfl
@[simp] theorem State.setPending_store (s : State) (x : List Instr) : (s.setPending x).store = s.store := rfl
@[simp] theorem State.setPending_wires (s : State) (x : List Instr) : (s.setPending x).wires = s.wires := rfl
@[simp] theorem State.setPending_fresh (s : State) (x : List Instr) : (s.setPending x).fresh = s.fresh := rfl
@[simp] theorem State.setPending_pending (s : State) (x : List Instr) : (s.setPending x).pending = x := rfl

@[simp] theorem State.setCam_now (s : State) (c : CameraId) (x : Camera) : (s.setCam c x).now = s.now := rfl
@[simp] theorem State.setCam_straps (s : State) (c : CameraId) (x : Camera) : (s.setCam c x).straps =
    s.straps := rfl
@[simp] theorem State.setCam_outputStandard (s : State) (c : CameraId) (x : Camera) : (s.setCam c x).outputStandard =
    s.outputStandard := rfl
@[simp] theorem State.setCam_extPins (s : State) (c : CameraId) (x : Camera) : (s.setCam c x).extPins =
    s.extPins := rfl
@[simp] theorem State.setCam_cams (s : State) (c : CameraId) (x : Camera) : (s.setCam c x).cams =
    upd s.cams c x := rfl
@[simp] theorem State.setCam_zoneEngine (s : State) (c : CameraId) (x : Camera) : (s.setCam c x).zoneEngine =
    s.zoneEngine := rfl
@[simp] theorem State.setCam_ruleEngine (s : State) (c : CameraId) (x : Camera) : (s.setCam c x).ruleEngine =
    s.ruleEngine := rfl
@[simp] theorem State.setCam_sched (s : State) (c : CameraId) (x : Camera) : (s.setCam c x).sched = s.sched := rfl
@[simp] theorem State.setCam_comp (s : State) (c : CameraId) (x : Camera) : (s.setCam c x).comp = s.comp := rfl
@[simp] theorem State.setCam_reports (s : State) (c : CameraId) (x : Camera) : (s.setCam c x).reports =
    s.reports := rfl
@[simp] theorem State.setCam_lines (s : State) (c : CameraId) (x : Camera) : (s.setCam c x).lines = s.lines := rfl
@[simp] theorem State.setCam_head (s : State) (c : CameraId) (x : Camera) : (s.setCam c x).head = s.head := rfl
@[simp] theorem State.setCam_link (s : State) (c : CameraId) (x : Camera) : (s.setCam c x).link = s.link := rfl
@[simp] theorem State.setCam_store (s : State) (c : CameraId) (x : Camera) : (s.setCam c x).store = s.store := rfl
@[simp] theorem State.setCam_wires (s : State) (c : CameraId) (x : Camera) : (s.setCam c x).wires = s.wires := rfl
@[simp] theorem State.setCam_fresh (s : State) (c : CameraId) (x : Camera) : (s.setCam c x).fresh = s.fresh := rfl
@[simp] theorem State.setCam_pending (s : State) (c : CameraId) (x : Camera) : (s.setCam c x).pending =
    s.pending := rfl

@[simp] theorem State.setZone_now (s : State) (z : ZoneId) (x : Option Zone) : (s.setZone z x).now = s.now := rfl
@[simp] theorem State.setZone_straps (s : State) (z : ZoneId) (x : Option Zone) : (s.setZone z x).straps =
    s.straps := rfl
@[simp] theorem State.setZone_outputStandard (s : State) (z : ZoneId) (x : Option Zone) : (s.setZone z x).outputStandard =
    s.outputStandard := rfl
@[simp] theorem State.setZone_extPins (s : State) (z : ZoneId) (x : Option Zone) : (s.setZone z x).extPins =
    s.extPins := rfl
@[simp] theorem State.setZone_cams (s : State) (z : ZoneId) (x : Option Zone) : (s.setZone z x).cams = s.cams := rfl
@[simp] theorem State.setZone_zoneEngine (s : State) (z : ZoneId) (x : Option Zone) : (s.setZone z x).zoneEngine =
    { s.zoneEngine with table := upd s.zoneEngine.table z x } := rfl
@[simp] theorem State.setZone_ruleEngine (s : State) (z : ZoneId) (x : Option Zone) : (s.setZone z x).ruleEngine =
    s.ruleEngine := rfl
@[simp] theorem State.setZone_sched (s : State) (z : ZoneId) (x : Option Zone) : (s.setZone z x).sched =
    s.sched := rfl
@[simp] theorem State.setZone_comp (s : State) (z : ZoneId) (x : Option Zone) : (s.setZone z x).comp = s.comp := rfl
@[simp] theorem State.setZone_reports (s : State) (z : ZoneId) (x : Option Zone) : (s.setZone z x).reports =
    s.reports := rfl
@[simp] theorem State.setZone_lines (s : State) (z : ZoneId) (x : Option Zone) : (s.setZone z x).lines =
    s.lines := rfl
@[simp] theorem State.setZone_head (s : State) (z : ZoneId) (x : Option Zone) : (s.setZone z x).head = s.head := rfl
@[simp] theorem State.setZone_link (s : State) (z : ZoneId) (x : Option Zone) : (s.setZone z x).link = s.link := rfl
@[simp] theorem State.setZone_store (s : State) (z : ZoneId) (x : Option Zone) : (s.setZone z x).store =
    s.store := rfl
@[simp] theorem State.setZone_wires (s : State) (z : ZoneId) (x : Option Zone) : (s.setZone z x).wires =
    s.wires := rfl
@[simp] theorem State.setZone_fresh (s : State) (z : ZoneId) (x : Option Zone) : (s.setZone z x).fresh =
    s.fresh := rfl
@[simp] theorem State.setZone_pending (s : State) (z : ZoneId) (x : Option Zone) : (s.setZone z x).pending =
    s.pending := rfl

@[simp] theorem State.setRule_now (s : State) (r : RuleId) (x : Option Rule) : (s.setRule r x).now = s.now := rfl
@[simp] theorem State.setRule_straps (s : State) (r : RuleId) (x : Option Rule) : (s.setRule r x).straps =
    s.straps := rfl
@[simp] theorem State.setRule_outputStandard (s : State) (r : RuleId) (x : Option Rule) : (s.setRule r x).outputStandard =
    s.outputStandard := rfl
@[simp] theorem State.setRule_extPins (s : State) (r : RuleId) (x : Option Rule) : (s.setRule r x).extPins =
    s.extPins := rfl
@[simp] theorem State.setRule_cams (s : State) (r : RuleId) (x : Option Rule) : (s.setRule r x).cams = s.cams := rfl
@[simp] theorem State.setRule_zoneEngine (s : State) (r : RuleId) (x : Option Rule) : (s.setRule r x).zoneEngine =
    s.zoneEngine := rfl
@[simp] theorem State.setRule_ruleEngine (s : State) (r : RuleId) (x : Option Rule) : (s.setRule r x).ruleEngine =
    { s.ruleEngine with table := upd s.ruleEngine.table r x } := rfl
@[simp] theorem State.setRule_sched (s : State) (r : RuleId) (x : Option Rule) : (s.setRule r x).sched =
    s.sched := rfl
@[simp] theorem State.setRule_comp (s : State) (r : RuleId) (x : Option Rule) : (s.setRule r x).comp = s.comp := rfl
@[simp] theorem State.setRule_reports (s : State) (r : RuleId) (x : Option Rule) : (s.setRule r x).reports =
    s.reports := rfl
@[simp] theorem State.setRule_lines (s : State) (r : RuleId) (x : Option Rule) : (s.setRule r x).lines =
    s.lines := rfl
@[simp] theorem State.setRule_head (s : State) (r : RuleId) (x : Option Rule) : (s.setRule r x).head = s.head := rfl
@[simp] theorem State.setRule_link (s : State) (r : RuleId) (x : Option Rule) : (s.setRule r x).link = s.link := rfl
@[simp] theorem State.setRule_store (s : State) (r : RuleId) (x : Option Rule) : (s.setRule r x).store =
    s.store := rfl
@[simp] theorem State.setRule_wires (s : State) (r : RuleId) (x : Option Rule) : (s.setRule r x).wires =
    s.wires := rfl
@[simp] theorem State.setRule_fresh (s : State) (r : RuleId) (x : Option Rule) : (s.setRule r x).fresh =
    s.fresh := rfl
@[simp] theorem State.setRule_pending (s : State) (r : RuleId) (x : Option Rule) : (s.setRule r x).pending =
    s.pending := rfl

@[simp] theorem State.setLine_now (s : State) (l : LineId) (x : Line) : (s.setLine l x).now = s.now := rfl
@[simp] theorem State.setLine_straps (s : State) (l : LineId) (x : Line) : (s.setLine l x).straps = s.straps := rfl
@[simp] theorem State.setLine_outputStandard (s : State) (l : LineId) (x : Line) : (s.setLine l x).outputStandard =
    s.outputStandard := rfl
@[simp] theorem State.setLine_extPins (s : State) (l : LineId) (x : Line) : (s.setLine l x).extPins =
    s.extPins := rfl
@[simp] theorem State.setLine_cams (s : State) (l : LineId) (x : Line) : (s.setLine l x).cams = s.cams := rfl
@[simp] theorem State.setLine_zoneEngine (s : State) (l : LineId) (x : Line) : (s.setLine l x).zoneEngine =
    s.zoneEngine := rfl
@[simp] theorem State.setLine_ruleEngine (s : State) (l : LineId) (x : Line) : (s.setLine l x).ruleEngine =
    s.ruleEngine := rfl
@[simp] theorem State.setLine_sched (s : State) (l : LineId) (x : Line) : (s.setLine l x).sched = s.sched := rfl
@[simp] theorem State.setLine_comp (s : State) (l : LineId) (x : Line) : (s.setLine l x).comp = s.comp := rfl
@[simp] theorem State.setLine_reports (s : State) (l : LineId) (x : Line) : (s.setLine l x).reports =
    s.reports := rfl
@[simp] theorem State.setLine_lines (s : State) (l : LineId) (x : Line) : (s.setLine l x).lines =
    upd s.lines l x := rfl
@[simp] theorem State.setLine_head (s : State) (l : LineId) (x : Line) : (s.setLine l x).head = s.head := rfl
@[simp] theorem State.setLine_link (s : State) (l : LineId) (x : Line) : (s.setLine l x).link = s.link := rfl
@[simp] theorem State.setLine_store (s : State) (l : LineId) (x : Line) : (s.setLine l x).store = s.store := rfl
@[simp] theorem State.setLine_wires (s : State) (l : LineId) (x : Line) : (s.setLine l x).wires = s.wires := rfl
@[simp] theorem State.setLine_fresh (s : State) (l : LineId) (x : Line) : (s.setLine l x).fresh = s.fresh := rfl
@[simp] theorem State.setLine_pending (s : State) (l : LineId) (x : Line) : (s.setLine l x).pending =
    s.pending := rfl

@[simp] theorem State.offer_now (s : State) (r : Report) : (s.offer r).now = s.now := rfl
@[simp] theorem State.offer_straps (s : State) (r : Report) : (s.offer r).straps = s.straps := rfl
@[simp] theorem State.offer_outputStandard (s : State) (r : Report) : (s.offer r).outputStandard =
    s.outputStandard := rfl
@[simp] theorem State.offer_extPins (s : State) (r : Report) : (s.offer r).extPins = s.extPins := rfl
@[simp] theorem State.offer_cams (s : State) (r : Report) : (s.offer r).cams = s.cams := rfl
@[simp] theorem State.offer_zoneEngine (s : State) (r : Report) : (s.offer r).zoneEngine = s.zoneEngine := rfl
@[simp] theorem State.offer_ruleEngine (s : State) (r : Report) : (s.offer r).ruleEngine = s.ruleEngine := rfl
@[simp] theorem State.offer_sched (s : State) (r : Report) : (s.offer r).sched = s.sched := rfl
@[simp] theorem State.offer_comp (s : State) (r : Report) : (s.offer r).comp = s.comp := rfl
@[simp] theorem State.offer_reports (s : State) (r : Report) : (s.offer r).reports = s.reports := rfl
@[simp] theorem State.offer_lines (s : State) (r : Report) : (s.offer r).lines = s.lines := rfl
@[simp] theorem State.offer_head (s : State) (r : Report) : (s.offer r).head = s.head := rfl
@[simp] theorem State.offer_link (s : State) (r : Report) : (s.offer r).link = s.link := rfl
@[simp] theorem State.offer_store (s : State) (r : Report) : (s.offer r).store = s.store := rfl
@[simp] theorem State.offer_wires (s : State) (r : Report) : (s.offer r).wires =
    { s.wires with offers := s.wires.offers ++ [r] } := rfl
@[simp] theorem State.offer_fresh (s : State) (r : Report) : (s.offer r).fresh = s.fresh := rfl
@[simp] theorem State.offer_pending (s : State) (r : Report) : (s.offer r).pending = s.pending := rfl

@[simp] theorem State.tellZones_now (s : State) (c : CameraId) (m : CameraMessage) : (s.tellZones c m).now =
    s.now := rfl
@[simp] theorem State.tellZones_straps (s : State) (c : CameraId) (m : CameraMessage) : (s.tellZones c m).straps =
    s.straps := rfl
@[simp] theorem State.tellZones_outputStandard (s : State) (c : CameraId) (m : CameraMessage) : (s.tellZones c m).outputStandard =
    s.outputStandard := rfl
@[simp] theorem State.tellZones_extPins (s : State) (c : CameraId) (m : CameraMessage) : (s.tellZones c m).extPins =
    s.extPins := rfl
@[simp] theorem State.tellZones_cams (s : State) (c : CameraId) (m : CameraMessage) : (s.tellZones c m).cams =
    s.cams := rfl
@[simp] theorem State.tellZones_zoneEngine (s : State) (c : CameraId) (m : CameraMessage) : (s.tellZones c m).zoneEngine =
    s.zoneEngine := rfl
@[simp] theorem State.tellZones_ruleEngine (s : State) (c : CameraId) (m : CameraMessage) : (s.tellZones c m).ruleEngine =
    s.ruleEngine := rfl
@[simp] theorem State.tellZones_sched (s : State) (c : CameraId) (m : CameraMessage) : (s.tellZones c m).sched =
    s.sched := rfl
@[simp] theorem State.tellZones_comp (s : State) (c : CameraId) (m : CameraMessage) : (s.tellZones c m).comp =
    s.comp := rfl
@[simp] theorem State.tellZones_reports (s : State) (c : CameraId) (m : CameraMessage) : (s.tellZones c m).reports =
    s.reports := rfl
@[simp] theorem State.tellZones_lines (s : State) (c : CameraId) (m : CameraMessage) : (s.tellZones c m).lines =
    s.lines := rfl
@[simp] theorem State.tellZones_head (s : State) (c : CameraId) (m : CameraMessage) : (s.tellZones c m).head =
    s.head := rfl
@[simp] theorem State.tellZones_link (s : State) (c : CameraId) (m : CameraMessage) : (s.tellZones c m).link =
    s.link := rfl
@[simp] theorem State.tellZones_store (s : State) (c : CameraId) (m : CameraMessage) : (s.tellZones c m).store =
    s.store := rfl
@[simp] theorem State.tellZones_wires (s : State) (c : CameraId) (m : CameraMessage) : (s.tellZones c m).wires =
    { s.wires with camToZones := upd s.wires.camToZones c (s.wires.camToZones.get c ++ [m]) } := rfl
@[simp] theorem State.tellZones_fresh (s : State) (c : CameraId) (m : CameraMessage) : (s.tellZones c m).fresh =
    s.fresh := rfl
@[simp] theorem State.tellZones_pending (s : State) (c : CameraId) (m : CameraMessage) : (s.tellZones c m).pending =
    s.pending := rfl

@[simp] theorem State.tellSched_now (s : State) (c : CameraId) (n : CameraNotice) : (s.tellSched c n).now =
    s.now := rfl
@[simp] theorem State.tellSched_straps (s : State) (c : CameraId) (n : CameraNotice) : (s.tellSched c n).straps =
    s.straps := rfl
@[simp] theorem State.tellSched_outputStandard (s : State) (c : CameraId) (n : CameraNotice) : (s.tellSched c n).outputStandard =
    s.outputStandard := rfl
@[simp] theorem State.tellSched_extPins (s : State) (c : CameraId) (n : CameraNotice) : (s.tellSched c n).extPins =
    s.extPins := rfl
@[simp] theorem State.tellSched_cams (s : State) (c : CameraId) (n : CameraNotice) : (s.tellSched c n).cams =
    s.cams := rfl
@[simp] theorem State.tellSched_zoneEngine (s : State) (c : CameraId) (n : CameraNotice) : (s.tellSched c n).zoneEngine =
    s.zoneEngine := rfl
@[simp] theorem State.tellSched_ruleEngine (s : State) (c : CameraId) (n : CameraNotice) : (s.tellSched c n).ruleEngine =
    s.ruleEngine := rfl
@[simp] theorem State.tellSched_sched (s : State) (c : CameraId) (n : CameraNotice) : (s.tellSched c n).sched =
    s.sched := rfl
@[simp] theorem State.tellSched_comp (s : State) (c : CameraId) (n : CameraNotice) : (s.tellSched c n).comp =
    s.comp := rfl
@[simp] theorem State.tellSched_reports (s : State) (c : CameraId) (n : CameraNotice) : (s.tellSched c n).reports =
    s.reports := rfl
@[simp] theorem State.tellSched_lines (s : State) (c : CameraId) (n : CameraNotice) : (s.tellSched c n).lines =
    s.lines := rfl
@[simp] theorem State.tellSched_head (s : State) (c : CameraId) (n : CameraNotice) : (s.tellSched c n).head =
    s.head := rfl
@[simp] theorem State.tellSched_link (s : State) (c : CameraId) (n : CameraNotice) : (s.tellSched c n).link =
    s.link := rfl
@[simp] theorem State.tellSched_store (s : State) (c : CameraId) (n : CameraNotice) : (s.tellSched c n).store =
    s.store := rfl
@[simp] theorem State.tellSched_wires (s : State) (c : CameraId) (n : CameraNotice) : (s.tellSched c n).wires =
    { s.wires with camToSched := upd s.wires.camToSched c (s.wires.camToSched.get c ++ [n]) } := rfl
@[simp] theorem State.tellSched_fresh (s : State) (c : CameraId) (n : CameraNotice) : (s.tellSched c n).fresh =
    s.fresh := rfl
@[simp] theorem State.tellSched_pending (s : State) (c : CameraId) (n : CameraNotice) : (s.tellSched c n).pending =
    s.pending := rfl

@[simp] theorem State.tellRules_now (s : State) (m : ZoneMessage) : (s.tellRules m).now = s.now := rfl
@[simp] theorem State.tellRules_straps (s : State) (m : ZoneMessage) : (s.tellRules m).straps = s.straps := rfl
@[simp] theorem State.tellRules_outputStandard (s : State) (m : ZoneMessage) : (s.tellRules m).outputStandard =
    s.outputStandard := rfl
@[simp] theorem State.tellRules_extPins (s : State) (m : ZoneMessage) : (s.tellRules m).extPins = s.extPins := rfl
@[simp] theorem State.tellRules_cams (s : State) (m : ZoneMessage) : (s.tellRules m).cams = s.cams := rfl
@[simp] theorem State.tellRules_zoneEngine (s : State) (m : ZoneMessage) : (s.tellRules m).zoneEngine =
    s.zoneEngine := rfl
@[simp] theorem State.tellRules_ruleEngine (s : State) (m : ZoneMessage) : (s.tellRules m).ruleEngine =
    s.ruleEngine := rfl
@[simp] theorem State.tellRules_sched (s : State) (m : ZoneMessage) : (s.tellRules m).sched = s.sched := rfl
@[simp] theorem State.tellRules_comp (s : State) (m : ZoneMessage) : (s.tellRules m).comp = s.comp := rfl
@[simp] theorem State.tellRules_reports (s : State) (m : ZoneMessage) : (s.tellRules m).reports = s.reports := rfl
@[simp] theorem State.tellRules_lines (s : State) (m : ZoneMessage) : (s.tellRules m).lines = s.lines := rfl
@[simp] theorem State.tellRules_head (s : State) (m : ZoneMessage) : (s.tellRules m).head = s.head := rfl
@[simp] theorem State.tellRules_link (s : State) (m : ZoneMessage) : (s.tellRules m).link = s.link := rfl
@[simp] theorem State.tellRules_store (s : State) (m : ZoneMessage) : (s.tellRules m).store = s.store := rfl
@[simp] theorem State.tellRules_wires (s : State) (m : ZoneMessage) : (s.tellRules m).wires =
    { s.wires with zonesToRules := s.wires.zonesToRules ++ [m] } := rfl
@[simp] theorem State.tellRules_fresh (s : State) (m : ZoneMessage) : (s.tellRules m).fresh = s.fresh := rfl
@[simp] theorem State.tellRules_pending (s : State) (m : ZoneMessage) : (s.tellRules m).pending = s.pending := rfl

@[simp] theorem State.tellLine_now (s : State) (t : LineChange) : (s.tellLine t).now = s.now := rfl
@[simp] theorem State.tellLine_straps (s : State) (t : LineChange) : (s.tellLine t).straps = s.straps := rfl
@[simp] theorem State.tellLine_outputStandard (s : State) (t : LineChange) : (s.tellLine t).outputStandard =
    s.outputStandard := rfl
@[simp] theorem State.tellLine_extPins (s : State) (t : LineChange) : (s.tellLine t).extPins = s.extPins := rfl
@[simp] theorem State.tellLine_cams (s : State) (t : LineChange) : (s.tellLine t).cams = s.cams := rfl
@[simp] theorem State.tellLine_zoneEngine (s : State) (t : LineChange) : (s.tellLine t).zoneEngine =
    s.zoneEngine := rfl
@[simp] theorem State.tellLine_ruleEngine (s : State) (t : LineChange) : (s.tellLine t).ruleEngine =
    s.ruleEngine := rfl
@[simp] theorem State.tellLine_sched (s : State) (t : LineChange) : (s.tellLine t).sched = s.sched := rfl
@[simp] theorem State.tellLine_comp (s : State) (t : LineChange) : (s.tellLine t).comp = s.comp := rfl
@[simp] theorem State.tellLine_reports (s : State) (t : LineChange) : (s.tellLine t).reports = s.reports := rfl
@[simp] theorem State.tellLine_lines (s : State) (t : LineChange) : (s.tellLine t).lines = s.lines := rfl
@[simp] theorem State.tellLine_head (s : State) (t : LineChange) : (s.tellLine t).head = s.head := rfl
@[simp] theorem State.tellLine_link (s : State) (t : LineChange) : (s.tellLine t).link = s.link := rfl
@[simp] theorem State.tellLine_store (s : State) (t : LineChange) : (s.tellLine t).store = s.store := rfl
@[simp] theorem State.tellLine_wires (s : State) (t : LineChange) : (s.tellLine t).wires =
    { s.wires with linesToRules := upd s.wires.linesToRules t.line (s.wires.linesToRules.get t.line ++ [t]) } := rfl
@[simp] theorem State.tellLine_fresh (s : State) (t : LineChange) : (s.tellLine t).fresh = s.fresh := rfl
@[simp] theorem State.tellLine_pending (s : State) (t : LineChange) : (s.tellLine t).pending = s.pending := rfl

@[simp] theorem State.sendRequest_now (s : State) (q : ViewRequest) : (s.sendRequest q).now = s.now := rfl
@[simp] theorem State.sendRequest_straps (s : State) (q : ViewRequest) : (s.sendRequest q).straps = s.straps := rfl
@[simp] theorem State.sendRequest_outputStandard (s : State) (q : ViewRequest) : (s.sendRequest q).outputStandard =
    s.outputStandard := rfl
@[simp] theorem State.sendRequest_extPins (s : State) (q : ViewRequest) : (s.sendRequest q).extPins =
    s.extPins := rfl
@[simp] theorem State.sendRequest_cams (s : State) (q : ViewRequest) : (s.sendRequest q).cams = s.cams := rfl
@[simp] theorem State.sendRequest_zoneEngine (s : State) (q : ViewRequest) : (s.sendRequest q).zoneEngine =
    s.zoneEngine := rfl
@[simp] theorem State.sendRequest_ruleEngine (s : State) (q : ViewRequest) : (s.sendRequest q).ruleEngine =
    s.ruleEngine := rfl
@[simp] theorem State.sendRequest_sched (s : State) (q : ViewRequest) : (s.sendRequest q).sched = s.sched := rfl
@[simp] theorem State.sendRequest_comp (s : State) (q : ViewRequest) : (s.sendRequest q).comp = s.comp := rfl
@[simp] theorem State.sendRequest_reports (s : State) (q : ViewRequest) : (s.sendRequest q).reports =
    s.reports := rfl
@[simp] theorem State.sendRequest_lines (s : State) (q : ViewRequest) : (s.sendRequest q).lines = s.lines := rfl
@[simp] theorem State.sendRequest_head (s : State) (q : ViewRequest) : (s.sendRequest q).head = s.head := rfl
@[simp] theorem State.sendRequest_link (s : State) (q : ViewRequest) : (s.sendRequest q).link = s.link := rfl
@[simp] theorem State.sendRequest_store (s : State) (q : ViewRequest) : (s.sendRequest q).store = s.store := rfl
@[simp] theorem State.sendRequest_wires (s : State) (q : ViewRequest) : (s.sendRequest q).wires =
    { s.wires with requests := s.wires.requests ++ [q] } := rfl
@[simp] theorem State.sendRequest_fresh (s : State) (q : ViewRequest) : (s.sendRequest q).fresh = s.fresh := rfl
@[simp] theorem State.sendRequest_pending (s : State) (q : ViewRequest) : (s.sendRequest q).pending =
    s.pending := rfl

@[simp] theorem State.sendWithdrawal_now (s : State) (o : Origin) : (s.sendWithdrawal o).now = s.now := rfl
@[simp] theorem State.sendWithdrawal_straps (s : State) (o : Origin) : (s.sendWithdrawal o).straps = s.straps := rfl
@[simp] theorem State.sendWithdrawal_outputStandard (s : State) (o : Origin) : (s.sendWithdrawal o).outputStandard =
    s.outputStandard := rfl
@[simp] theorem State.sendWithdrawal_extPins (s : State) (o : Origin) : (s.sendWithdrawal o).extPins =
    s.extPins := rfl
@[simp] theorem State.sendWithdrawal_cams (s : State) (o : Origin) : (s.sendWithdrawal o).cams = s.cams := rfl
@[simp] theorem State.sendWithdrawal_zoneEngine (s : State) (o : Origin) : (s.sendWithdrawal o).zoneEngine =
    s.zoneEngine := rfl
@[simp] theorem State.sendWithdrawal_ruleEngine (s : State) (o : Origin) : (s.sendWithdrawal o).ruleEngine =
    s.ruleEngine := rfl
@[simp] theorem State.sendWithdrawal_sched (s : State) (o : Origin) : (s.sendWithdrawal o).sched = s.sched := rfl
@[simp] theorem State.sendWithdrawal_comp (s : State) (o : Origin) : (s.sendWithdrawal o).comp = s.comp := rfl
@[simp] theorem State.sendWithdrawal_reports (s : State) (o : Origin) : (s.sendWithdrawal o).reports =
    s.reports := rfl
@[simp] theorem State.sendWithdrawal_lines (s : State) (o : Origin) : (s.sendWithdrawal o).lines = s.lines := rfl
@[simp] theorem State.sendWithdrawal_head (s : State) (o : Origin) : (s.sendWithdrawal o).head = s.head := rfl
@[simp] theorem State.sendWithdrawal_link (s : State) (o : Origin) : (s.sendWithdrawal o).link = s.link := rfl
@[simp] theorem State.sendWithdrawal_store (s : State) (o : Origin) : (s.sendWithdrawal o).store = s.store := rfl
@[simp] theorem State.sendWithdrawal_wires (s : State) (o : Origin) : (s.sendWithdrawal o).wires =
    { s.wires with withdrawals := s.wires.withdrawals ++ [o] } := rfl
@[simp] theorem State.sendWithdrawal_fresh (s : State) (o : Origin) : (s.sendWithdrawal o).fresh = s.fresh := rfl
@[simp] theorem State.sendWithdrawal_pending (s : State) (o : Origin) : (s.sendWithdrawal o).pending =
    s.pending := rfl

@[simp] theorem State.sendClaim_now (s : State) (x : Claim) : (s.sendClaim x).now = s.now := rfl
@[simp] theorem State.sendClaim_straps (s : State) (x : Claim) : (s.sendClaim x).straps = s.straps := rfl
@[simp] theorem State.sendClaim_outputStandard (s : State) (x : Claim) : (s.sendClaim x).outputStandard =
    s.outputStandard := rfl
@[simp] theorem State.sendClaim_extPins (s : State) (x : Claim) : (s.sendClaim x).extPins = s.extPins := rfl
@[simp] theorem State.sendClaim_cams (s : State) (x : Claim) : (s.sendClaim x).cams = s.cams := rfl
@[simp] theorem State.sendClaim_zoneEngine (s : State) (x : Claim) : (s.sendClaim x).zoneEngine =
    s.zoneEngine := rfl
@[simp] theorem State.sendClaim_ruleEngine (s : State) (x : Claim) : (s.sendClaim x).ruleEngine =
    s.ruleEngine := rfl
@[simp] theorem State.sendClaim_sched (s : State) (x : Claim) : (s.sendClaim x).sched = s.sched := rfl
@[simp] theorem State.sendClaim_comp (s : State) (x : Claim) : (s.sendClaim x).comp = s.comp := rfl
@[simp] theorem State.sendClaim_reports (s : State) (x : Claim) : (s.sendClaim x).reports = s.reports := rfl
@[simp] theorem State.sendClaim_lines (s : State) (x : Claim) : (s.sendClaim x).lines = s.lines := rfl
@[simp] theorem State.sendClaim_head (s : State) (x : Claim) : (s.sendClaim x).head = s.head := rfl
@[simp] theorem State.sendClaim_link (s : State) (x : Claim) : (s.sendClaim x).link = s.link := rfl
@[simp] theorem State.sendClaim_store (s : State) (x : Claim) : (s.sendClaim x).store = s.store := rfl
@[simp] theorem State.sendClaim_wires (s : State) (x : Claim) : (s.sendClaim x).wires =
    { s.wires with claims := s.wires.claims ++ [x] } := rfl
@[simp] theorem State.sendClaim_fresh (s : State) (x : Claim) : (s.sendClaim x).fresh = s.fresh := rfl
@[simp] theorem State.sendClaim_pending (s : State) (x : Claim) : (s.sendClaim x).pending = s.pending := rfl

@[simp] theorem State.sendRecall_now (s : State) (r : Recall) : (s.sendRecall r).now = s.now := rfl
@[simp] theorem State.sendRecall_straps (s : State) (r : Recall) : (s.sendRecall r).straps = s.straps := rfl
@[simp] theorem State.sendRecall_outputStandard (s : State) (r : Recall) : (s.sendRecall r).outputStandard =
    s.outputStandard := rfl
@[simp] theorem State.sendRecall_extPins (s : State) (r : Recall) : (s.sendRecall r).extPins = s.extPins := rfl
@[simp] theorem State.sendRecall_cams (s : State) (r : Recall) : (s.sendRecall r).cams = s.cams := rfl
@[simp] theorem State.sendRecall_zoneEngine (s : State) (r : Recall) : (s.sendRecall r).zoneEngine =
    s.zoneEngine := rfl
@[simp] theorem State.sendRecall_ruleEngine (s : State) (r : Recall) : (s.sendRecall r).ruleEngine =
    s.ruleEngine := rfl
@[simp] theorem State.sendRecall_sched (s : State) (r : Recall) : (s.sendRecall r).sched = s.sched := rfl
@[simp] theorem State.sendRecall_comp (s : State) (r : Recall) : (s.sendRecall r).comp = s.comp := rfl
@[simp] theorem State.sendRecall_reports (s : State) (r : Recall) : (s.sendRecall r).reports = s.reports := rfl
@[simp] theorem State.sendRecall_lines (s : State) (r : Recall) : (s.sendRecall r).lines = s.lines := rfl
@[simp] theorem State.sendRecall_head (s : State) (r : Recall) : (s.sendRecall r).head = s.head := rfl
@[simp] theorem State.sendRecall_link (s : State) (r : Recall) : (s.sendRecall r).link = s.link := rfl
@[simp] theorem State.sendRecall_store (s : State) (r : Recall) : (s.sendRecall r).store = s.store := rfl
@[simp] theorem State.sendRecall_wires (s : State) (r : Recall) : (s.sendRecall r).wires =
    { s.wires with recalls := s.wires.recalls ++ [r] } := rfl
@[simp] theorem State.sendRecall_fresh (s : State) (r : Recall) : (s.sendRecall r).fresh = s.fresh := rfl
@[simp] theorem State.sendRecall_pending (s : State) (r : Recall) : (s.sendRecall r).pending = s.pending := rfl

@[simp] theorem State.sendPresentation_now (s : State) (p : Presentation) : (s.sendPresentation p).now =
    s.now := rfl
@[simp] theorem State.sendPresentation_straps (s : State) (p : Presentation) : (s.sendPresentation p).straps =
    s.straps := rfl
@[simp] theorem State.sendPresentation_outputStandard (s : State) (p : Presentation) : (s.sendPresentation p).outputStandard =
    s.outputStandard := rfl
@[simp] theorem State.sendPresentation_extPins (s : State) (p : Presentation) : (s.sendPresentation p).extPins =
    s.extPins := rfl
@[simp] theorem State.sendPresentation_cams (s : State) (p : Presentation) : (s.sendPresentation p).cams =
    s.cams := rfl
@[simp] theorem State.sendPresentation_zoneEngine (s : State) (p : Presentation) : (s.sendPresentation p).zoneEngine =
    s.zoneEngine := rfl
@[simp] theorem State.sendPresentation_ruleEngine (s : State) (p : Presentation) : (s.sendPresentation p).ruleEngine =
    s.ruleEngine := rfl
@[simp] theorem State.sendPresentation_sched (s : State) (p : Presentation) : (s.sendPresentation p).sched =
    s.sched := rfl
@[simp] theorem State.sendPresentation_comp (s : State) (p : Presentation) : (s.sendPresentation p).comp =
    s.comp := rfl
@[simp] theorem State.sendPresentation_reports (s : State) (p : Presentation) : (s.sendPresentation p).reports =
    s.reports := rfl
@[simp] theorem State.sendPresentation_lines (s : State) (p : Presentation) : (s.sendPresentation p).lines =
    s.lines := rfl
@[simp] theorem State.sendPresentation_head (s : State) (p : Presentation) : (s.sendPresentation p).head =
    s.head := rfl
@[simp] theorem State.sendPresentation_link (s : State) (p : Presentation) : (s.sendPresentation p).link =
    s.link := rfl
@[simp] theorem State.sendPresentation_store (s : State) (p : Presentation) : (s.sendPresentation p).store =
    s.store := rfl
@[simp] theorem State.sendPresentation_wires (s : State) (p : Presentation) : (s.sendPresentation p).wires =
    { s.wires with presentations := s.wires.presentations ++ [p] } := rfl
@[simp] theorem State.sendPresentation_fresh (s : State) (p : Presentation) : (s.sendPresentation p).fresh =
    s.fresh := rfl
@[simp] theorem State.sendPresentation_pending (s : State) (p : Presentation) : (s.sendPresentation p).pending =
    s.pending := rfl

@[simp] theorem State.tickFresh_now (s : State) : (s.tickFresh).now = s.now := rfl
@[simp] theorem State.tickFresh_straps (s : State) : (s.tickFresh).straps = s.straps := rfl
@[simp] theorem State.tickFresh_outputStandard (s : State) : (s.tickFresh).outputStandard = s.outputStandard := rfl
@[simp] theorem State.tickFresh_extPins (s : State) : (s.tickFresh).extPins = s.extPins := rfl
@[simp] theorem State.tickFresh_cams (s : State) : (s.tickFresh).cams = s.cams := rfl
@[simp] theorem State.tickFresh_zoneEngine (s : State) : (s.tickFresh).zoneEngine = s.zoneEngine := rfl
@[simp] theorem State.tickFresh_ruleEngine (s : State) : (s.tickFresh).ruleEngine = s.ruleEngine := rfl
@[simp] theorem State.tickFresh_sched (s : State) : (s.tickFresh).sched = s.sched := rfl
@[simp] theorem State.tickFresh_comp (s : State) : (s.tickFresh).comp = s.comp := rfl
@[simp] theorem State.tickFresh_reports (s : State) : (s.tickFresh).reports = s.reports := rfl
@[simp] theorem State.tickFresh_lines (s : State) : (s.tickFresh).lines = s.lines := rfl
@[simp] theorem State.tickFresh_head (s : State) : (s.tickFresh).head = s.head := rfl
@[simp] theorem State.tickFresh_link (s : State) : (s.tickFresh).link = s.link := rfl
@[simp] theorem State.tickFresh_store (s : State) : (s.tickFresh).store = s.store := rfl
@[simp] theorem State.tickFresh_wires (s : State) : (s.tickFresh).wires = s.wires := rfl
@[simp] theorem State.tickFresh_fresh (s : State) : (s.tickFresh).fresh = s.fresh + 1 := rfl
@[simp] theorem State.tickFresh_pending (s : State) : (s.tickFresh).pending = s.pending := rfl

end Sys2Proof.Machine
end

