-- ==== Sys2Proof/Laws/Ops.lean ====
section
/-! SUPPORT. What each shared operation can do: table updates, counts, the transmitter's choice, the taking of a host
command, the taking of a profile part, the next offer, the next tid. -/

namespace Sys2Proof.Machine

open Sys2Proof.Safety

/-! ### Tables and counts -/

@[simp] theorem upd_get_self {α : Type} {n : Nat} (v : Vector α n) (i : Fin n) (x : α) : (upd v i x).get i = x := by
  simp [upd, Vector.get_eq_getElem]

theorem upd_get_other {α : Type} {n : Nat} (v : Vector α n) (i j : Fin n) (x : α) (h : i ≠ j) :
    (upd v i x).get j = v.get j := by
  have h' : (i : Nat) ≠ j := fun e => h (Fin.ext e)
  simp [upd, Vector.get_eq_getElem, h']

theorem upd_get {α : Type} {n : Nat} (v : Vector α n) (i j : Fin n) (x : α) :
    (upd v i x).get j = if i = j then x else v.get j := by
  by_cases h : i = j
  · subst h; simp
  · simp [h, upd_get_other]

theorem upd_get_eq {α : Type} {n : Nat} (v : Vector α n) (i : Fin n) : upd v i (v.get i) = v := by
  ext k hk
  by_cases h : (i : Nat) = k
  · subst h; simp [upd, Vector.get_eq_getElem]
  · simp [upd, h]

theorem bump_le (n : Nat) (h : n ≤ 65535) : bump n ≤ 65535 := by unfold bump; split <;> omega

theorem bump_lt (n : Nat) (h : n < 65535) : bump n = n + 1 := by simp [bump, h]

/-! ### Free values -/

/-- Three field periods are 6 counts for 625, and 5 or 6 for 525 (R4). -/
theorem fieldSpan_cases (st : Standard) (n : Nat) :
    fieldSpan st n = 6 ∨ (st = .s525 ∧ fieldSpan st n = 5) := by
  cases st
  · unfold fieldSpan; cases Config.spanRoundsUp n <;> simp
  · simp [fieldSpan]

/-! ### Records and delivery marks -/

@[simp] theorem markRecord_length (n : Nat) (m : DeliveryMark) (rs : List Record) :
    (markRecord n m rs).length = rs.length := by
  induction rs with
  | nil => rfl
  | cons r rs ih => unfold markRecord; split <;> simp [ih]

theorem markRecord_unsent (n : Nat) (m : DeliveryMark) (rs : List Record) :
    unsentRecords (markRecord n m rs) = unsentRecords rs := by
  induction rs with
  | nil => rfl
  | cons r rs ih =>
    unfold markRecord
    split
    · simp [unsentRecords]
    · simpa [unsentRecords] using ih

@[simp] theorem unsentRecords_length (rs : List Record) : (unsentRecords rs).length = rs.length := by
  simp [unsentRecords]

@[simp] theorem inDelivery_unsentRecords (rs : List Record) : inDelivery (unsentRecords rs) = 0 := by
  simp [inDelivery, unsentRecords, List.countP_eq_zero]

/-! ### The transmitter's choice (R165) -/

/-- The choice of the reply to send changes marks only (R165). -/
theorem startReply_map {cache cache' : List CacheEntry} {bytes : List Byte}
    (h : startReply cache = some (bytes, cache')) :
    cache'.map (fun e => (e.seq, e.crc, e.frame, e.post)) = cache.map (fun e => (e.seq, e.crc, e.frame, e.post)) := by
  induction cache generalizing bytes cache' with
  | nil => simp [startReply] at h
  | cons e es ih =>
    unfold startReply at h
    split at h
    · simp only [Option.some.injEq, Prod.mk.injEq] at h
      rw [← h.2]; rfl
    · simp only [Option.map_eq_some_iff, Prod.mk.injEq] at h
      obtain ⟨⟨b, c⟩, hc, _, rfl⟩ := h
      simp [ih hc]

/-- Everything the transmitter's choice can do: nothing; or it starts a frame of the immediate queue, the reply
cache or the report queue, in that order (R165). -/
theorem kick_cases (s : State) :
    s.kick = s ∨
    (s.link.tx = none ∧ ∃ f fs, s.link.immediate = f :: fs ∧
      s.kick = s.setLink { s.link with immediate := fs, tx := some ⟨immediateBytes f, .immediate, s.link.rate⟩ }) ∨
    (s.link.tx = none ∧ s.link.immediate = [] ∧ ∃ bytes cache, startReply s.link.cache = some (bytes, cache) ∧
      s.kick = s.setLink { s.link with cache := cache, tx := some ⟨bytes, .reply, s.link.rate⟩ }) ∨
    (s.link.tx = none ∧ s.link.immediate = [] ∧ startReply s.link.cache = none ∧
      ∃ r resend, frameDue s.reports s.wires.stall = some (r, resend) ∧
      s.kick = (s.setReports (startReport s.reports r resend)).setLink
        { s.link with tx := some ⟨reportFrame s.reports.dropped r, .report r.seq resend, s.link.rate⟩ }) := by
  unfold State.kick
  split
  · exact .inl rfl
  · rename_i htx
    split
    · rename_i f fs hi
      exact .inr (.inl ⟨htx, f, fs, hi, rfl⟩)
    · rename_i hi
      split
      · rename_i bytes cache hc
        exact .inr (.inr (.inl ⟨htx, hi, bytes, cache, hc, rfl⟩))
      · rename_i hc
        split
        · rename_i r resend hd
          exact .inr (.inr (.inr ⟨htx, hi, hc, r, resend, hd, rfl⟩))
        · exact .inl rfl

@[simp] theorem kick_now (s : State) : s.kick.now = s.now := by
  rcases kick_cases s with h | ⟨_, _, _, _, h⟩ | ⟨_, _, _, _, _, h⟩ | ⟨_, _, _, _, _, _, h⟩ <;> rw [h] <;> rfl
@[simp] theorem kick_straps (s : State) : s.kick.straps = s.straps := by
  rcases kick_cases s with h | ⟨_, _, _, _, h⟩ | ⟨_, _, _, _, _, h⟩ | ⟨_, _, _, _, _, _, h⟩ <;> rw [h] <;> rfl
@[simp] theorem kick_outputStandard (s : State) : s.kick.outputStandard = s.outputStandard := by
  rcases kick_cases s with h | ⟨_, _, _, _, h⟩ | ⟨_, _, _, _, _, h⟩ | ⟨_, _, _, _, _, _, h⟩ <;> rw [h] <;> rfl
@[simp] theorem kick_extPins (s : State) : s.kick.extPins = s.extPins := by
  rcases kick_cases s with h | ⟨_, _, _, _, h⟩ | ⟨_, _, _, _, _, h⟩ | ⟨_, _, _, _, _, _, h⟩ <;> rw [h] <;> rfl
@[simp] theorem kick_cams (s : State) : s.kick.cams = s.cams := by
  rcases kick_cases s with h | ⟨_, _, _, _, h⟩ | ⟨_, _, _, _, _, h⟩ | ⟨_, _, _, _, _, _, h⟩ <;> rw [h] <;> rfl
@[simp] theorem kick_zoneEngine (s : State) : s.kick.zoneEngine = s.zoneEngine := by
  rcases kick_cases s with h | ⟨_, _, _, _, h⟩ | ⟨_, _, _, _, _, h⟩ | ⟨_, _, _, _, _, _, h⟩ <;> rw [h] <;> rfl
@[simp] theorem kick_ruleEngine (s : State) : s.kick.ruleEngine = s.ruleEngine := by
  rcases kick_cases s with h | ⟨_, _, _, _, h⟩ | ⟨_, _, _, _, _, h⟩ | ⟨_, _, _, _, _, _, h⟩ <;> rw [h] <;> rfl
@[simp] theorem kick_sched (s : State) : s.kick.sched = s.sched := by
  rcases kick_cases s with h | ⟨_, _, _, _, h⟩ | ⟨_, _, _, _, _, h⟩ | ⟨_, _, _, _, _, _, h⟩ <;> rw [h] <;> rfl
@[simp] theorem kick_comp (s : State) : s.kick.comp = s.comp := by
  rcases kick_cases s with h | ⟨_, _, _, _, h⟩ | ⟨_, _, _, _, _, h⟩ | ⟨_, _, _, _, _, _, h⟩ <;> rw [h] <;> rfl
@[simp] theorem kick_lines (s : State) : s.kick.lines = s.lines := by
  rcases kick_cases s with h | ⟨_, _, _, _, h⟩ | ⟨_, _, _, _, _, h⟩ | ⟨_, _, _, _, _, _, h⟩ <;> rw [h] <;> rfl
@[simp] theorem kick_head (s : State) : s.kick.head = s.head := by
  rcases kick_cases s with h | ⟨_, _, _, _, h⟩ | ⟨_, _, _, _, _, h⟩ | ⟨_, _, _, _, _, _, h⟩ <;> rw [h] <;> rfl
@[simp] theorem kick_store (s : State) : s.kick.store = s.store := by
  rcases kick_cases s with h | ⟨_, _, _, _, h⟩ | ⟨_, _, _, _, _, h⟩ | ⟨_, _, _, _, _, _, h⟩ <;> rw [h] <;> rfl
@[simp] theorem kick_wires (s : State) : s.kick.wires = s.wires := by
  rcases kick_cases s with h | ⟨_, _, _, _, h⟩ | ⟨_, _, _, _, _, h⟩ | ⟨_, _, _, _, _, _, h⟩ <;> rw [h] <;> rfl
@[simp] theorem kick_fresh (s : State) : s.kick.fresh = s.fresh := by
  rcases kick_cases s with h | ⟨_, _, _, _, h⟩ | ⟨_, _, _, _, _, h⟩ | ⟨_, _, _, _, _, _, h⟩ <;> rw [h] <;> rfl
@[simp] theorem kick_pending (s : State) : s.kick.pending = s.pending := by
  rcases kick_cases s with h | ⟨_, _, _, _, h⟩ | ⟨_, _, _, _, _, h⟩ | ⟨_, _, _, _, _, _, h⟩ <;> rw [h] <;> rfl

/-- The transmitter's choice touches nothing beyond the link, the marks and the round. -/
@[simp] theorem kick_beyond (s : State) : beyondLink s.kick = beyondLink s := by
  rcases kick_cases s with h | ⟨_, _, _, _, h⟩ | ⟨_, _, _, _, _, h⟩ | ⟨_, _, _, r, resend, _, h⟩ <;> rw [h]
  · rfl
  · rfl
  · cases resend
    · simp [beyondLink, startReport, State.setLink, State.setReports, markRecord_unsent]
    · simp [beyondLink, startReport, State.setLink, State.setReports]

/-- The transmitter's choice keeps of the link all but the immediate queue, the marks of the cache and the
transmitter. -/
theorem kick_link (s : State) :
    s.kick.link.rate = s.link.rate ∧ s.kick.link.receiver = s.link.receiver ∧ s.kick.link.gap = s.link.gap
    ∧ s.kick.link.badStop = s.link.badStop ∧ s.kick.link.commands = s.link.commands
    ∧ s.kick.link.session = s.link.session ∧ s.kick.link.restartPending = s.link.restartPending
    ∧ s.kick.link.cache.map (fun e => (e.seq, e.crc, e.frame, e.post))
      = s.link.cache.map (fun e => (e.seq, e.crc, e.frame, e.post)) := by
  rcases kick_cases s with h | ⟨_, _, _, _, h⟩ | ⟨_, _, bytes, cache, hc, h⟩ | ⟨_, _, _, _, _, _, h⟩ <;> rw [h]
  · exact ⟨rfl, rfl, rfl, rfl, rfl, rfl, rfl, rfl⟩
  · exact ⟨rfl, rfl, rfl, rfl, rfl, rfl, rfl, rfl⟩
  · exact ⟨rfl, rfl, rfl, rfl, rfl, rfl, rfl, startReply_map hc⟩
  · exact ⟨rfl, rfl, rfl, rfl, rfl, rfl, rfl, rfl⟩

/-- A reply that is in the cache stays its newest entry through the transmitter's choice. -/
theorem kick_answered {s : State} {f : Frame} {p : List Byte} (h : Answered f p s) : Answered f p s.kick := by
  obtain ⟨e, he, h1, h2, h3⟩ := h
  have hm := (kick_link s).2.2.2.2.2.2.2
  have hl : (s.kick.link.cache.map (fun e => (e.seq, e.crc, e.frame, e.post))).getLast? =
      (s.link.cache.map (fun e => (e.seq, e.crc, e.frame, e.post))).getLast? := by rw [hm]
  simp only [List.getLast?_map, he, Option.map_some, Option.map_eq_some_iff] at hl
  obtain ⟨e', he', heq⟩ := hl
  simp only [Prod.mk.injEq] at heq
  exact ⟨e', he', heq.1 ▸ h1, heq.2.1 ▸ h2, heq.2.2.1 ▸ h3⟩

/-! ### The taking of a host command (R164) -/

theorem ready_takeable {kind : Byte} {f : Frame} {rest : List Frame} {s : State} (h : Ready kind f rest s) :
    takeable s.link = true := by
  rcases h.room with hr | ⟨e, es, hc, hm⟩
  · simp [Machine.takeable, hr, h.going]
  · simp [Machine.takeable, hc, hm, h.going]

/-- The command that is ready is taken: judged and applied, its reply cached (R164). -/
theorem takeKind_ready {kind : Byte} {f : Frame} {rest : List Frame} {s : State} (j : Judgement)
    (h : Ready kind f rest s) :
    takeKind kind j s =
      ((j f.payload (s.setLink { s.link with commands := rest })).2.setLink
        (cacheReply f (j f.payload (s.setLink { s.link with commands := rest })).1
          (j f.payload (s.setLink { s.link with commands := rest })).2.link)).kick := by
  have ht := ready_takeable h
  simp [takeKind, takeWhen, h.oldest, h.kind, ht, takeFrame, h.session]

/-- A reply entered in the cache is its newest entry (R163). -/
theorem cacheReply_answered (f : Frame) (a : Answer) (s : State) (l : HostLink) :
    Answered f a.payload (s.setLink (cacheReply f a l)) := by
  refine ⟨⟨f.seq, f.crc, buildFrame f.seq (replyKind f.kind) a.payload, .unsent, a.post⟩, ?_, rfl, rfl, rfl⟩
  simp [cacheReply]

/-- What a taking leaves, when the command's effect keeps the link as the taking found it. -/
theorem takeKind_taken {kind : Byte} {f : Frame} {rest : List Frame} {s u : State} {j : Judgement} {a : Answer}
    (h : Ready kind f rest s)
    (hj : j f.payload (s.setLink { s.link with commands := rest }) = (a, u.setLink { s.link with commands := rest })) :
    Taken f rest a.payload s u (takeKind kind j s) := by
  rw [takeKind_ready j h, hj]
  have hk := kick_link
    ((u.setLink { s.link with commands := rest }).setLink
      (cacheReply f a (u.setLink { s.link with commands := rest }).link))
  exact
    { commands := hk.2.2.2.2.1
      answer := kick_answered (cacheReply_answered f a _ _)
      session := hk.2.2.2.2.2.1
      rate := hk.1
      receiver := hk.2.1
      gap := hk.2.2.1
      badStop := hk.2.2.2.1
      restart := hk.2.2.2.2.2.2.1
      beyond := by rw [kick_beyond]; rfl }

/-! ### Parts of a restored profile (R204) -/

/-- A part that is not handed is not taken. -/
theorem takePart_not {part : Part} {f : Profile → State → State} {s : State}
    (h : s.store.applying = none ∨ part ∉ s.store.handed) : takePart part f s = s := by
  unfold takePart
  rcases h with h | h
  · rw [h]
  · split
    · simp [h]
    · rfl

/-- A part that is handed is taken, and its notice sent. -/
theorem takePart_handed {part : Part} {f : Profile → State → State} {s : State} {p : Profile}
    (hp : s.store.applying = some p) (h : part ∈ s.store.handed) :
    takePart part f s = (f p s).setStore { (f p s).store with
      handed := (f p s).store.handed.erase part, notices := (f p s).store.notices ++ [part] } := by
  unfold takePart
  rw [hp]
  simp [h]

/-! ### Offers (R109) -/

/-- The next offer of a kind: it stands among the offers, its kind is that kind, no offer before it is of that kind
or must be taken first, and the others keep their order. -/
theorem nextOffer_some {k : ReportKind} {before offers rest : List Report} {r : Report}
    (h : nextOffer k before offers = some (r, rest)) :
    reportKind r = k ∧ ∃ pre post, offers = pre ++ r :: post ∧ rest = before ++ pre ++ post
      ∧ (∀ x ∈ pre, reportKind x ≠ k) ∧ ∀ x ∈ before ++ pre, mustPrecede x r = false := by
  induction offers generalizing before with
  | nil => simp [nextOffer] at h
  | cons x xs ih =>
    unfold nextOffer at h
    split at h
    · rename_i hk
      split at h
      · simp at h
      · rename_i hany
        simp only [Option.some.injEq, Prod.mk.injEq] at h
        obtain ⟨rfl, rfl⟩ := h
        refine ⟨hk, [], xs, rfl, by simp, by simp, ?_⟩
        intro y hy
        simp only [List.append_nil] at hy
        simp only [List.any_eq_true, not_exists, not_and, Bool.not_eq_true] at hany
        exact hany y hy
    · rename_i hk
      obtain ⟨h1, pre, post, h2, h3, h4, h5⟩ := ih h
      refine ⟨h1, x :: pre, post, by simp [h2], by simp [h3], ?_, ?_⟩
      · intro y hy
        rcases List.mem_cons.1 hy with rfl | hy
        · exact hk
        · exact h4 y hy
      · intro y hy
        exact h5 y (by simpa using hy)

/-! ### The places of the notices of restored records (R44) -/

/-- A place is on its way when some camera's path holds a notice of a restored record with it. -/
theorem mem_restoredPlaces (k : Nat) (s : State) :
    k ∈ restoredPlaces s ↔ ∃ d n, .restored k n ∈ s.wires.camToZones.get d := by
  simp only [restoredPlaces, List.mem_filterMap, List.mem_flatten]
  constructor
  · rintro ⟨m, ⟨l, hl, hm⟩, hk⟩
    obtain ⟨i, hi, rfl⟩ := Vector.mem_iff_getElem.mp (Vector.mem_toList_iff.mp hl)
    cases m <;> cases hk
    exact ⟨⟨i, hi⟩, _, hm⟩
  · rintro ⟨d, n, h⟩
    exact ⟨.restored k n, ⟨_, Vector.mem_toList_iff.mpr (Vector.getElem_mem d.isLt), h⟩, rfl⟩

theorem le_foldl_max (l : List Nat) (a : Nat) : a ≤ l.foldl max a ∧ ∀ x ∈ l, x ≤ l.foldl max a := by
  induction l generalizing a with
  | nil => simp
  | cons b l ih =>
    have hb := ih (max a b)
    refine ⟨by simp; omega, fun x hx => ?_⟩
    simp at hx ⊢
    rcases hx with rfl | hx
    · omega
    · exact hb.2 x hx

/-- The next place is behind every place on its way. -/
theorem nextPlace_behind (s : State) (d : CameraId) (k : Nat) (n : CameraNotice)
    (h : .restored k n ∈ s.wires.camToZones.get d) : k < nextPlace s :=
  Nat.lt_succ_of_le ((le_foldl_max _ 0).2 k ((mem_restoredPlaces k s).mpr ⟨d, n, h⟩))

/-- A notice of a restored record is taken next exactly when none of a lower place is on its way. -/
theorem takenNext_iff (place : Nat) (s : State) :
    takenNext place s = true ↔ ∀ d k n, .restored k n ∈ s.wires.camToZones.get d → place ≤ k := by
  simp only [takenNext, List.all_eq_true, decide_eq_true_eq, mem_restoredPlaces]
  exact ⟨fun h d k n hm => h k ⟨d, n, hm⟩, fun h k ⟨d, n, hm⟩ => h d k n hm⟩

end Sys2Proof.Machine
end

