-- ==== Sys2Proof/Laws/Blocks.lean ====
section
/-! SUPPORT. What the operations of the blocks do, in the terms that claims use: firings and releases of rules, the
choice of the source and the ends of requests, line writes, tids, ends of transactions, sessions and profile
operations. -/

namespace Sys2Proof.Machine

open Sys2Proof.Safety

/-! ### Host commands -/

theorem configuration_unheld {j : Judgement} {p : List Byte} {s : State} (h : Unheld s) :
    configuration j p s = j p s := by
  simp [configuration, h.1, h.2]

theorem judged_ok {α : Type} {parse : List Byte → Except Turndown α} {ap : α → State → Answer × State} {p : List Byte}
    {x : α} {s : State} (h : parse p = .ok x) : judged parse ap p s = ap x s := by simp [judged, h]
theorem parseNone_nil {p : List Byte} (h : p = []) : parseNone p = .ok () := by subst h; rfl


/-! ### Zones (chapter 02) -/

/-- A zone transition is the entry's move with the record that entry to the state leaves. -/
theorem zoneTransition_eq (z : ZoneId) (zone : Zone) (st : ZoneState) (cause : ZoneCause) (stamp : Time) (s : State) :
    zoneTransition z zone st cause stamp s = zoneMoves z zone.run.state
      ⟨zone.cfg, enterZoneState zone.run st cause stamp⟩ cause (causeFlag zone.cfg.causes cause) s := by
  cases st <;> rfl

/-- Entry to OFF, BLIND and LEARNING clears the record (R27). -/
theorem enterZoneState_cleared (run : ZoneRun) (st : ZoneState) (cause : ZoneCause) (stamp : Time)
    (h : st = .off ∨ st = .blind ∨ st = .learning) : enterZoneState run st cause stamp = clearedFor run st cause stamp := by
  rcases h with rfl | rfl | rfl <;> rfl

/-! ### Rules (chapter 03) -/

theorem sending_nothing (s : State) : sending .nothing s = s := by simp [sending, Sent.nothing, State.setWires]

theorem sending_sending (x y : Sent) (s : State) : sending y (sending x s) = sending (x.andThen y) s := by
  simp [sending, Sent.andThen, State.setWires]

theorem sending_setRule (x : Sent) (r : RuleId) (o : Option Rule) (s : State) :
    sending x (s.setRule r o) = (sending x s).setRule r o := rfl

theorem sendAction_foldl (r : RuleId) (rule : Rule) (e : RuleEngine) (now : Time) (as : List Action) :
    ∀ s : State, s.now = now → s.ruleEngine.zoneCopy = e.zoneCopy → s.ruleEngine.lineCopy = e.lineCopy →
    as.foldl (sendAction r rule) s = sending (firingSends e now r { rule.cfg with actions := as } rule.run.fireCount) s := by
  induction as with
  | nil => intro s _ _ _; simp [firingSends, sending, State.setWires]
  | cons a as ih =>
    intro s h1 h2 h3
    have hv : ∀ t, termValue s.ruleEngine t = termValue e t := by
      intro t; simp [termValue, operandValue, h2, h3]
    rw [List.foldl_cons, ih]
    · cases a with
      | report p c => simp [firingSends, sending, sendAction, ruleReport, ruleTold, State.offer, State.setWires, h1, hv]
      | showView v p d l w => simp [firingSends, sending, sendAction, State.sendRequest, State.setWires, ruleTold]
      | line l f => cases f <;> simp [firingSends, sending, sendAction, State.sendClaim, State.setWires, ruleTold]
      | _ => simp [firingSends, sending, sendAction, State.sendRecall, State.setWires, ruleTold]
    all_goals
      cases a <;> first | assumption | (rename_i f; cases f <;> assumption)

theorem fireRule_eq (r : RuleId) (rule : Rule) (s : State) :
    fireRule r rule s = sending (firingSends s.ruleEngine s.now r rule.cfg (bump rule.run.fireCount))
      (s.setRule r (some ⟨rule.cfg, ⟨.fired, none, none, none, bump rule.run.fireCount, some s.now⟩⟩)) := by
  unfold fireRule
  rw [sendAction_foldl r _ s.ruleEngine s.now]
  · rfl
  · rfl
  · rfl
  · rfl

theorem releaseLatch_foldl (r : RuleId) (as : List Action) : ∀ s : State,
    as.foldl (releaseLatch r) s = sending ⟨[], [], as.filterMap fun | .line l .latch => some (.drop r l) | _ => none, [], []⟩ s := by
  induction as with
  | nil => intro s; simp [sending, State.setWires]
  | cons a as ih =>
    intro s; rw [List.foldl_cons, ih]
    cases a with
    | line l f => cases f <;> simp [sending, releaseLatch, State.sendClaim, State.setWires]
    | _ => simp [sending, releaseLatch, State.setWires]

theorem releaseReport_foldl (r : RuleId) (rule : Rule) (cause : ClearCause) (e : RuleEngine) (now : Time) (as : List Action) :
    ∀ s : State, s.now = now → s.ruleEngine.zoneCopy = e.zoneCopy → s.ruleEngine.lineCopy = e.lineCopy →
    as.foldl (releaseReport r rule cause) s = sending ⟨[], [], [], [], as.filterMap fun
      | .report priority true => some (ruleTold e now r rule.cfg rule.run.fireCount priority .cleared (some cause))
      | _ => none⟩ s := by
  induction as with
  | nil => intro s _ _ _; simp [sending, State.setWires]
  | cons a as ih =>
    intro s h1 h2 h3
    have hv : ∀ t, termValue s.ruleEngine t = termValue e t := by
      intro t; simp [termValue, operandValue, h2, h3]
    rw [List.foldl_cons, ih]
    · cases a with
      | report p c => cases c <;> simp [sending, releaseReport, ruleReport, ruleTold, State.offer, State.setWires, h1, hv]
      | _ => simp [sending, releaseReport, State.setWires]
    all_goals
      cases a <;> first | assumption | (rename_i p c; cases c <;> assumption)

theorem releaseRule_eq (r : RuleId) (rule : Rule) (cause : ClearCause) (s : State) :
    releaseRule r rule cause s = sending (releaseSends s.ruleEngine s.now r rule.cfg rule.run.fireCount cause) s := by
  unfold releaseRule
  simp only
  rw [releaseReport_foldl r rule cause s.ruleEngine s.now, releaseLatch_foldl]
  · cases h : withdrawsOnRelease rule.cfg <;> simp [sending, releaseSends, State.sendWithdrawal, State.setWires, h] <;> exact ⟨rfl, rfl⟩
  all_goals (rw [releaseLatch_foldl]; split <;> rfl)

theorem settleRule_eq (r : RuleId) (rule : Rule) (st : RuleState) (s : State) :
    settleRule r rule st s = s.setRule r (some ⟨rule.cfg, restingRun st rule.run.fireCount rule.run.lastFired⟩) := rfl

theorem meetRule_eq (e e' : RuleEngine) (r : RuleId) (rule : Rule) (s : State)
    (h2 : s.ruleEngine.zoneCopy = e'.zoneCopy) (h3 : s.ruleEngine.lineCopy = e'.lineCopy)
    (hs : s.ruleEngine.table.get r = some rule) :
    meetRule e e' s r = sending (outcomeSends (ruleOutcome e e' rule) e' s.now r rule)
      (s.setRule r (some ⟨rule.cfg, ruleRunAfter (ruleOutcome e e' rule) s.now rule⟩)) := by
  have hv : ∀ t, termValue s.ruleEngine t = termValue e' t := by
      intro t; simp [termValue, operandValue, h2, h3]
  have hset : s.setRule r (some rule) = s := by
    unfold State.setRule State.setRules; rw [← hs, upd_get_eq]
  have hf : ∀ n, firingSends s.ruleEngine s.now r rule.cfg n = firingSends e' s.now r rule.cfg n := by
    intro n; unfold firingSends ruleTold; simp [funext hv]
  have hr : ∀ n c, releaseSends s.ruleEngine s.now r rule.cfg n c = releaseSends e' s.now r rule.cfg n c := by
    intro n c; unfold releaseSends ruleTold; simp [funext hv]
  unfold meetRule
  rw [hs]
  simp only
  unfold ruleOutcome
  cases hm : termsMove e e' rule.cfg.terms
  · simp [outcomeSends, ruleRunAfter, sending_nothing, hset]
  · simp only [if_true, Bool.true_eq_false, if_false]
    unfold termEvent
    cases hst : rule.run.state with
    | disarmed => simp [outcomeSends, ruleRunAfter, sending_nothing, hset]
    | idle =>
      simp only [idleEvent]
      cases hmode : rule.cfg.mode with
      | order =>
        simp only [if_true]
        split <;> simp [outcomeSends, ruleRunAfter, sending_nothing, hset, awaitTerm, settledRun]
      | _ =>
        simp only [reduceCtorEq, if_false]
        split <;> simp [outcomeSends, ruleRunAfter, sending_nothing, hset, fireRule_eq, hf]
    | stepping =>
      simp only [stepEvent]
      by_cases h1 : termRises e e' rule.cfg.terms (rule.run.step.getD 0) = true
      · by_cases h2 : rule.run.step.getD 0 = rule.cfg.terms.length
        · simp only [h2, if_true]
          rw [h2] at h1
          simp [h1, outcomeSends, ruleRunAfter, fireRule_eq, hf]
        · simp [h1, h2, outcomeSends, ruleRunAfter, awaitTerm, settledRun, sending_nothing]
      · simp only [h1]
        by_cases h4 : termRises e e' rule.cfg.terms 1 = true <;>
        simp [h4, outcomeSends, ruleRunAfter, awaitTerm, settledRun, sending_nothing, hset]
    | fired =>
      simp only [firedEvent]
      by_cases h1 : condition e' rule.cfg .fired = true
      · simp [h1, outcomeSends, ruleRunAfter, sending_nothing, hset]
      · by_cases h2 : rule.cfg.cooldown = 0
        · simp [h1, h2, outcomeSends, ruleRunAfter, settleRule_eq, releaseRule_eq, hr, sending_setRule, restingRun]
        · simp [h1, h2, outcomeSends, ruleRunAfter, sending_nothing, settledRun]
    | cooldown =>
      simp only [cooldownEvent]
      by_cases h1 : condition e' rule.cfg .cooldown = true
      · simp [h1, outcomeSends, ruleRunAfter, sending_nothing, settleRule_eq, restingRun]
      · simp [h1, outcomeSends, ruleRunAfter, sending_nothing, hset]


/-! ### The schedule (chapter 04) -/

theorem pauseRequest_eq (now : Time) : pauseRequest now = paused now := by
  funext q
  obtain ⟨o, v, p, r, d, l, a⟩ := q
  cases d <;> rfl

theorem showRequest_map (now : Time) (o : Origin) (rs : List Request) :
    (rs.map (pauseRequest now)).map (showRequest now o) = rs.map fun x => if x.origin = o then shownFrom now x else paused now x := by
  rw [pauseRequest_eq, List.map_map]
  refine congrArg (List.map · rs) (funext fun x => ?_)
  rfl

theorem chooseSource_chosen (s : State) : Chosen s (chooseSource s) := by
  constructor
  · intro v h
    simp only [chooseSource, sourceChoice, h, sameSource]
    constructor
    · intro hs; simp [hs]
    · intro hs; simp [hs, selectSource, requestsUnder, sourceUnder, presentationOf, newSource, pauseRequest_eq]
  · intro h q hq
    simp only [chooseSource, sourceChoice, h, hq, sameSource]
    constructor
    · intro h1 h2; simp [h1, h2]
    · intro h1
      rw [if_neg (by simp; intro a; simpa [a] using h1)]
      simp only [selectSource, requestsUnder, sourceUnder, presentationOf, newSource, showRequest_map]
  · intro h hr k e hk he
    simp [chooseSource, sourceChoice, h, hr, topRequest, rotationChoice, hk, he, sameSource, selectSource, requestsUnder, sourceUnder, presentationOf, newSource]
  · intro h hr hk
    simp [chooseSource, sourceChoice, h, hr, topRequest, rotationChoice, hk, sameSource]
    refine ⟨fun a => by simp [a], fun a => ?_⟩
    simp [a, selectSource, requestsUnder, sourceUnder, presentationOf, newSource, hr]

theorem chooseSource_setLink (s : State) (l : HostLink) : chooseSource (s.setLink l) = (chooseSource s).setLink l := by
  unfold chooseSource; dsimp only
  show (if sameSource s.sched.source (sourceChoice s.sched) = true then _ else _) = _
  split <;> rfl

theorem endRequest_eq (q : Request) (o : RequestOutcome) (r : Nat) (s : State) (h : r = if o = .done then 0 else owedDwell s.now q) :
    endRequest q o s = requestEnded q o r s := by
  subst h
  unfold endRequest requestEnded requestReport requestTold onScreen
  simp only [beq_iff_eq, Bool.and_eq_true]

theorem endAndChoose_eq (q : Request) (o : RequestOutcome) (r : Nat) (s : State) (h : r = if o = .done then 0 else owedDwell s.now q) :
    endAndChoose q o s = if s.sched.source.state = .request ∧ s.sched.source.shown = some q.origin then chooseSource (requestEnded q o r s) else requestEnded q o r s := by
  unfold endAndChoose; rw [endRequest_eq q o r s h]; simp [onScreen]


/-! ### Contact lines (chapter 06) -/

theorem upd_upd {α : Type} {n : Nat} (v : Vector α n) (i : Fin n) (x y : α) : upd (upd v i x) i y = upd v i y := by
  ext k hk; simp [upd]

theorem setLine_setLine (s : State) (l : LineId) (x y : Line) : (s.setLine l x).setLine l y = s.setLine l y := by
  simp [State.setLine, State.setLines, upd_upd]

theorem setLine_get (s : State) (l : LineId) (x : Line) : (s.setLine l x).lines.get l = x := by
  simp [State.setLine, State.setLines]

theorem told_eq (t : LineChange) (s : State) : sendLineChange t s = lineTold t s := rfl
theorem told_get (t : LineChange) (s : State) (l : LineId): (lineTold t s).lines.get l = s.lines.get l := rfl
theorem told_lines (t : LineChange) (s : State) : (lineTold t s).lines = s.lines := rfl
theorem told_pins (t : LineChange) (s : State) : (lineTold t s).extPins = s.extPins := rfl
theorem told_now (t : LineChange) (s : State) : (lineTold t s).now = s.now := rfl
theorem setLine_now (s : State) (l : LineId) (x : Line) : (s.setLine l x).now = s.now := rfl
theorem setLine_pins (s : State) (l : LineId) (x : Line) : (s.setLine l x).extPins = s.extPins := rfl
theorem told_setLine (t : LineChange) (s : State) (l : LineId) (x : Line) : (lineTold t s).setLine l x = lineTold t (s.setLine l x) := rfl

theorem reassert_clearOutput (now : Time) (line : Line) (h : line.mode = .output) :
    reassert now (clearOutput line) = { clearOutput line with asserted := line.drive == .on } := by
  have : (clearOutput line).mode = .output := h
  simp only [reassert, this, if_true, lineAsserted]
  have hd : (clearOutput line).drive = line.drive := rfl
  rw [hd]
  cases line.drive <;> simp [clearOutput]

theorem writeLine_eq (l : LineId) (cfg : LineConfig) (s : State) : writeLine l cfg s = lineWrites l cfg s := by
  obtain ⟨m, a, d⟩ := cfg
  have reassert_clearOutput' : ∀ now (line : Line), line.mode = .output → reassert now (clearOutput line) = { clearOutput line with asserted := line.drive == .on } := fun n l h => reassert_clearOutput n l h
  unfold writeLine lineWrites writeInput writeOther lineWritten
  cases hm : (s.lines.get l).mode <;> cases m <;>
  by_cases h : (s.lines.get l).accepted = .active <;> by_cases h1 : s.extPins.get l = a <;> by_cases h2 : d = 0 <;> by_cases h3 : a = (s.lines.get l).activeLevel <;>
  simp (disch := first | assumption | rfl) [hm, h, h1, h2, h3, storeLine, clearAccepted, discarded, setLine_setLine, judgePin, judgedAfresh, beginChange, acceptChange, told_eq, told_lines, told_pins, told_now, told_setLine, otherState, reassert_clearOutput] <;>
  simp_all [clearOutput, State.setLine, State.setLines]

/-! ### Head link (chapter 07) -/

theorem freeTidFrom_spec (q : List Transaction) (n : Nat) : ∀ (next : Byte),
    (∃ k, k < n ∧ tidHeld (next + BitVec.ofNat 8 k) q = false) → TidTaken q next (freeTidFrom q n next) := by
  induction n with
  | zero => rintro next ⟨k, hk, _⟩; omega
  | succ n ih =>
    rintro next ⟨k, hk, hf⟩
    unfold freeTidFrom
    by_cases h : tidHeld next q = true
    · simp only [h, if_true]
      cases k with
      | zero => simp [h] at hf
      | succ k =>
        have := ih (next + 1) ⟨k, by omega, by rw [← hf]; congr 1; rw [BitVec.add_assoc]; congr 1; simp [BitVec.ofNat_add, BitVec.add_comm]⟩
        obtain ⟨m, h1, h2, h3⟩ := this
        refine ⟨m+1, ?_, h2, ?_⟩
        · rw [h1, BitVec.add_assoc]; congr 1; simp [BitVec.ofNat_add, BitVec.add_comm]
        · intro j hj
          cases j with
          | zero => simpa [tidHeld] using h
          | succ j =>
            obtain ⟨t, ht, he⟩ := h3 j (by omega)
            refine ⟨t, ht, ?_⟩
            rw [he, BitVec.add_assoc]; congr 1; simp [BitVec.ofNat_add, BitVec.add_comm]
    · simp only [h]
      refine ⟨0, by simp, ?_, by simp⟩
      intro t ht he
      apply h; simp [tidHeld]; exact ⟨t, ht, he⟩

theorem freeTid_taken (q : List Transaction) (h : q.length < 256) (next : Byte) : TidTaken q next (freeTidFrom q 256 next) := by
  apply freeTidFrom_spec
  by_contra hc
  push Not at hc
  have hs : ∀ b : Byte, b ∈ q.map (·.tid) := by
    intro b
    have := hc ((b - next).toNat) (b - next).isLt
    simp [tidHeld] at this
    obtain ⟨t, h1, h2⟩ := this
    simp; exact ⟨t, h1, by rw [h2]; bv_omega⟩
  have : (Finset.univ : Finset Byte).card ≤ (q.map (·.tid)).toFinset.card := Finset.card_le_card (by intro b _; simpa using hs b)
  have h2 := List.toFinset_card_le (q.map (·.tid))
  have h3 : (Finset.univ : Finset Byte).card = 256 := by rw [Finset.card_univ]; decide +kernel
  simp at h2; omega

theorem enterTransaction_eq (o : Origin) (head : HeadAddr) (op : HeadOp) (h : HeadLink) (hq : h.link = .idle → h.queue = []) :
    enterTransaction o head op h = transactionIn ⟨freeTid h, o, head, op, 0, none, false, none⟩ h := by
  unfold enterTransaction transactionIn
  by_cases hi : h.link = .idle
  · simp only [hi, if_true, hq hi, List.nil_append]
    simp [linkTakes, sendFrame, newTransaction]
  · simp [hi, newTransaction]

/-- The end of the in-flight transaction (R148). -/
theorem endInFlight_eq (t : Transaction) (rest : List Transaction) (result : RelayResult) (s : State)
    (h : s.head.queue = t :: rest) : endInFlight t result s = flightOver t rest result s := by
  cases result <;> simp [endInFlight, flightOver, h, relayReport, relayTold, relayPriority]

/-- A failed attempt (R147). -/
theorem failAttempt_eq (t : Transaction) (rest : List Transaction) (f : Failure) (s : State)
    (h : s.head.queue = t :: rest) : failAttempt t f s = attemptFailed t rest f s := by
  unfold failAttempt attemptFailed
  rw [endInFlight_eq t rest _ s h, endInFlight_eq t rest _ s h, h]
  cases f <;> rfl

/-! ### Sessions and profile operations (chapters 08 and 10) -/

/-- A closure (R168). -/
theorem closeLink_eq (s : State) : closeLink s = sessionClosed s := rfl

/-- The end of a profile operation (R199, R208). -/
theorem endOperation_eq (event : ProfileEvent) (slot : Option SlotId) (gen : Option Word32) (s : State) :
    endOperation s.store (profileReport s.now event slot gen) s = operationOver event (slotCode slot) gen s := rfl

/-- A slot and its directory entry replaced. -/
theorem putSlot_eq (id : SlotId) (slot : Slot) (dir : Option DirectoryEntry) (s : State) :
    s.setStore (putSlot id slot dir s.store) = storing id slot dir s := by
  cases id <;> rfl

end Sys2Proof.Machine
end

