-- ==== Sys2Proof/WellFormed.lean ====
section
/-! DEFINITION. Which operands of a command describe something that can happen: the picture a camera field carries,
and what a write phase leaves in a slot. -/

namespace Sys2Proof

/-- One cell of a field's picture lies on the picture and carries the samples of four lines of 8 luminance samples
and of 4 samples of each chroma component (§1.5, R13, R14). -/
def cellWellFormed (c : CellSamples) : Bool :=
  decide (c.col ≤ 89) && decide (c.row ≤ 71) && c.y.length == 32 && c.cb.length == 16 && c.cr.length == 16

/-- A picture lists well-formed cells, no cell twice. -/
def pictureWellFormed : Picture → Bool
  | [] => true
  | c :: rest => cellWellFormed c && !rest.any (fun d => d.col == c.col && d.row == c.row) && pictureWellFormed rest

/-- An image of a slot: a 16-bit length, contents within the slot, as many bytes as a length within the limit says
(R196). -/
def imageWellFormed : Option SlotImage → Bool
  | none => true
  | some i =>
      decide (i.length < 65536) && decide (i.contents.bytes.length ≤ 8182)
        && (decide (8182 < i.length) || i.contents.bytes.length == i.length)

/-- A command is well-formed. -/
def Instr.wellFormed (i : Instr) : Bool :=
  match i with
  | .fieldEnd _ f => pictureWellFormed f.picture
  | .commitWriteDone stored => imageWellFormed stored
  | _ => true

end Sys2Proof
end

