-- ==== Sys2Proof/Laws/PerInstr.lean ====
section
/-! SUPPORT. Per command: which operands make it ill-formed. A command whose row carries no measured picture and no
stored image is well-formed with every operand. -/

namespace Sys2Proof.Laws

/-- A command other than FIELD_END and COMMIT_WRITE_DONE is well-formed whatever its operands; those two are exactly
when their picture or image is. -/
def Operands.Statement (i : Instr) : Prop :=
  match i with
  | .fieldEnd _ f => i.wellFormed = pictureWellFormed f.picture
  | .commitWriteDone x => i.wellFormed = imageWellFormed x
  | _ => i.wellFormed = true

theorem Operands.powerOn (straps : Straps) : Operands.Statement (.powerOn straps) := rfl

theorem Operands.resetLine (straps : Straps) : Operands.Statement (.resetLine straps) := rfl

theorem Operands.timeBaseTick : Operands.Statement (.timeBaseTick) := rfl

theorem Operands.fieldEnd (c : CameraId) (f : FieldInfo) : Operands.Statement (.fieldEnd c f) := rfl

theorem Operands.runDeadlineExpiry (c : CameraId) : Operands.Statement (.runDeadlineExpiry c) := rfl

theorem Operands.lossDeadlineExpiry (c : CameraId) : Operands.Statement (.lossDeadlineExpiry c) := rfl

theorem Operands.lostDeadlineExpiry (c : CameraId) : Operands.Statement (.lostDeadlineExpiry c) := rfl

theorem Operands.setCamera : Operands.Statement (.setCamera) := rfl

theorem Operands.getCamera : Operands.Statement (.getCamera) := rfl

theorem Operands.fieldSummary (c : CameraId) : Operands.Statement (.fieldSummary c) := rfl

theorem Operands.cameraNoticeAtZones (c : CameraId) : Operands.Statement (.cameraNoticeAtZones c) := rfl

theorem Operands.setClass : Operands.Statement (.setClass) := rfl

theorem Operands.getClass : Operands.Statement (.getClass) := rfl

theorem Operands.putZone : Operands.Statement (.putZone) := rfl

theorem Operands.dropZone : Operands.Statement (.dropZone) := rfl

theorem Operands.relearnZone : Operands.Statement (.relearnZone) := rfl

theorem Operands.getZone : Operands.Statement (.getZone) := rfl

theorem Operands.restoreZones : Operands.Statement (.restoreZones) := rfl

theorem Operands.zoneTransition : Operands.Statement (.zoneTransition) := rfl

theorem Operands.lineTransition (l : LineId) : Operands.Statement (.lineTransition l) := rfl

theorem Operands.restartNotice : Operands.Statement (.restartNotice) := rfl

theorem Operands.stepDeadlineExpiry (r : RuleId) : Operands.Statement (.stepDeadlineExpiry r) := rfl

theorem Operands.cooldownDeadlineExpiry (r : RuleId) : Operands.Statement (.cooldownDeadlineExpiry r) := rfl

theorem Operands.putRule : Operands.Statement (.putRule) := rfl

theorem Operands.dropRule : Operands.Statement (.dropRule) := rfl

theorem Operands.armRule : Operands.Statement (.armRule) := rfl

theorem Operands.getRule : Operands.Statement (.getRule) := rfl

theorem Operands.restoreRulesRemove : Operands.Statement (.restoreRulesRemove) := rfl

theorem Operands.restoreRulesArm : Operands.Statement (.restoreRulesArm) := rfl

theorem Operands.viewRequest : Operands.Statement (.viewRequest) := rfl

theorem Operands.withdrawal : Operands.Statement (.withdrawal) := rfl

theorem Operands.cameraNoticeAtScheduler (c : CameraId) : Operands.Statement (.cameraNoticeAtScheduler c) := rfl

theorem Operands.dwellDeadlineExpiry : Operands.Statement (.dwellDeadlineExpiry) := rfl

theorem Operands.lifetimeDeadlineExpiry (o : Origin) : Operands.Statement (.lifetimeDeadlineExpiry o) := rfl

theorem Operands.rotationDeadlineExpiry : Operands.Statement (.rotationDeadlineExpiry) := rfl

theorem Operands.deferralDeadlineExpiry : Operands.Statement (.deferralDeadlineExpiry) := rfl

theorem Operands.putView : Operands.Statement (.putView) := rfl

theorem Operands.dropView : Operands.Statement (.dropView) := rfl

theorem Operands.setRotation : Operands.Statement (.setRotation) := rfl

theorem Operands.setMinshow : Operands.Statement (.setMinshow) := rfl

theorem Operands.showView : Operands.Statement (.showView) := rfl

theorem Operands.withdraw : Operands.Statement (.withdraw) := rfl

theorem Operands.hold : Operands.Statement (.hold) := rfl

theorem Operands.release : Operands.Statement (.release) := rfl

theorem Operands.getScreen : Operands.Statement (.getScreen) := rfl

theorem Operands.restoreSchedule : Operands.Statement (.restoreSchedule) := rfl

theorem Operands.presentation : Operands.Statement (.presentation) := rfl

theorem Operands.outputFrameStart : Operands.Statement (.outputFrameStart) := rfl

theorem Operands.reportOffer (k : ReportKind) : Operands.Statement (.reportOffer k) := rfl

theorem Operands.setFilter : Operands.Statement (.setFilter) := rfl

theorem Operands.restoreFilter : Operands.Statement (.restoreFilter) := rfl

theorem Operands.pull : Operands.Statement (.pull) := rfl

theorem Operands.ack : Operands.Statement (.ack) := rfl

theorem Operands.retransmitDeadlineExpiry : Operands.Statement (.retransmitDeadlineExpiry) := rfl

theorem Operands.pushStallNotice : Operands.Statement (.pushStallNotice) := rfl

theorem Operands.pinLevelChange (l : LineId) : Operands.Statement (.pinLevelChange l) := rfl

theorem Operands.debounceDeadlineExpiry (l : LineId) : Operands.Statement (.debounceDeadlineExpiry l) := rfl

theorem Operands.latchClaim : Operands.Statement (.latchClaim) := rfl

theorem Operands.latchDrop : Operands.Statement (.latchDrop) := rfl

theorem Operands.pulseClaim : Operands.Statement (.pulseClaim) := rfl

theorem Operands.pulseDeadlineExpiry (l : LineId) : Operands.Statement (.pulseDeadlineExpiry l) := rfl

theorem Operands.setLine : Operands.Statement (.setLine) := rfl

theorem Operands.driveLine : Operands.Statement (.driveLine) := rfl

theorem Operands.getLines : Operands.Statement (.getLines) := rfl

theorem Operands.restoreLines : Operands.Statement (.restoreLines) := rfl

theorem Operands.recall : Operands.Statement (.recall) := rfl

theorem Operands.relay : Operands.Statement (.relay) := rfl

theorem Operands.cancelRelay : Operands.Statement (.cancelRelay) := rfl

theorem Operands.setHeadlink : Operands.Statement (.setHeadlink) := rfl

theorem Operands.getRelays : Operands.Statement (.getRelays) := rfl

theorem Operands.restoreHeadlink : Operands.Statement (.restoreHeadlink) := rfl

theorem Operands.requestFrameComplete : Operands.Statement (.requestFrameComplete) := rfl

theorem Operands.replyFrame (rate : HeadRate) (stopGood : Bool) (first : Byte) (rest : List Byte) :
    Operands.Statement (.replyFrame rate stopGood first rest) := rfl

theorem Operands.replyDeadlineExpiry : Operands.Statement (.replyDeadlineExpiry) := rfl

theorem Operands.turnaroundGapEnd : Operands.Statement (.turnaroundGapEnd) := rfl

theorem Operands.hostByteReceived (b : Byte) (stopGood : Bool) : Operands.Statement (.hostByteReceived b stopGood) := rfl

theorem Operands.gapDeadlineExpiry : Operands.Statement (.gapDeadlineExpiry) := rfl

theorem Operands.silenceDeadlineExpiry : Operands.Statement (.silenceDeadlineExpiry) := rfl

theorem Operands.frameTxComplete (s3 : Level) : Operands.Statement (.frameTxComplete s3) := rfl

theorem Operands.unknownKind : Operands.Statement (.unknownKind) := rfl

theorem Operands.hello : Operands.Statement (.hello) := rfl

theorem Operands.openSession : Operands.Statement (.openSession) := rfl

theorem Operands.closeSession : Operands.Statement (.closeSession) := rfl

theorem Operands.ping : Operands.Statement (.ping) := rfl

theorem Operands.setLink : Operands.Statement (.setLink) := rfl

theorem Operands.restart : Operands.Statement (.restart) := rfl

theorem Operands.time : Operands.Statement (.time) := rfl

theorem Operands.commit : Operands.Statement (.commit) := rfl

theorem Operands.commitWriteDone (stored : Option SlotImage) : Operands.Statement (.commitWriteDone stored) := rfl

theorem Operands.commitVerifyDone (readGood : Bool) : Operands.Statement (.commitVerifyDone readGood) := rfl

theorem Operands.generationWriteDone (readBack afterErase : Word32) : Operands.Statement (.generationWriteDone readBack afterErase) := rfl

theorem Operands.restore : Operands.Statement (.restore) := rfl

theorem Operands.restoreReadDone (readGood : Bool) : Operands.Statement (.restoreReadDone readGood) := rfl

theorem Operands.restoreCamera (c : CameraId) : Operands.Statement (.restoreCamera c) := rfl

theorem Operands.partTakenNotice (p : Part) : Operands.Statement (.partTakenNotice p) := rfl

theorem Operands.eraseProfile : Operands.Statement (.eraseProfile) := rfl

theorem Operands.erasePrepareDone (readA readB : Word32) : Operands.Statement (.erasePrepareDone readA readB) := rfl

theorem Operands.getProfile : Operands.Statement (.getProfile) := rfl

theorem Operands.firstActiveLine (c : CameraId) : Operands.Statement (.firstActiveLine c) := rfl

end Sys2Proof.Laws
end

