-- ==== Sys2Proof/Laws/Takings.lean ====
section
/-! SUPPORT. What the taking of host commands can do (R164): no judgement touches the command queue, each taking within a
step is what the row of its kind does, and a check takes as far as it can. -/

namespace Sys2Proof.Machine

open Sys2Proof.Safety

/-! ### The transmitter -/

/-- The transmitter has chosen: it is busy, or no source has a frame. -/
theorem kick_kick (s : State) : s.kick.kick = s.kick := by
  unfold State.kick
  cases h : s.link.tx with
  | some f => simp [h]
  | none =>
    cases hi : s.link.immediate with
    | cons f fs => simp [State.setLink]
    | nil =>
      cases hr : startReply s.link.cache with
      | some x => simp [State.setLink]
      | none =>
        cases hf : frameDue s.reports s.wires.stall with
        | some x => simp [State.setLink, State.setReports]
        | none => simp [h, hi, hr, hf]

/-- What the transmitter chooses does not depend on the receiver. -/
theorem kick_receiver (s : State) (r : Receiver) (g : Option Time) (b : Bool) :
    (s.setLink { s.link with receiver := r, gap := g, badStop := b }).kick =
      s.kick.setLink { s.kick.link with receiver := r, gap := g, badStop := b } := by
  unfold State.kick
  cases h : s.link.tx with
  | some f => simp [h, State.setLink]
  | none =>
    cases hi : s.link.immediate with
    | cons f fs => simp [State.setLink, h, hi]
    | nil =>
      cases hr : startReply s.link.cache with
      | some x => simp [State.setLink, h, hi, hr]
      | none =>
        cases hf : frameDue s.reports s.wires.stall with
        | some x => simp [State.setLink, State.setReports, h, hi, hr, hf]
        | none => simp [h, hi, hr, hf, State.setLink]

/-! ### Operations of the blocks leave the host link controller as it is -/

theorem selectSource_link (c : SourceChoice) (s : State) : (selectSource c s).link = s.link := rfl
theorem chooseSource_link (s : State) : (chooseSource s).link = s.link := by
  unfold chooseSource; dsimp only; split <;> rfl
theorem endRequest_link (q : Request) (o : RequestOutcome) (s : State) : (endRequest q o s).link = s.link := rfl
theorem endAndChoose_link (q : Request) (o : RequestOutcome) (s : State) : (endAndChoose q o s).link = s.link := by
  unfold endAndChoose; split <;> simp [chooseSource_link, endRequest_link]
theorem preempt_link (s : State) : (preempt s).link = s.link := by
  unfold preempt; split <;> simp [chooseSource_link, deferSwitch, State.setSched]
theorem judgeEntry_link (o : Origin) (s : State) : (judgeEntry o s).link = s.link := by
  unfold judgeEntry; split <;> try split
  all_goals simp [chooseSource_link, preempt_link]
theorem enterOver_link (old : Request) (o : RequestOutcome) (q : ViewRequest) (s : State) :
    (enterOver old o q s).link = s.link := by
  unfold enterOver; dsimp only; split <;> simp [chooseSource_link, judgeEntry_link] <;> rfl
theorem takeRequest_link (q : ViewRequest) (s : State) : (takeRequest q s).2.link = s.link := by
  unfold takeRequest
  repeat' split
  all_goals simp only [enterOver_link, judgeEntry_link]
  all_goals rfl
theorem advance_link (s : State) : (advance s).link = s.link := by simp [advance, chooseSource_link, State.setSched]
theorem advanceUnshowable_link (s : State) : (advanceUnshowable s).link = s.link := by
  unfold advanceUnshowable; split <;> simp [advance_link]
theorem elapseDeferral_link (s : State) : (elapseDeferral s).link = s.link := by
  unfold elapseDeferral; dsimp only
  repeat' split
  all_goals first | rfl | exact chooseSource_link _
theorem putView_link (v : ViewId) (c : ViewConfig) (s : State) : (putView v c s).link = s.link := by
  unfold putView; dsimp only; split <;> first | rfl | exact advanceUnshowable_link _ | exact chooseSource_link _
theorem setRotation_link (es : List RotationEntry) (s : State) : (setRotation es s).link = s.link := by
  unfold setRotation; dsimp only; split <;> first | rfl | exact chooseSource_link _
theorem setMinShow_link (m : Nat) (s : State) : (setMinShow m s).link = s.link := by
  unfold setMinShow; dsimp only
  repeat' split
  all_goals first | rfl | exact elapseDeferral_link _
theorem setHold_link (v : ViewId) (s : State) : (setHold v s).link = s.link := by
  unfold setHold; split
  · rfl
  · rfl
theorem releaseHold_link (s : State) : (releaseHold s).link = s.link := by
  unfold releaseHold; split
  · rfl
  · exact chooseSource_link _
theorem takeWithdrawal_link (o : Origin) (s : State) : (takeWithdrawal o s).link = s.link := by
  unfold takeWithdrawal; split <;> simp [endAndChoose_link]
theorem zoneTransition_link (z : ZoneId) (zone : Zone) (st : ZoneState) (c : ZoneCause) (t : Time) (s : State) :
    (zoneTransition z zone st c t s).link = s.link := by
  unfold zoneTransition; dsimp only; split <;> rfl
theorem putZone_link (z : ZoneId) (c : ZoneConfig) (s : State) : (putZone z c s).link = s.link := by
  unfold putZone; dsimp only
  repeat' split
  all_goals first | rfl | exact zoneTransition_link ..
theorem dropZone_link (z : ZoneId) (c : Zone) (s : State) : (dropZone z c s).link = s.link := by
  unfold dropZone; dsimp only
  split
  · rfl
  · exact zoneTransition_link ..
theorem fireRule_link (r : RuleId) (rule : Rule) (s : State) : (fireRule r rule s).link = s.link := by
  rw [fireRule_eq]; rfl
theorem releaseRule_link (r : RuleId) (rule : Rule) (c : ClearCause) (s : State) : (releaseRule r rule c s).link = s.link := by
  rw [releaseRule_eq]; rfl
theorem disarmRule_link (r : RuleId) (rule : Rule) (c : ClearCause) (s : State) : (disarmRule r rule c s).link = s.link := by
  unfold disarmRule; dsimp only; split
  · exact releaseRule_link ..
  · rfl
theorem armRule_link (r : RuleId) (rule : Rule) (s : State) : (armRule r rule s).link = s.link := by
  unfold armRule; dsimp only; split
  · exact fireRule_link ..
  · rfl
theorem storeRule_link (r : RuleId) (c : RuleConfig) (run : RuleRun) (s : State) : (storeRule r c run s).link = s.link := by
  unfold storeRule; split
  · exact armRule_link ..
  · rfl
theorem putRule_link (r : RuleId) (c : RuleConfig) (s : State) : (putRule r c s).link = s.link := by
  unfold putRule; split <;> simp [storeRule_link, disarmRule_link]
theorem setArmed_link (r : RuleId) (c : Rule) (a : Bool) (s : State) : (setArmed r c a s).link = s.link := by
  unfold setArmed; repeat' split
  all_goals simp [armRule_link, disarmRule_link]
theorem writeCamera_link (m : CameraNotice → CameraMessage) (c : CameraId) (x : CameraConfig) (s : State) :
    (writeCamera m c x s).link = s.link := by
  unfold writeCamera; dsimp only; repeat' split
  all_goals rfl
theorem writeLine_link (l : LineId) (x : LineConfig) (s : State) : (writeLine l x s).link = s.link := by
  rw [writeLine_eq]; unfold lineWrites; dsimp only
  have : ∀ (ts : List (LineState × LineState)) (u : State),
      (ts.foldl (fun s t => lineTold ⟨l, t.1, t.2, s.now⟩ s) u).link = u.link := by
    intro ts; induction ts with
    | nil => intro u; rfl
    | cons t ts ih => intro u; rw [List.foldl_cons, ih]; rfl
  exact this _ _

/-- A judgement leaves the command queue as it is. -/
theorem hostCommand_commands (kind : Byte) (p : List Byte) (s : State) :
    ((hostCommand kind).2 p s).2.link.commands = s.link.commands := by
  have hj : ∀ {α : Type} (parse : List Byte → Except Turndown α) (ap : α → State → Answer × State),
      (∀ x, (ap x s).2.link.commands = s.link.commands) → (judged parse ap p s).2.link.commands = s.link.commands := by
    intro α parse ap h
    unfold judged; split
    · exact h _
    · rfl
  have hc : ∀ j : Judgement, (j p s).2.link.commands = s.link.commands →
      (configuration j p s).2.link.commands = s.link.commands := by
    intro j h; unfold configuration; split
    · rfl
    · exact h
  have hl : ∀ {t : State}, t.link = s.link → t.link.commands = s.link.commands := congrArg HostLink.commands
  unfold hostCommand
  split
  all_goals first
    | rfl
    | exact hj _ _ fun _ => rfl
    | exact hc _ (hj _ _ fun _ => rfl)
    | exact hc _ (hj _ _ fun x => hl (writeCamera_link ..))
    | exact hc _ (hj _ _ fun x => hl (putZone_link ..))
    | exact hc _ (hj _ _ fun x => hl (putView_link ..))
    | exact hc _ (hj _ _ fun x => hl (setMinShow_link ..))
    | exact hj _ _ fun x => hl (releaseHold_link ..)
    | (refine hc _ (hj _ _ fun x => ?_)
       try dsimp only [onRule]
       repeat' split
       all_goals first
         | rfl | exact hl (dropZone_link ..) | exact hl (putRule_link ..) | exact hl (disarmRule_link ..)
         | exact hl (setArmed_link ..) | exact hl (setRotation_link ..) | exact hl (writeLine_link ..))
    | (refine hj _ _ fun x => ?_
       try dsimp only [onRule]
       repeat' split
       all_goals first
         | rfl | exact hl (zoneTransition_link ..) | exact hl (setHold_link ..) | exact hl (takeWithdrawal_link ..))
    | skip
  · refine hj _ _ fun q => ?_
    have ht := takeRequest_link q s
    split
    · rfl
    · split <;> (rename_i h; rw [h] at ht; exact hl ht)
  · refine hj _ _ fun tid => ?_
    split
    · unfold cancelInFlight; split <;> rfl
    · split <;> rfl
  · refine hj _ _ fun _ => ?_
    split
    · unfold takeCommit; split <;> rfl
    · rfl
/-- A kind that no row carries is unassigned, and its command is refused UNKNOWN (R174). -/
theorem hostCommand_unassigned (kind : Byte) (h : ∀ i, hostKind i ≠ some kind) :
    unassigned kind = true ∧ hostCommand kind = (false, judgeUnknown) := by
  have hk : kind ∉ assignedKinds := by
    intro hm
    have hall : ∀ k ∈ assignedKinds, ∃ i, hostKind i = some k := by
      simp only [assignedKinds, List.forall_mem_cons]
      exact ⟨⟨.hello, rfl⟩, ⟨.openSession, rfl⟩, ⟨.closeSession, rfl⟩, ⟨.ping, rfl⟩, ⟨.setLink, rfl⟩, ⟨.restart, rfl⟩,
        ⟨.time, rfl⟩, ⟨.setCamera, rfl⟩, ⟨.getCamera, rfl⟩, ⟨.setClass, rfl⟩, ⟨.getClass, rfl⟩, ⟨.putZone, rfl⟩,
        ⟨.dropZone, rfl⟩, ⟨.relearnZone, rfl⟩, ⟨.getZone, rfl⟩, ⟨.putRule, rfl⟩, ⟨.dropRule, rfl⟩, ⟨.armRule, rfl⟩,
        ⟨.getRule, rfl⟩, ⟨.putView, rfl⟩, ⟨.dropView, rfl⟩, ⟨.setRotation, rfl⟩, ⟨.setMinshow, rfl⟩, ⟨.showView, rfl⟩,
        ⟨.withdraw, rfl⟩, ⟨.hold, rfl⟩, ⟨.release, rfl⟩, ⟨.getScreen, rfl⟩, ⟨.setFilter, rfl⟩, ⟨.pull, rfl⟩, ⟨.ack, rfl⟩,
        ⟨.setLine, rfl⟩, ⟨.driveLine, rfl⟩, ⟨.getLines, rfl⟩, ⟨.setHeadlink, rfl⟩, ⟨.relay, rfl⟩, ⟨.cancelRelay, rfl⟩,
        ⟨.getRelays, rfl⟩, ⟨.commit, rfl⟩, ⟨.restore, rfl⟩, ⟨.eraseProfile, rfl⟩, ⟨.getProfile, rfl⟩, nofun⟩
    obtain ⟨i, hi⟩ := hall kind hm
    exact h i hi
  refine ⟨by simp [unassigned, hk], ?_⟩
  have hn : ∀ k : Byte, k ∈ assignedKinds → kind.toNat ≠ k.toNat := fun k hm e =>
    hk (by rw [BitVec.eq_of_toNat_eq e]; exact hm)
  simp only [assignedKinds, List.forall_mem_cons] at hn
  unfold hostCommand
  split <;> first | rfl | (exfalso; rename_i e; simp_all)

/-- The taking of the oldest frame is what the row of its kind does (R164, R174). -/
theorem takeOldest_carries (f : Frame) (rest : List Frame) (s : State) (hc : s.link.commands = f :: rest)
    (ht : takeable s.link = true) : ∃ i, Carries i f.kind ∧ exec i s = .next (takeOldest s) := by
  have key : ∀ (i : Instr) (t : Byte → Bool) (any : Bool) (j : Judgement), exec i s = .next (takeWhen t any j s) →
      t f.kind = true → hostCommand f.kind = (any, j) → exec i s = .next (takeOldest s) := by
    intro i t any j he hk hh
    rw [he]
    simp [takeWhen, takeOldest, hc, ht, hk, hh]
  obtain ⟨seq, kind, payload, crc⟩ := f
  by_cases h : ∃ i, hostKind i = some kind
  · obtain ⟨i, hi⟩ := h
    refine ⟨i, .inl hi, ?_⟩
    cases i <;> simp only [hostKind, Option.some.injEq, reduceCtorEq] at hi <;>
      (subst hi; exact key _ (fun k => k == _) _ _ rfl (beq_self_eq_true _) rfl)
  · have h' : ∀ i, hostKind i ≠ some kind := fun i e => h ⟨i, e⟩
    obtain ⟨hu, hh⟩ := hostCommand_unassigned kind h'
    exact ⟨.unknownKind, .inr ⟨rfl, h'⟩, key _ _ _ _ rfl hu hh⟩

/-- A judgement leaves the frames that wait behind its command. -/
theorem takeOldest_commands (f : Frame) (rest : List Frame) (s : State) (hc : s.link.commands = f :: rest)
    (ht : takeable s.link = true) : (takeOldest s).link.commands = rest := by
  unfold takeOldest
  rw [hc]
  simp only [ht, if_true]
  unfold takeFrame
  dsimp only
  rw [(kick_link _).2.2.2.2.1]
  split
  · rfl
  · exact hostCommand_commands f.kind f.payload _

/-- Where nothing can be taken the taking does nothing. -/
theorem takeOldest_none (s : State) (h : s.link.commands = [] ∨ takeable s.link = false) : takeOldest s = s := by
  unfold takeOldest
  split
  · rcases h with h | h <;> simp_all
  · rfl

/-- Within a step the controller takes command after command as the rows would (R164). -/
theorem takeCommands_takesOn (n : Nat) : ∀ s : State, s.link.commands.length ≤ n → TakesOn s (takeCommands n s) := by
  induction n with
  | zero => exact fun s h => .done s (.inl (by simpa using h))
  | succ n ih =>
    intro s h
    cases hc : s.link.commands with
    | nil =>
      have h0 := takeOldest_none s (.inl hc)
      simp only [takeCommands, h0]
      exact ih s (by simp [hc])
    | cons f rest =>
      by_cases ht : takeable s.link = true
      · obtain ⟨i, hi, he⟩ := takeOldest_carries f rest s hc ht
        refine .taking i f rest s _ _ hc ht hi he (ih _ ?_)
        rw [takeOldest_commands f rest s hc ht]
        simp [hc] at h; omega
      · have ht' : takeable s.link = false := by simpa using ht
        have h0 := takeOldest_none s (.inr ht')
        have : ∀ m, takeCommands m s = s := fun m => by
          induction m with
          | zero => rfl
          | succ m ihm => simp [takeCommands, h0, ihm]
        rw [this]
        exact .done s (.inr ht')

/-- A check of R164: everything it can do is to take command after command, and to let the transmitter choose. -/
theorem checkCommands_takesOn (s : State) : ∃ u, TakesOn s u ∧ checkCommands s = u.kick :=
  ⟨_, takeCommands_takesOn _ s le_rfl, rfl⟩

end Sys2Proof.Machine
end

