-- ==== Sys2Proof/Tests/Slice0.lean ====
section
/-! SUPPORT. The model's own tests: ill-formed operands are refused, one step of each family on a small state with
results taken from the spec's worked examples, and for every statement a state that meets its hypotheses. -/

namespace Sys2Proof.Tests

open Sys2Proof.Machine Sys2Proof.Safety

-- Many small theorems: elaborated one after another.
set_option Elab.async false

/-! ### Small states -/

/-- What a next state satisfies; false where there is no next state. -/
def after_ (o : Host.Outcome State Fault Refusal) (p : State → Bool) : Bool :=
  match o with
  | .next t => p t
  | _ => Bool.false

/-- The part with an OPEN session in PULL mode. -/
def opened : State :=
  (State.reset.setLink { State.reset.link with
    session := { state := .opened, mode := .pull, window := 1, retransmit := 10, silence := 0, deadline := none } }).setReports
    { State.reset.reports with delivery := { State.reset.reports.delivery with session := .opened } }

/-- A command frame of SEQ 1. -/
def frame (kind : Byte) (payload : List Byte) : Frame := ⟨1, kind, payload, 0x1234⟩

/-- The part with one command frame waiting. -/
def asks (kind : Byte) (payload : List Byte) (s : State) : State :=
  s.setLink { s.link with commands := [frame kind payload] }

/-- A waiting command of an OPEN session with an empty cache can be taken. -/
theorem ready_asks (kind : Byte) (payload : List Byte) (s : State) (h : s.link = opened.link := by rfl) :
    Ready kind (frame kind payload) [] (asks kind payload s) :=
  ⟨rfl, rfl, .inl (by simp only [asks, State.setLink, h]; decide),
    by simp only [asks, State.setLink, h]; rfl, by simp only [asks, State.setLink, h]; rfl⟩

/-- A store in IDLE holds no configuration command off. -/
theorem unheld (s : State) (h : s.store.block = .idle := by rfl) : Unheld s := by
  simp [Unheld, h]

/-- The reply payload of the newest answer, without the four header bytes and the CRC. -/
def answerOf (s : State) : List Byte :=
  match s.link.cache.getLast? with
  | some e => (e.frame.drop 4).take (e.frame.length - 6)
  | none => []

/-- The command is answered with this payload. -/
def answersWith (i : Instr) (kind : Byte) (payload reply : List Byte) (s : State) : Bool :=
  after_ (exec i (asks kind payload s)) fun t => answerOf t == reply

/-- A field with its parity. -/
def field625 (p : Parity) : FieldInfo := ⟨Bool.true, 288, 720, 312, p, []⟩

def field525 (p : Parity) : FieldInfo := ⟨Bool.true, 240, 720, 262, p, []⟩

def badField : FieldInfo := ⟨Bool.false, 288, 720, 312, .odd, []⟩

/-- Camera C1 with some of its record replaced. -/
def cam1 (f : Camera → Camera) : State := State.reset.setCam 0 (f (State.reset.cams.get 0))

/-- A zone of 3 × 2 cells of camera C1. -/
def zoneCfg : ZoneConfig :=
  { camera := 0, col0 := 0, row0 := 0, col1 := 2, row1 := 1, component := .y, cls := 0, enabled := Bool.true
    causes := ⟨Bool.true, Bool.true, Bool.true, Bool.true, Bool.true⟩, priority := 1, label := [] }

/-- A runtime record in a state with a reference of 1602. -/
def zoneRun (st : ZoneState) : ZoneRun :=
  { state := st, reference := some 1602, learnSum := 0, learnCount := 0, history := [], lastS := none, lastD := none
    fieldsInState := 0, onsetCount := 0, lastCause := none, stamp := 0 }

/-- Zone Z0 in a state, in an OPEN session. -/
def zone0 (st : ZoneState) : State := opened.setZone 0 (some ⟨zoneCfg, zoneRun st⟩)

/-- One field summary of C1 on its way, with mean `m` for Z0. -/
def summary (m : Nat) (s : State) : State :=
  s.setWires { s.wires with camToZones := upd s.wires.camToZones 0 [.summary ⟨5, [(0, m)]⟩] }

/-- One notice of C1 on its way to the zone engine. -/
def noticed (previous new : CameraState) (s : State) : State :=
  s.setWires { s.wires with camToZones := upd s.wires.camToZones 0 [.notice ⟨previous, new, some .s625⟩] }

/-- A rule on Z0 with a mode and actions. -/
def ruleCfg (m : Mode) (actions : List Action) : RuleConfig :=
  { armed := Bool.true, mode := m, terms := [⟨.zone 0, Bool.false⟩, ⟨.zone 1, Bool.false⟩], window := 300
    cooldown := 500, actions := actions }

/-- A rule's runtime record. -/
def ruleRun (st : RuleState) : RuleRun :=
  { state := st, step := if st = .stepping then some 2 else none
    stepDeadline := if st = .stepping then some 0 else none
    cooldownDeadline := if st = .cooldown then some 0 else none, fireCount := 0, lastFired := none }

/-- Rule W4 in a state, in an OPEN session. -/
def rule4 (m : Mode) (actions : List Action) (st : RuleState) : State :=
  opened.setRule 4 (some ⟨ruleCfg m actions, ruleRun st⟩)

/-- A zone transition on its way to the rule engine. -/
def moved (z : ZoneId) (old new : ZoneState) (s : State) : State :=
  s.setWires { s.wires with zonesToRules := [.transition ⟨z, old, new, .onset, 0⟩] }

/-- A request of an origin for V2. -/
def request (o : Origin) (priority : Nat) : Request :=
  { origin := o, view := 2, priority := priority, remaining := 1000, dwellDeadline := none, lifetime := 4000
    arrival := 0 }

/-- The request set and the source, in an OPEN session. -/
def screen (rs : List Request) (src : Source) : State :=
  opened.setSched { opened.sched with requests := rs, source := src }

/-- A source of a state, shown since 0. -/
def src (st : SourceState) (shown : Option Origin) : Source := ⟨st, 1, shown, 0, none, none⟩

/-- Eight requests of rules. -/
def eightRequests : List Request :=
  [request (.rule 0) 3, request (.rule 1) 2, request (.rule 2) 2, request (.rule 3) 4, request (.rule 4) 5,
    request (.rule 5) 6, request (.rule 6) 7, request (.rule 7) 3]

/-- A record of a sequence, priority and mark. -/
def record (n p : Nat) (m : DeliveryMark) : Record := ⟨n, ⟨0, p, 0, .contact .inactive .active⟩, m⟩

/-- The records of a queue in an OPEN session in PUSH mode. -/
def pushing (rs : List Record) (window retry : Nat) (deadline : Option Time) (round : Option (List Nat)) : State :=
  (opened.setReports { opened.reports with
    records := rs, delivery := ⟨.opened, .push, window, 1000, retry, deadline, round⟩ }).setLink
    { opened.link with session := { opened.link.session with mode := .push } }

/-- A head transaction. -/
def transaction (tid : Byte) (attempts : Nat) : Transaction :=
  { tid := tid, origin := .rule 4, head := 6, op := .recall 12, attempts := attempts
    tag := if attempts = 0 then none else some 70, cancelPending := Bool.false, failure := none }

/-- The relay queue and the link. -/
def relaying (q : List Transaction) (inFlight : Bool) (st : LinkState) : State :=
  opened.setHead { opened.head with
    queue := q, inFlight := inFlight, nextTid := 30, nextTag := 71, link := st
    replyDeadline := if st = .awaitReply then some 0 else none
    line := if st = .sending ∨ st = .awaitReply then some ⟨.r38400, []⟩ else none }

/-- Line L1 with a record. -/
def line1 (f : Line → Line) : State := opened.setLine 0 (f (opened.lines.get 0))

/-- A small profile: a zone, a rule on it, an input line. -/
def smallProfile : Profile :=
  { factoryProfile with
    zones := upd factoryProfile.zones 0 (some zoneCfg)
    rules := upd factoryProfile.rules 4
      (some { ruleCfg .any [.report 1 Bool.true] with terms := [⟨.zone 0, Bool.false⟩, ⟨.line 0, Bool.true⟩] })
    lines := upd factoryProfile.lines 0 ⟨.input, .high, 5⟩ }

/-- A valid slot that spells the small profile. -/
def goodSlot : Slot := ⟨6, 0, ⟨[], some smallProfile⟩, crc32 [0, 0]⟩

/-- A part of the small profile has been handed to its block. -/
def handing (part : Part) (s : State) : State :=
  s.setStore { s.store with block := .restoring, restoreSlot := some .a, applying := some smallProfile, handed := [part] }

theorem handed_handing (part : Part) (s : State) : Handed part smallProfile (handing part s) :=
  ⟨rfl, by simp [handing, State.setStore]⟩

/-! ### Ill-formed operands -/

theorem test_wf_cell_off_picture :
    (Instr.fieldEnd 0 { field625 .odd with picture := [⟨90, 0, List.replicate 32 0, List.replicate 16 0, List.replicate 16 0⟩] }).wellFormed
      = Bool.false := by decide
theorem test_wf_cell_below_picture :
    (Instr.fieldEnd 0 { field625 .odd with picture := [⟨0, 72, List.replicate 32 0, List.replicate 16 0, List.replicate 16 0⟩] }).wellFormed
      = Bool.false := by decide
theorem test_wf_luminance_samples :
    (Instr.fieldEnd 0 { field625 .odd with picture := [⟨0, 0, List.replicate 31 0, List.replicate 16 0, List.replicate 16 0⟩] }).wellFormed
      = Bool.false := by decide
theorem test_wf_cb_samples :
    (Instr.fieldEnd 0 { field625 .odd with picture := [⟨0, 0, List.replicate 32 0, List.replicate 17 0, List.replicate 16 0⟩] }).wellFormed
      = Bool.false := by decide
theorem test_wf_cr_samples :
    (Instr.fieldEnd 0 { field625 .odd with picture := [⟨0, 0, List.replicate 32 0, List.replicate 16 0, []⟩] }).wellFormed
      = Bool.false := by decide
theorem test_wf_cell_twice :
    (Instr.fieldEnd 0 { field625 .odd with picture :=
      [⟨0, 0, List.replicate 32 0, List.replicate 16 0, List.replicate 16 0⟩,
        ⟨0, 0, List.replicate 32 1, List.replicate 16 0, List.replicate 16 0⟩] }).wellFormed = Bool.false := by decide
theorem test_wf_good_picture :
    (Instr.fieldEnd 0 { field625 .odd with picture :=
      [⟨89, 71, List.replicate 32 0, List.replicate 16 0, List.replicate 16 0⟩] }).wellFormed = Bool.true := by decide
theorem test_wf_image_length : (Instr.commitWriteDone (some ⟨65536, ⟨[], none⟩, 0⟩)).wellFormed = Bool.false := by decide
theorem test_wf_image_contents : (Instr.commitWriteDone (some ⟨2, ⟨[1], none⟩, 0⟩)).wellFormed = Bool.false := by decide
theorem test_wf_image_good : (Instr.commitWriteDone (some ⟨1, ⟨[1], none⟩, 0⟩)).wellFormed = Bool.true := by decide

/-- No row of the table gives bits. -/
theorem test_no_word_spells_a_command : decodeTableWord 16 0x1234 = none ∧
    State.reset.withFetchWord 16 0x1234 = State.reset := ⟨rfl, rfl⟩

/-! ### CRCs (R156, R196): the published check values of the two polynomials, over the characters 1 to 9 -/

theorem test_crc16_check : crc16 [0x31, 0x32, 0x33, 0x34, 0x35, 0x36, 0x37, 0x38, 0x39] = 0x29B1 := by decide +kernel
theorem test_crc32_check : crc32 [0x31, 0x32, 0x33, 0x34, 0x35, 0x36, 0x37, 0x38, 0x39] = 0xCBF43926 := by decide +kernel

/-! ### Witnesses: for each clause of a statement a state that meets its hypotheses -/

theorem witness_stepTakesFront : (State.reset.setPending [.timeBaseTick]).pending = .timeBaseTick :: [] ∧
    State.reset.pending = [] := ⟨rfl, rfl⟩

theorem witness_timeBaseTicks : (State.reset.setNow 0xFFFFFFFF).now = 0xFFFFFFFF := rfl

/-- Slot A holds a valid profile with a zone, a rule and an input line. -/
def stored : State := State.reset.setStore { State.reset.store with slotA := goodSlot }

theorem witness_fullReset_loads :
    newestSlot (judgeSlot stored.store.slotA) (judgeSlot stored.store.slotB) = some .a ∧
    checkedProfile (slotOf .a stored.store) = some smallProfile := by decide +kernel

/-- Slot A is valid and newest, but its profile fails a check; slot B holds a profile whose input line has debounce 0, and
every pin is high. -/
def brokenA : State :=
  let p := { smallProfile with lines := upd smallProfile.lines 0 ⟨.input, .high, 0⟩ }
  (State.reset.setStore { State.reset.store with
    slotA := { goodSlot with contents := ⟨[], none⟩ }
    slotB := { goodSlot with generation := 5, contents := ⟨[], some p⟩ } }).setExtPins (Vector.replicate 8 .high)

theorem witness_fullReset_falls_back :
    newestSlot (judgeSlot brokenA.store.slotA) (judgeSlot brokenA.store.slotB) = some .a ∧
    checkedProfile (slotOf .a brokenA.store) = none ∧ (checkedProfile (slotOf .b brokenA.store)).isSome ∧
    newestSlot (judgeSlot State.reset.store.slotA) (judgeSlot State.reset.store.slotB) = none := by decide +kernel

/-- R130: at reset an INPUT line at its active level with debounce 0 is ACTIVE, and offers its CONTACT report. -/
theorem test_powerOn_pin : after_ (exec (.powerOn ⟨.low, .low, .low, .low⟩) brokenA) (fun t =>
    t.store.startSource == some .b && (t.lines.get 0).accepted == .active && t.wires.offers.length == 1) = true := by
  decide +kernel

theorem witness_fullReset_defines :
    after_ (exec (.powerOn ⟨.low, .low, .low, .low⟩) stored) (fun t =>
      (t.ruleEngine.table.get 4).isSome && (t.zoneEngine.table.get 0).isSome) = true := by decide +kernel

theorem witness_commandsTurnedAway_closed :
    hostKind .ping = some 0x04 ∧ (asks 0x04 [] State.reset).link.commands = frame 0x04 [] :: [] ∧
    takeable (asks 0x04 [] State.reset).link = true ∧ (asks 0x04 [] State.reset).link.session.state = .closed := by decide

theorem witness_commandsTurnedAway_unknown :
    Ready 0x80 (frame 0x80 []) [] (asks 0x80 [] opened) ∧ (∀ i, hostKind i ≠ some 0x80) ∧ 128 ≤ (0x80 : Byte).toNat :=
  ⟨ready_asks _ _ _, fun i => by cases i <;> simp [hostKind], by decide⟩

/-- A store with a profile operation in progress. -/
def busy (b : BlockState) : State := opened.setStore { opened.store with block := b }

theorem witness_configurationHeldOff :
    Instr.setFilter ∈ configurationCommands ∧ hostKind .setFilter = some 0x38 ∧
    Ready 0x38 (frame 0x38 []) [] (asks 0x38 [] (busy .restoring)) ∧
    Ready 0x38 (frame 0x38 []) [] (asks 0x38 [] (busy .erasing)) :=
  ⟨by decide, rfl, ready_asks _ _ _, ready_asks _ _ _⟩

theorem witness_refusalsChangeNothing :
    hostKind .getZone = some 0x1B ∧ Ready 0x1B (frame 0x1B [0]) [] (asks 0x1B [0] opened) ∧
    ∃ t, exec .getZone (asks 0x1B [0] opened) = .next t ∧ Answered (frame 0x1B [0]) (0x05 :: []) t :=
  ⟨rfl, ready_asks _ _ _, _, rfl, _, rfl, rfl, rfl, rfl⟩

theorem witness_goodFieldRun :
    fieldClass badField = none ∧ fieldClass (field625 .odd) = some .s625 ∧
    ((cam1 id).cams.get 0).state = .searching ∧ ((cam1 id).cams.get 0).runCount = 0 ∧
    (let c := (cam1 fun c => { c with state := .lost, runCount := 3, runStandard := some .s625 }).cams.get 0;
      c.state = .lost ∧ 3 ≤ c.runCount ∧ c.runStandard = some .s625) ∧
    (let c := (cam1 fun c => { c with runCount := 2, runStandard := some .s625 }).cams.get 0;
      c.state = .searching ∧ 0 < c.runCount ∧ c.runCount < 3 ∧ c.runStandard = some .s625) ∧
    (let c := (cam1 fun c => { c with runCount := 3, runStandard := some .s525 }).cams.get 0;
      c.state = .searching ∧ c.runStandard ≠ some .s625) := by decide

theorem witness_lockedField :
    ((cam1 fun c => { c with state := .off }).cams.get 0).state = .off ∧
    (let c := (cam1 fun c => { c with state := .locked, standard := some .s625 }).cams.get 0;
      c.state = .locked ∧ c.standard = some .s625 ∧ c.standard ≠ some .s525) ∧
    fieldClass badField = none ∧ fieldClass (field525 .odd) = some .s525 ∧
    paritySelected .odd .odd = true ∧ paritySelected .odd .even = false := by decide

theorem witness_measuresOfAField :
    zoneCfg.col0 ≤ zoneCfg.col1 ∧ zoneCfg.row0 ≤ zoneCfg.row1 ∧ zoneCfg.row0 < rowsOf .s525 ∧
    (let z := { zoneCfg with row0 := 71, row1 := 71, col0 := 89, col1 := 89 };
      z.col0 ≤ z.col1 ∧ z.row0 ≤ z.row1 ∧ z.row0 < rowsOf .s625) ∧ 1 ≤ (factoryClass 20).darkFloor := by decide

theorem witness_cameraEvents :
    reached 0 0 = true ∧
    ((cam1 fun c => { c with runDeadline := some 0 }).cams.get 0).runDeadline = some 0 ∧
    (let c := (cam1 fun c => { c with state := .locked, lossDeadline := some 0 }).cams.get 0;
      c.state = .locked ∧ c.lossDeadline = some 0) ∧
    (let c := (cam1 fun c => { c with state := .lost, lostDeadline := some 0 }).cams.get 0;
      c.state = .lost ∧ c.lostDeadline = some 0) ∧
    ((cam1 fun c => { c with state := .off }).cams.get 0).state = .off ∧ ((cam1 id).cams.get 0).state ≠ .off ∧
    parseSetCamera [1, 0, 2] = .ok ((0 : CameraId), ⟨false, .both⟩) ∧
    parseSetCamera [1, 1, 2] = .ok ((0 : CameraId), ⟨true, .both⟩) :=
  ⟨rfl, rfl, ⟨rfl, rfl⟩, ⟨rfl, rfl⟩, rfl, by decide, rfl, rfl⟩

theorem witness_cameraEvents_taken :
    Ready 0x10 (frame 0x10 [1, 0, 2]) [] (asks 0x10 [1, 0, 2] opened) ∧ Unheld (asks 0x10 [1, 0, 2] opened) ∧
    Handed (.camera 0) smallProfile (handing (.camera 0) opened) :=
  ⟨ready_asks _ _ _, unheld _, handed_handing _ _⟩

theorem witness_learningField :
    (summary 1602 (zone0 .off)).wires.camToZones.get 0 = .summary ⟨5, [(0, 1602)]⟩ :: [] ∧
    (∃ z, (zone0 .off).zoneEngine.table.get 0 = some z ∧ z.run.state = .off) ∧
    (∃ z, (zone0 .blind).zoneEngine.table.get 0 = some z ∧ z.run.state = .blind) ∧
    (∃ z, (zone0 .learning).zoneEngine.table.get 0 = some z ∧ z.run.state = .learning ∧
      z.run.learnCount + 1 < ((zone0 .learning).zoneEngine.classes.get z.cfg.cls).learn) ∧
    (∃ z, (opened.setZone 0 (some ⟨zoneCfg, { zoneRun .learning with learnCount := 15 }⟩)).zoneEngine.table.get 0
      = some z ∧ z.run.state = .learning ∧ (opened.zoneEngine.classes.get z.cfg.cls).learn ≤ z.run.learnCount + 1) ∧
    (opened.setWires { opened.wires with camToZones := upd opened.wires.camToZones 0 [.summary ⟨5, []⟩] }).wires.camToZones.get 0
      = .summary ⟨5, []⟩ :: [] :=
  ⟨rfl, ⟨_, rfl, rfl⟩, ⟨_, rfl, rfl⟩, ⟨_, rfl, rfl, by decide⟩, ⟨_, rfl, rfl, by decide⟩, rfl⟩

/-- Z0 as a summary of mean 1900 finds it: some hits, some fields. -/
def seen (st : ZoneState) (hits : List Bool) (fields : Nat) (cls : SensClass) : State :=
  let s := summary 1900 (opened.setZone 0 (some ⟨zoneCfg, { zoneRun st with history := hits, fieldsInState := fields }⟩))
  s.setZones { s.zoneEngine with classes := upd s.zoneEngine.classes 0 cls }

/-- The conditions of the five clauses on a zone in QUIET or ACTIVE: the hit count, and the fields in state. -/
def judgement (s : State) : Option (ZoneState × Nat × Nat) :=
  (s.zoneEngine.table.get 0).map fun z =>
    let cls := s.zoneEngine.classes.get z.cfg.cls
    (z.run.state, (((decide (cls.threshold ≤ changeMeasure cls 1602 1900) :: z.run.history).take 16).take cls.window).count true,
      bump z.run.fieldsInState)

theorem witness_judgedField :
    (seen .quiet [true, true] 0 (factoryClass 20)).wires.camToZones.get 0 = .summary ⟨5, [(0, 1900)]⟩ :: [] ∧
    judgement (seen .quiet [true, true] 0 (factoryClass 20)) = some (.quiet, 3, 1) ∧
    judgement (seen .quiet [true] 0 (factoryClass 20)) = some (.quiet, 2, 1) ∧
    judgement (seen .active [] 24 (factoryClass 20)) = some (.active, 1, 25) ∧
    judgement (seen .active [true] 24 { factoryClass 20 with maxActive := 25 }) = some (.active, 2, 25) ∧
    judgement (seen .active [true] 24 (factoryClass 20)) = some (.active, 2, 25) ∧
    ((factoryClass 20).kOn, (factoryClass 20).kOff, (factoryClass 20).hold, (factoryClass 20).maxActive) = (3, 1, 25, 0) := by
  decide

/-- The notices of the restored records of C2 and then of C1 on their way to the zone engine. -/
def restoredNotices : State :=
  (opened.tellZones 1 (.restored 1 ⟨.searching, .off, none⟩)).tellZones 0 (.restored 2 ⟨.locked, .off, some .s625⟩)

theorem witness_noticeAtZones_restored :
    restoredNotices.wires.camToZones.get 0 = .restored 2 ⟨.locked, .off, some .s625⟩ :: [] ∧
    .restored 1 ⟨.searching, .off, none⟩ ∈ restoredNotices.wires.camToZones.get 1 ∧
    restoredNotices.wires.camToZones.get 1 = .restored 1 ⟨.searching, .off, none⟩ :: [] ∧
    restoredPlaces restoredNotices = [2, 1] := by decide

theorem witness_noticeAtZones :
    (noticed .locked .lost (zone0 .active)).wires.camToZones.get 0 = .notice ⟨.locked, .lost, some .s625⟩ :: [] ∧
    (noticed .lost .locked (zone0 .blind)).wires.camToZones.get 0 = .notice ⟨.lost, .locked, some .s625⟩ :: [] ∧
    (noticed .lost .searching (zone0 .blind)).wires.camToZones.get 0 = .notice ⟨.lost, .searching, some .s625⟩ :: [] ∧
    zoneCfg.camera = 0 ∧ zoneCfg.camera ≠ 1 ∧ opened.zoneEngine.table.get 0 = none ∧
    (∀ st, (zone0 st).zoneEngine.table.get 0 = some ⟨zoneCfg, zoneRun st⟩) ∧
    hasVisibleCells (some .s625) zoneCfg = true ∧ hasVisibleCells (some .s525) { zoneCfg with row0 := 60, row1 := 71 } = false :=
  ⟨rfl, rfl, rfl, rfl, by decide, rfl, fun _ => rfl, rfl, rfl⟩

/-- PUT_ZONE of Z0: C1, cells (0, 0) to (2, row), enabled or not. -/
def putZoneBytes (enabled row : Byte) : List Byte := [0, 1, 0, 0, 2, row, 0, 0, enabled, 31, 1, 0, 0]

theorem witness_zonePut :
    Ready 0x18 (frame 0x18 (putZoneBytes 1 1)) [] (asks 0x18 (putZoneBytes 1 1) opened) ∧
    Unheld (asks 0x18 (putZoneBytes 1 1) opened) ∧
    parseZone (putZoneBytes 1 1) = .ok ((0 : ZoneId), zoneCfg) ∧
    parseZone (putZoneBytes 1 71) = .ok ((0 : ZoneId), { zoneCfg with row1 := 71 }) ∧
    parseZone (putZoneBytes 0 1) = .ok ((0 : ZoneId), { zoneCfg with enabled := false }) ∧
    opened.zoneEngine.table.get 0 = none ∧
    (zone0 .quiet).zoneEngine.table.get 0 = some ⟨zoneCfg, zoneRun .quiet⟩ ∧
    (opened.setZone 0 (some ⟨{ zoneCfg with enabled := false }, zoneRun .off⟩)).zoneEngine.table.get 0
      = some ⟨{ zoneCfg with enabled := false }, zoneRun .off⟩ :=
  ⟨ready_asks _ _ _, unheld _, rfl, rfl, rfl, rfl, rfl, rfl⟩

theorem witness_zoneDropRelearn :
    parseId 48 [1] = .ok (1 : ZoneId) ∧ (zone0 .quiet).zoneEngine.table.get 1 = none ∧
    Ready 0x19 (frame 0x19 [1]) [] (asks 0x19 [1] (zone0 .quiet)) ∧ Unheld (asks 0x19 [1] (zone0 .quiet)) ∧
    Ready 0x1A (frame 0x1A [1]) [] (asks 0x1A [1] (zone0 .quiet)) ∧
    parseId 48 [0] = .ok (0 : ZoneId) ∧ (zone0 .quiet).zoneEngine.table.get 0 = some ⟨zoneCfg, zoneRun .quiet⟩ ∧
    Ready 0x19 (frame 0x19 [0]) [] (asks 0x19 [0] (zone0 .quiet)) ∧ Unheld (asks 0x19 [0] (zone0 .quiet)) ∧
    Ready 0x1A (frame 0x1A [0]) [] (asks 0x1A [0] (zone0 .quiet)) ∧ zoneCfg.enabled = true ∧
    (∀ r, (zone0 .quiet).ruleEngine.table.get r = none) ∧
    (∃ rule, (rule4 .any [] .idle).ruleEngine.table.get 4 = some rule ∧ ⟨.zone 0, false⟩ ∈ rule.cfg.terms) :=
  ⟨rfl, rfl, ready_asks _ _ _, unheld _, ready_asks _ _ _, rfl, rfl, ready_asks _ _ _, unheld _, ready_asks _ _ _, rfl,
    by decide, _, rfl, by decide⟩

/-- SET_CLASS of K0 at the ends of its ranges. -/
def setClassBytes : List Byte := [0, 3, 0xE7, 0x0F, 0xF0, 16, 16, 15, 255, 64, 8, 0xFF, 0xFF]

theorem witness_classesAndRestoredZones :
    Ready 0x14 (frame 0x14 setClassBytes) [] (asks 0x14 setClassBytes opened) ∧ Unheld (asks 0x14 setClassBytes opened) ∧
    parseSetClass setClassBytes = .ok ((0 : ClassId), ⟨999, 4080, 16, 16, 15, 255, 64, 8, 65535⟩) ∧
    Handed .zones smallProfile (handing .zones opened) ∧ smallProfile.zones.get 0 = some zoneCfg ∧
    smallProfile.zones.get 1 = none :=
  ⟨ready_asks _ _ _, unheld _, by decide +kernel, handed_handing _ _, rfl, rfl⟩

theorem witness_rulesTakeTermEvents :
    (moved 0 .quiet .active opened).wires.zonesToRules = .transition ⟨0, .quiet, .active, .onset, 0⟩ :: [] ∧
    (opened.setWires { opened.wires with linesToRules := upd opened.wires.linesToRules 2 [⟨2, .inactive, .active, 0⟩] }).wires.linesToRules.get 2
      = ⟨2, .inactive, .active, 0⟩ :: [] := ⟨rfl, rfl⟩

theorem witness_termsAndConditions :
    opened.ruleEngine.zoneCopy.get 0 = zoneValue .blind ∧ (ruleCfg .any []).mode = .any ∧ (ruleCfg .all []).mode = .all ∧
    (ruleCfg (.count 2) []).mode = .count 2 ∧ (ruleCfg .order []).mode = .order := by decide

theorem witness_ruleDeadlines :
    (rule4 .order [] .stepping).ruleEngine.table.get 4 = some ⟨ruleCfg .order [], ruleRun .stepping⟩ ∧
    (ruleRun .stepping).stepDeadline = some 0 ∧
    (rule4 .any [] .cooldown).ruleEngine.table.get 4 = some ⟨ruleCfg .any [], ruleRun .cooldown⟩ ∧
    (ruleRun .cooldown).cooldownDeadline = some 0 := ⟨rfl, rfl, rfl, rfl⟩

/-- PUT_RULE of W4: ANY of the terms Z0 and Z1, a report. -/
def putRuleBytes : List Byte := [4, 1, 0, 0, 2, 1, 0, 1, 1, 1, 0x2C, 1, 0xF4, 1, 1, 3, 1]

/-- Zones Z0 and Z1 are defined. -/
def twoZones (s : State) : State :=
  (s.setZone 0 (some ⟨zoneCfg, zoneRun .quiet⟩)).setZone 1 (some ⟨zoneCfg, zoneRun .quiet⟩)

/-- The statuses of the references that fail, in record order (R68). -/
def failures (s : State) (cfg : RuleConfig) : List Byte :=
  cfg.terms.filterMap (fun t => match t.operand with
      | .zone z => if s.zoneEngine.table.get z = none then some 0x05 else none
      | .line l => if (s.lines.get l).mode = .input then none else some 0x0A)
    ++ cfg.actions.filterMap fun
      | .showView v _ _ _ _ => if s.sched.views.get v = none then some 0x05 else none
      | .line l _ => if (s.lines.get l).mode = .output then none else some 0x0A
      | _ => none

theorem witness_ruleCommands :
    Ready 0x20 (frame 0x20 putRuleBytes) [] (asks 0x20 putRuleBytes (twoZones opened)) ∧
    Unheld (asks 0x20 putRuleBytes (twoZones opened)) ∧
    parseRule putRuleBytes = .ok ((4 : RuleId), ruleCfg .any [.report 3 true]) ∧
    failures (twoZones opened) (ruleCfg .any [.report 3 true]) = [] ∧
    Ready 0x20 (frame 0x20 putRuleBytes) [] (asks 0x20 putRuleBytes opened) ∧
    failures opened (ruleCfg .any [.report 3 true]) = 0x05 :: [0x05] ∧
    Ready 0x22 (frame 0x22 [4, 1]) [] (asks 0x22 [4, 1] opened) ∧ Ready 0x21 (frame 0x21 [4]) [] (asks 0x21 [4] opened) ∧
    opened.ruleEngine.table.get 4 = none ∧
    (rule4 .any [] .fired).ruleEngine.table.get 4 = some ⟨ruleCfg .any [], ruleRun .fired⟩ ∧
    Ready 0x22 (frame 0x22 [4, 0]) [] (asks 0x22 [4, 0] (rule4 .any [] .fired)) ∧
    Unheld (asks 0x22 [4, 0] (rule4 .any [] .fired)) ∧
    parseArmRule [4, 0] = .ok ((4 : RuleId), false) ∧ parseArmRule [4, 1] = .ok ((4 : RuleId), true) ∧
    Ready 0x21 (frame 0x21 [4]) [] (asks 0x21 [4] (rule4 .any [] .fired)) ∧ parseId 24 [4] = .ok (4 : RuleId) :=
  ⟨ready_asks _ _ _, unheld _, by decide +kernel, rfl, ready_asks _ _ _, rfl, ready_asks _ _ _, ready_asks _ _ _, rfl, rfl,
    ready_asks _ _ _, unheld _, rfl, rfl, ready_asks _ _ _, rfl⟩

theorem witness_rulesRestored :
    Handed .rulesRemove smallProfile (handing .rulesRemove opened) ∧
    Handed .rulesArm smallProfile (handing .rulesArm opened) ∧
    ZoneMessage.restart ∉ (handing .rulesArm opened).wires.zonesToRules ∧
    (opened.tellRules .restart).wires.zonesToRules = .restart :: [] :=
  ⟨handed_handing _ _, handed_handing _ _, by decide, rfl⟩

theorem witness_topAndCandidate :
    eightRequests ≠ [] ∧ opened.sched.hold = none ∧
    topRequest eightRequests = some (request (.rule 6) 7) ∧ evictionCandidate eightRequests = some (request (.rule 1) 2) := by
  decide

theorem witness_searchFindsFirst : 0 < opened.sched.rotation.length ∧ 5 < opened.sched.rotation.length ∧
    search { opened.sched with camCopy := upd opened.sched.camCopy 0 .locked } 5 = some 0 := by decide

theorem witness_holdAndRelease :
    Ready 0x2F (frame 0x2F []) [] (asks 0x2F [] opened) ∧ opened.sched.hold = none ∧
    (opened.setSched { opened.sched with hold := some 2 }).sched.hold = some 2 ∧
    Ready 0x2E (frame 0x2E [11]) [] (asks 0x2E [11] opened) ∧ parseId 12 [11] = .ok (11 : ViewId) ∧
    opened.sched.views.get 11 = none ∧ Ready 0x2E (frame 0x2E [7]) [] (asks 0x2E [7] opened) ∧ parseId 12 [7] = .ok (7 : ViewId) ∧ (opened.sched.views.get 7).isSome :=
  ⟨ready_asks _ _ _, rfl, rfl, ready_asks _ _ _, rfl, rfl, ready_asks _ _ _, rfl, rfl⟩

/-- The host's request of SHOW_VIEW V2: priority 3, dwell 20 s, lifetime 120 s. -/
def showBytes : List Byte := [2, 3, 20, 0, 120]

theorem witness_requestEnters :
    (opened.sched.views.get 8).isNone ∧ (opened.sched.views.get 2).isSome ∧
    requestOf .host [request .host 3] = some (request .host 3) ∧ requestOf .host eightRequests = none ∧
    8 ≤ eightRequests.length ∧ evictionCandidate eightRequests = some (request (.rule 1) 2) ∧
    (request (.rule 1) 2).priority < 3 ∧
    Ready 0x2C (frame 0x2C showBytes) [] (asks 0x2C showBytes opened) ∧
    parseShow showBytes = .ok ⟨.host, 2, 3, 20, 120⟩ ∧
    Ready 0x2C (frame 0x2C [8, 3, 20, 0, 120]) [] (asks 0x2C [8, 3, 20, 0, 120] opened) ∧
    parseShow [8, 3, 20, 0, 120] = .ok ⟨.host, 8, 3, 20, 120⟩ ∧
    (opened.sendRequest ⟨.rule 4, 2, 2, 1, 1⟩).wires.requests = ⟨.rule 4, 2, 2, 1, 1⟩ :: [] :=
  ⟨rfl, rfl, rfl, rfl, by decide, rfl, by decide, ready_asks _ _ _, rfl, ready_asks _ _ _, rfl, rfl⟩

theorem witness_requestEnds :
    requestOf (.rule 4) (screen [request (.rule 4) 3] (src .request (some (.rule 4)))).sched.requests
      = some (request (.rule 4) 3) ∧
    shownNow (request (.rule 4) 3) (screen [request (.rule 4) 3] (src .request (some (.rule 4)))) ∧
    { request (.rule 4) 3 with dwellDeadline := some 0 }.dwellDeadline = some 0 ∧ reached 0 0 = true ∧
    reached 4000 (request (.rule 4) 3).lifetime = true ∧
    (opened.sendWithdrawal (.rule 4)).wires.withdrawals = .rule 4 :: [] ∧
    requestOf (.rule 4) (opened.sendWithdrawal (.rule 4)).sched.requests = none ∧ requestOf .host opened.sched.requests = none ∧ (request .host 3).origin = .host ∧
    Ready 0x2D (frame 0x2D []) [] (asks 0x2D [] (screen [request .host 3] (src .request (some .host)))) ∧
    Ready 0x2D (frame 0x2D []) [] (asks 0x2D [] opened) :=
  ⟨rfl, ⟨rfl, rfl⟩, rfl, rfl, rfl, rfl, rfl, rfl, rfl, ready_asks _ _ _, ready_asks _ _ _⟩

theorem witness_rotationAndDeferral :
    (screen [] { src .rotating none with rotationDeadline := some 0 }).sched.source.rotationDeadline = some 0 ∧
    (screen [request .host 3] { src .rotating none with deferral := some 0 }).sched.source.deferral = some 0 ∧
    reached opened.now 0 = true ∧
    (opened.tellSched 0 ⟨.lost, .locked, none⟩).wires.camToSched.get 0 = ⟨.lost, .locked, none⟩ :: [] ∧
    (screen [] (src .rotating none)).sched.source.state = .rotating ∧ opened.sched.source.state = .blank ∧
    positionShowable opened.sched 1 = false ∧
    positionShowable { opened.sched with camCopy := upd opened.sched.camCopy 1 .locked } 1 = true := by decide

theorem witness_viewCommands :
    Ready 0x28 (frame 0x28 [8, 0, 1, 1, 0]) [] (asks 0x28 [8, 0, 1, 1, 0] opened) ∧
    parseView [8, 0, 1, 1, 0] = .ok ((8 : ViewId), singleView 0) ∧
    Ready 0x29 (frame 0x29 [7]) [] (asks 0x29 [7] opened) ∧ parseId 12 [7] = .ok (7 : ViewId) ∧
    (opened.sched.views.get 7).isSome ∧ (∀ e ∈ opened.sched.rotation, e.view ≠ 7) ∧ opened.sched.hold ≠ some 7 ∧
    Ready 0x2A (frame 0x2A [1, 6, 9]) [] (asks 0x2A [1, 6, 9] opened) ∧ parseRotation [1, 6, 9] = .ok [⟨6, 9⟩] ∧
    (opened.sched.views.get 6).isSome ∧ Unheld (asks 0x28 [8, 0, 1, 1, 0] opened) ∧
    Ready 0x2B (frame 0x2B [0, 30]) [] (asks 0x2B [0, 30] opened) ∧ parseMinShow [0, 30] = .ok 30 ∧
    reached 299 (later 0 (30 * 10)) = false ∧ reached 300 (later 0 (30 * 10)) = true :=
  ⟨ready_asks _ _ _, rfl, ready_asks _ _ _, rfl, rfl, by decide, by decide, ready_asks _ _ _, rfl, rfl, unheld _,
    ready_asks _ _ _, by decide +kernel, rfl, rfl⟩

theorem witness_viewCommands_refused :
    Ready 0x29 (frame 0x29 [8]) [] (asks 0x29 [8] opened) ∧ Unheld (asks 0x29 [8] opened) ∧
    parseId 12 [8] = .ok (8 : ViewId) ∧ opened.sched.views.get 8 = none ∧
    Ready 0x29 (frame 0x29 [0]) [] (asks 0x29 [0] opened) ∧ (opened.sched.views.get 0).isSome ∧
    (∃ e ∈ opened.sched.rotation, e.view = 0) ∧ (∃ q ∈ (screen eightRequests (src .blank none)).sched.requests, q.view = 2) ∧
    (opened.setSched { opened.sched with hold := some 7 }).sched.hold = some 7 ∧
    (∃ rule, (rule4 .any [.showView 7 1 1 1 true] .idle).ruleEngine.table.get 4 = some rule ∧
      .showView 7 1 1 1 true ∈ rule.cfg.actions) ∧
    Ready 0x2A (frame 0x2A [1, 8, 9]) [] (asks 0x2A [1, 8, 9] opened) ∧ parseRotation [1, 8, 9] = .ok [⟨8, 9⟩] :=
  ⟨ready_asks _ _ _, unheld _, rfl, rfl, ready_asks _ _ _, rfl, by decide, by decide, rfl, ⟨_, rfl, by decide⟩,
    ready_asks _ _ _, rfl⟩

theorem witness_scheduleRestored :
    Handed .schedule smallProfile (handing .schedule opened) ∧
    search { opened.sched with views := smallProfile.views, rotation := smallProfile.rotation } 0 = none ∧
    search { opened.sched with
      views := smallProfile.views, rotation := smallProfile.rotation, camCopy := upd opened.sched.camCopy 2 .locked } 0
      = some 2 ∧ (smallProfile.rotation[2]?).isSome := ⟨handed_handing _ _, by decide, by decide, rfl⟩

theorem witness_framesComposed :
    (opened.sendPresentation (.rotating 2 1)).wires.presentations = .rotating 2 1 :: [] ∧
    opened.comp.pending.getD opened.comp.applied = .blank ∧ viewOf (.rotating 2 1) = some 2 ∧
    opened.sched.views.get 2 = some (singleView 2) := by decide

/-- A ZONE offer of a priority, with every kind enabled. -/
def offering (p : Nat) (rs : List Record) : State :=
  (pushing rs 1 0 none none).setWires { opened.wires with offers := [⟨0, p, 0, .zone .quiet .active .onset none none none 0⟩] }

/-- Thirty-two UNSENT records of priority 1, but the third of priority 0. -/
def fullQueue : List Record :=
  [record 1 1 .unsent, record 2 1 .unsent, record 3 0 .unsent] ++ (List.range 29).map fun n => record (n + 4) 1 .unsent

theorem witness_reportEnters :
    (offering 1 []).wires.offers = [] ++ ⟨0, 1, 0, .zone .quiet .active .onset none none none 0⟩ :: [] ∧
    (opened.reports.filter.get (kindIndex .zone)).enable = false ∧
    (opened.reports.filter.get (kindIndex .contact)).enable = false ∧
    (opened.reports.filter.get (kindIndex .rule)) = ⟨true, 0⟩ ∧
    fullQueue = [record 1 1 .unsent, record 2 1 .unsent] ++ record 3 0 .unsent
      :: (List.range 29).map (fun n => record (n + 4) 1 .unsent) ∧
    32 ≤ fullQueue.length ∧ (fullQueue.map (·.seq)).Nodup ∧
    (∀ x ∈ fullQueue, x.mark = .unsent → (record 3 0 .unsent).report.priority ≤ x.report.priority) := by decide

theorem witness_transmitterChooses :
    (opened.setLink { opened.link with tx := some ⟨[], .immediate, .r9600⟩ }).link.tx.isSome ∧ opened.link.tx = none ∧
    (opened.setLink { opened.link with immediate := [.nak 1 .badCrc] }).link.immediate = .nak 1 .badCrc :: [] ∧
    (opened.setLink { opened.link with cache := [⟨1, 0, [1], .unsent, none⟩] }).link.cache
      = [] ++ ⟨1, 0, [1], .unsent, none⟩ :: [] ∧
    (pushing [record 1 1 .pushed, record 2 1 .unsent] 2 0 none none).reports.records
      = [record 1 1 .pushed] ++ record 2 1 .unsent :: [] ∧
    (([record 1 1 .pushed, record 2 1 .unsent].filter fun x => x.mark != .unsent).length < 2) ∧
    (pushing [record 1 1 .pushed] 1 1 none (some [1])).reports.delivery.round = some (1 :: []) ∧
    (pushing [record 1 1 .pushed] 1 1 none (some [])).reports.delivery.round = some [] ∧
    (let d := (pushing [] 1 0 none none).reports.delivery; d.session = .opened ∧ d.mode = .push) := by decide;

/-- SET_FILTER: every kind enabled at minimum 0. -/
def filterBytes : List Byte := (List.replicate 9 [1, 0]).flatten

theorem witness_filterAndHeadSettings :
    Ready 0x38 (frame 0x38 filterBytes) [] (asks 0x38 filterBytes opened) ∧ Unheld (asks 0x38 filterBytes opened) ∧
    (∃ f, parseFilter filterBytes = .ok f) ∧
    Ready 0x48 (frame 0x48 [1, 255, 3, 50]) [] (asks 0x48 [1, 255, 3, 50] opened) ∧
    parseHeadlink [1, 255, 3, 50] = .ok ⟨.r38400, 255, 3, 50⟩ ∧ parseHeadlink [0, 2, 0, 1] = .ok ⟨.r19200, 2, 0, 1⟩ ∧
    Handed .filter smallProfile (handing .filter opened) ∧ Handed .headLink smallProfile (handing .headLink opened) :=
  ⟨ready_asks _ _ _, unheld _, ⟨_, rfl⟩, ready_asks _ _ _, rfl, rfl, handed_handing _ _, handed_handing _ _⟩

theorem witness_ackRemoves :
    Ready 0x3A (frame 0x3A [0, 1]) [] (asks 0x3A [0, 1] opened) ∧ parseWord [0, 1] = .ok 1 ∧ parseWord [1, 0x2E] = .ok 302 ∧
    opened.reports.records = [] ++ ⟨1, ⟨0, 2, 0, .profile .factory none⟩, .unsent⟩ :: [] ∧
    (∀ r ∈ opened.reports.records, r.seq ≠ 302) :=
  ⟨ready_asks _ _ _, rfl, rfl, rfl, by decide⟩

/-- A round whose last resend, of record 2, is on the line. -/
def lastResend : State :=
  let s := pushing [record 1 1 .pushed, record 2 1 .pushed] 2 1 none (some [])
  s.setLink { s.link with tx := some ⟨[], .report 2 true, .r9600⟩ }

theorem witness_ackRemoves_round :
    (pushing [record 1 1 .pushed, record 2 1 .pushed] 2 1 none (some [2])).reports.delivery.round = some (2 :: []) ∧
    [record 1 1 .pushed, record 2 1 .pushed] = [] ++ record 1 1 .pushed :: [record 2 1 .pushed] ∧
    lastResend.reports.delivery.round = some [] ∧ lastResend.link.tx = some ⟨[], .report 2 true, .r9600⟩ ∧
    lastResend.link.tx.isSome := by decide

theorem witness_retransmitAndStall :
    (pushing [record 1 1 .pushed] 1 1 (some 0) (some [])).reports.delivery.round = some [] ∧
    (pushing [record 1 1 .pushed] 1 0 (some 0) none).reports.delivery.round = none ∧
    (pushing [record 1 1 .pushed] 1 0 (some 0) none).reports.delivery.deadline = some 0 ∧ reached opened.now 0 = true ∧
    (pushing [record 1 1 .pushed] 1 0 (some 0) none).reports.delivery.retry + 1 < 8 ∧
    (pushing [record 1 1 .pushed] 1 7 (some 0) none).reports.delivery.retry = 7 ∧ reached opened.now 1 = false ∧
    (opened.setWires { opened.wires with stall := true }).wires.stall = true := by decide

theorem witness_pinDebounced :
    opened.extPins.get 0 = .low ∧ (opened.lines.get 0).mode ≠ .input ∧
    (let l := (line1 fun l => { l with mode := .input }).lines.get 0;
      l.mode = .input ∧ ¬ (Level.high = l.activeLevel ↔ l.accepted = .active) ∧ l.pendingChange = none ∧ l.debounce = 0) ∧
    (let l := (line1 fun l => { l with mode := .input, debounce := 255 }).lines.get 0; l.mode = .input ∧ l.debounce ≠ 0) ∧
    (let l := (line1 fun l => { l with mode := .input, activeLevel := .low, pendingChange := some 0 }).lines.get 0;
      l.mode = .input ∧ (Level.high = l.activeLevel ↔ l.accepted = .active) ∧ l.pendingChange = some 0) := by decide

/-- A claim on its way to the contact block. -/
def claiming (c : Claim) (s : State) : State := s.sendClaim c

theorem witness_outputsAsserted :
    (claiming (.latch 4 0) opened).wires.claims = .latch 4 0 :: [] ∧ (claiming (.drop 4 0) opened).wires.claims = .drop 4 0 :: [] ∧
    (claiming (.pulse 0 255) opened).wires.claims = .pulse 0 255 :: [] ∧ (opened.lines.get 0).mode ≠ .output ∧
    (let l := (line1 fun l => { l with mode := .output, pulse := some 0 }).lines.get 0;
      l.mode = .output ∧ l.pulse = some 0 ∧ reached 0 0 = true) ∧
    Ready 0x41 (frame 0x41 [1, 1]) [] (asks 0x41 [1, 1] opened) ∧ parseDriveLine [1, 1] = .ok ((0 : LineId), .on) :=
  ⟨rfl, rfl, rfl, by decide, by decide, ready_asks _ _ _, rfl⟩

theorem witness_linesWritten :
    Ready 0x40 (frame 0x40 [1, 1, 1, 5]) [] (asks 0x40 [1, 1, 1, 5] opened) ∧ Unheld (asks 0x40 [1, 1, 1, 5] opened) ∧
    parseSetLine [1, 1, 1, 5] = .ok ((0 : LineId), ⟨.input, .high, 5⟩) ∧ (∀ r, opened.ruleEngine.table.get r = none) ∧
    Handed .lines smallProfile (handing .lines opened) ∧
    Ready 0x40 (frame 0x40 [1, 1, 1, 5]) [] (asks 0x40 [1, 1, 1, 5] (rule4 .any [.line 0 .latch] .idle)) ∧
    (∃ rule, (rule4 .any [.line 0 .latch] .idle).ruleEngine.table.get 4 = some rule ∧ .line 0 .latch ∈ rule.cfg.actions) :=
  ⟨ready_asks _ _ _, unheld _, rfl, by decide, handed_handing _ _, ready_asks _ _ _, _, rfl, by decide⟩

/-- The relay law of a queue of `n` transactions of which the oldest is in flight. -/
theorem relayLaw_flight : RelayLaw (relaying [transaction 29 1, transaction 31 0] true .awaitReply) where
  size := by decide
  tids := by decide
  idle := by decide
  flying := fun _ => rfl
  held := fun _ => ⟨_, _, rfl, by decide, rfl⟩
  queued := by decide
  received := .inl rfl

theorem relayLaw_empty : RelayLaw opened where
  size := by decide
  tids := by decide
  idle := by decide
  flying := by decide
  held := fun h => absurd h (by decide)
  queued := by decide
  received := .inl rfl

/-- Eight queued transactions behind a running gap. -/
def eightRelays : State :=
  relaying ((List.range 8).map fun n => { transaction (BitVec.ofNat 8 n) 0 with head := 5 }) false .gap

theorem relayLaw_full : RelayLaw eightRelays where
  size := by decide
  tids := by decide
  idle := by decide
  flying := by decide
  held := fun h => absurd h (by decide)
  queued := by decide
  received := .inl rfl

theorem witness_transactionEnters :
    RelayLaw (asks 0x49 [6, 1, 12] opened) ∧ Ready 0x49 (frame 0x49 [6, 1, 12]) [] (asks 0x49 [6, 1, 12] opened) ∧
    parseRelay [6, 1, 12] = .ok ((6 : HeadAddr), .recall 12) ∧ opened.head.queue.length < 8 ∧
    RelayLaw (asks 0x49 [6, 1, 12] eightRelays) ∧ Ready 0x49 (frame 0x49 [6, 1, 12]) [] (asks 0x49 [6, 1, 12] eightRelays) ∧
    eightRelays.head.queue.length = 8 ∧
    RelayLaw (opened.sendRecall ⟨4, 6, 12⟩) ∧ (opened.sendRecall ⟨4, 6, 12⟩).wires.recalls = ⟨4, 6, 12⟩ :: [] ∧
    (∀ t ∈ waiting eightRelays.head, t.head ≠ 6) ∧
    (let h := (relaying [transaction 29 1, transaction 31 0] true .awaitReply).head;
      h.queue = [transaction 29 1] ++ transaction 31 0 :: [] ∧ (transaction 31 0).head = 6 ∧
      (transaction 31 0).origin = .rule 4 ∧ (transaction 31 0).op = .recall 12) :=
  ⟨{ relayLaw_empty with }, ready_asks _ _ _, rfl, by decide, { relayLaw_full with }, ready_asks _ _ _, rfl,
    { relayLaw_empty with }, rfl, by decide, rfl, rfl, rfl, rfl⟩

theorem witness_transactionCancelled :
    (let s := relaying [transaction 29 1, transaction 31 0] true .awaitReply;
      RelayLaw (asks 0x4A [31] s) ∧ Ready 0x4A (frame 0x4A [31]) [] (asks 0x4A [31] s) ∧
      s.head.queue = [transaction 29 1] ++ transaction 31 0 :: [] ∧ (transaction 31 0).tid = 31 ∧
      s.head.queue = transaction 29 1 :: [transaction 31 0] ∧ (transaction 29 1).tid = 29 ∧ s.head.inFlight = true ∧
      s.head.link ≠ .gap) ∧
    (relaying [transaction 29 1] true .gap).head.link = .gap ∧ (∀ t ∈ eightRelays.head.queue, t.tid ≠ 8) :=
  ⟨⟨{ relayLaw_flight with }, ready_asks _ _ _, rfl, rfl, rfl, rfl, rfl, by decide⟩, rfl, by decide +kernel⟩

theorem witness_attemptsOnTheLine :
    (relaying [transaction 29 1] true .sending).head.queue = transaction 29 1 :: [] ∧
    (relaying [transaction 29 1] true .sending).head.link = .sending ∧ (transaction 29 1).head ≠ 0 ∧
    { transaction 29 1 with head := 0 }.head = 0 ∧
    (let s := relaying [transaction 29 1] true .awaitReply;
      s.head.link = .awaitReply ∧ s.head.replyDeadline = some 0 ∧ reached s.now 0 = true ∧ s.head.received = [] ∧
      s.head.line = some ⟨.r38400, []⟩ ∧ HeadRate.r19200 ≠ .r38400) ∧ (0x5B : Byte) ∉ [0x5A, 0] ∧ ([6, 70, 0, 1] : List Byte).length ≤ 4 ∧
    (be16 (crc16 [6, 70, 0]).toNat).length = 2 ∧ (6 : Byte).toNat = (transaction 29 1).head.val ∧ (transaction 29 1).tag = some 70 ∧
    (relaying [transaction 29 1] true .gap).head.inFlight = true ∧
    (relaying [transaction 29 0] false .gap).head.inFlight = false ∧
    (relaying [] false .gap).head.queue = [] ∧ opened.head.link ≠ .awaitReply := by decide +kernel

/-- The receiver at the last byte of a PING frame of SEQ 1. -/
def lastByte (s : State) : State :=
  s.setLink { s.link with receiver := .check 0 1 4 [] ((be16 (crc16 [0, 1, 4]).toNat).take 1), gap := some 5 }

theorem witness_frameReceived :
    ([] : List Byte).length ≤ 240 ∧ (List.replicate 240 (0 : Byte)).length ≤ 240 ∧ opened.link.receiver = .hunt ∧
    (∃ hi lo : Byte, (lastByte opened).link.receiver = .check 0 1 4 [] [hi] ∧ hi ++ lo = crc16 (byte 0 :: 1 :: 4 :: []) ∧
      (0 : Byte) ++ (0 : Byte) ≠ crc16 (byte 0 :: 1 :: 4 :: []) ∧
      (∃ e ∈ [(⟨1, hi ++ lo, [], .sent, none⟩ : CacheEntry)], e.seq = 1 ∧ e.crc = hi ++ lo) ∧
      (∃ g ∈ [(⟨1, 4, [], hi ++ lo⟩ : Frame)], g.seq = 1 ∧ g.crc = hi ++ lo)) ∧
    (lastByte opened).link.badStop = false ∧ (1 : Byte) ≠ 0 ∧ opened.link.commands.length < 4 ∧ opened.link.cache = [] ∧
    4 ≤ [frame 4 [], frame 4 [], frame 4 [], frame 4 []].length :=
  ⟨by decide, (List.length_replicate ..).le, rfl,
    ⟨(crc16 [0, 1, 4]).extractLsb' 8 8, (crc16 [0, 1, 4]).extractLsb' 0 8, by decide +kernel⟩,
    by decide, by decide, by decide, rfl, by decide⟩

/-- The receiver in a state with a gap deadline of 0. -/
def receiver (r : Receiver) : State := opened.setLink { opened.link with receiver := r, gap := some 0 }

theorem witness_framesRefused :
    opened.link.receiver = .hunt ∧ (0 : Byte) ≠ 0xA5 ∧ (receiver (.header [241, 1])).link.receiver = .header [241, 1] ∧
    240 < (241 : Byte).toNat ∧ (receiver (.header [])).link.gap = some 0 ∧ reached opened.now 0 = true ∧
    (receiver (.header [])).link.receiver = .header [] ∧ (receiver (.header [1])).link.receiver = .header [1] ∧
    (receiver (.body 2 1 4 [0])).link.receiver = .body 2 1 4 [0] ∧
    (receiver (.check 0 1 4 [] [0])).link.receiver = .check 0 1 4 [] [0] ∧
    (receiver (.header [0, 1])).link.receiver = .header [0, 1] ∧ (240 : Byte) ≠ 0 ∧ (240 : Byte).toNat ≤ 240 ∧
    (receiver (.check 0 1 4 [] [])).link.receiver = .check 0 1 4 [] [] ∧ [(0 : Byte)].length + 1 = (2 : Byte).toNat ∧
    [(0 : Byte)].length + 1 < (3 : Byte).toNat := by decide

/-- OPEN in PUSH mode at the ends of its ranges: window 8, retransmit 1000, silence 255. -/
def openBytes : List Byte := [1, 8, 3, 0xE8, 255]

theorem witness_sessionOpensAndCloses :
    (asks 0x02 openBytes State.reset).link.commands = frame 0x02 openBytes :: [] ∧
    takeable (asks 0x02 openBytes State.reset).link = true ∧ parseOpen openBytes = .ok ⟨.push, 8, 1000, 255⟩ ∧
    Ready 0x03 (frame 0x03 []) [] (asks 0x03 [] opened) ∧
    (let s := opened.setLink { opened.link with session := { opened.link.session with deadline := some 0 } };
      s.link.session.state = .opened ∧ s.link.session.deadline = some 0) :=
  ⟨rfl, rfl, by decide +kernel, ready_asks _ _ _, rfl, rfl⟩

/-- A reply on the line that carries an action. -/
def replying (p : Option PostAction) : State :=
  opened.setLink { opened.link with tx := some ⟨[], .reply, .r9600⟩, cache := [⟨1, 0, [], .sending, p⟩] }

theorem witness_linkCommands :
    Ready 0x05 (frame 0x05 [3]) [] (asks 0x05 [3] opened) ∧ parseSetLink [3] = .ok .r460800 ∧
    Ready 0x06 (frame 0x06 []) [] (asks 0x06 [] opened) ∧
    (∀ p, (replying p).link.tx = some ⟨[], .reply, .r9600⟩ ∧
      (replying p).link.cache = [] ++ ⟨1, 0, [], .sending, p⟩ :: []) ∧ HostRate.r460800 ≠ opened.link.rate :=
  ⟨ready_asks _ _ _, rfl, ready_asks _ _ _, fun _ => ⟨rfl, rfl⟩, by decide⟩

/-- A frame of some source on the line in PUSH mode. -/
def sendingFrame (src : TxSource) (m : DeliveryMark) (round : Option (List Nat)) : State :=
  let s := pushing [record 1 1 m] 2 0 none round
  s.setLink { s.link with tx := some ⟨[], src, .r9600⟩ }

theorem witness_reportSent :
    (sendingFrame .immediate .unsent none).link.tx = some ⟨[], .immediate, .r9600⟩ ∧
    (sendingFrame (.report 1 false) .sending none).link.tx = some ⟨[], .report 1 false, .r9600⟩ ∧
    (sendingFrame (.report 1 false) .sending none).reports.records = [] ++ record 1 1 .sending :: [] ∧
    (sendingFrame (.report 1 false) .unsent none).reports.records = [] ++ record 1 1 .unsent :: [] ∧
    (∀ r ∈ (sendingFrame (.report 2 false) .unsent none).reports.records, r.seq ≠ 2) ∧
    (sendingFrame (.report 1 true) .pushed (some [])).reports.delivery.round = some [] ∧
    (sendingFrame (.report 1 true) .pushed (some [2])).reports.delivery.round ≠ some [] := by decide

theorem witness_queriesAnswered :
    Ready 0x04 (frame 0x04 []) [] (asks 0x04 [] opened) ∧ Ready 0x07 (frame 0x07 []) [] (asks 0x07 [] opened) ∧
    ((asks 0x01 [] State.reset).link.commands = frame 0x01 [] :: [] ∧ takeable (asks 0x01 [] State.reset).link = true) ∧
    Ready 0x39 (frame 0x39 [255]) [] (asks 0x39 [255] opened) ∧ opened.reports.delivery.mode = .pull ∧
    (pushing [] 1 0 none none).reports.delivery.mode = .push ∧
    Ready 0x11 (frame 0x11 [6]) [] (asks 0x11 [6] opened) ∧ parseNumber 6 [6] = .ok (5 : CameraId) ∧
    Ready 0x15 (frame 0x15 [7]) [] (asks 0x15 [7] opened) ∧ parseId 8 [7] = .ok (7 : ClassId) ∧
    Ready 0x1B (frame 0x1B [47]) [] (asks 0x1B [47] opened) ∧ parseId 48 [47] = .ok (47 : ZoneId) ∧
    Ready 0x23 (frame 0x23 [23]) [] (asks 0x23 [23] opened) ∧ parseId 24 [23] = .ok (23 : RuleId) :=
  ⟨ready_asks _ _ _, ready_asks _ _ _, ⟨rfl, rfl⟩, ready_asks _ _ _, rfl, rfl, ready_asks _ _ _, rfl, ready_asks _ _ _,
    rfl, ready_asks _ _ _, rfl, ready_asks _ _ _, rfl⟩

theorem witness_queriesAnswered_blocks :
    Ready 0x30 (frame 0x30 []) [] (asks 0x30 [] opened) ∧ Ready 0x42 (frame 0x42 []) [] (asks 0x42 [] opened) ∧
    Ready 0x4B (frame 0x4B []) [] (asks 0x4B [] opened) ∧ Ready 0x53 (frame 0x53 []) [] (asks 0x53 [] opened) :=
  ⟨ready_asks _ _ _, ready_asks _ _ _, ready_asks _ _ _, ready_asks _ _ _⟩

/-- The store with both slots valid, of generations 6 and 5. -/
def twoSlots : State :=
  opened.setStore { opened.store with
    slotA := goodSlot, slotB := { goodSlot with generation := 5 }, dirA := some ⟨6, 0⟩, dirB := some ⟨5, 0⟩ }

/-- A commit to slot B in a phase. -/
def committing (ph : CommitPhase) (slot : Slot) : State :=
  twoSlots.setStore { twoSlots.store with
    slotB := slot, dirB := none, block := .committing, target := some .b, targetGen := some 7
    snapshot := some smallProfile, phase := some ph }

theorem witness_commitPhases :
    Ready 0x50 (frame 0x50 []) [] (asks 0x50 [] twoSlots) ∧ twoSlots.store.block = .idle ∧
    newestSlot twoSlots.store.dirA twoSlots.store.dirB = some .a ∧ (6 : Word32) ≠ 0xFFFFFFFE ∧ (6 : Word32) ≠ 0 ∧
    newestSlot opened.store.dirA opened.store.dirB = none ∧ (busy .committing).store.block ≠ .idle ∧
    newestSlot (some ⟨0xFFFFFFFE, 0⟩) (some ⟨5, 0⟩) = some .a ∧
    (∀ ph slot, (committing ph slot).store.target = some .b ∧ (committing ph slot).store.snapshot = some smallProfile ∧
      (committing ph slot).store.targetGen = some 7 ∧ (committing ph slot).store.phase = some ph) ∧
    (let slot : Slot := ⟨0xFFFFFFFF, (profileContents smallProfile).bytes.length, profileContents smallProfile,
        crc32 (be16 (profileContents smallProfile).bytes.length ++ (profileContents smallProfile).bytes)⟩;
      slot.length ≤ 8182 ∧ slot.contents = profileContents smallProfile) :=
  ⟨ready_asks _ _ _, rfl, rfl, by decide, by decide, rfl, by decide, rfl, fun _ _ => ⟨rfl, rfl, rfl, rfl⟩,
    (List.length_take_le _ _).trans (by decide), rfl⟩

/-- A restore of slot A. -/
def restoring (f : ProfileStore → ProfileStore) : State :=
  twoSlots.setStore (f { twoSlots.store with block := .restoring, restoreSlot := some .a })

theorem witness_restorePhases :
    Ready 0x51 (frame 0x51 [1]) [] (asks 0x51 [1] twoSlots) ∧ parseSelector [1] = .ok (some .a) ∧
    parseSelector [0] = .ok none ∧ parseSelector [2] = .ok (some .b) ∧ twoSlots.store.dirA.isSome ∧
    opened.store.dirA = none ∧ (busy .erasing).store.block ≠ .idle ∧
    (restoring id).store.restoreSlot = some .a ∧ (restoring id).store.applying = none ∧
    checkedProfile (slotOf .a (restoring id).store) = some smallProfile ∧ checkedProfile Slot.erased = none ∧
    (let s := restoring fun x => { x with applying := some smallProfile, notices := [.schedule] };
      s.store.applying.isSome ∧ .schedule ∈ s.store.notices ∧ .zones ∉ s.store.taken) ∧
    (let s := restoring fun x => { x with applying := some smallProfile, notices := [.rulesArm], taken := allParts.dropLast };
      .rulesArm ∈ s.store.notices ∧ ∀ x ∈ allParts, x ≠ Part.rulesArm → x ∈ s.store.taken) :=
  ⟨ready_asks _ _ _, rfl, rfl, rfl, rfl, rfl, by decide, rfl, rfl, by decide +kernel, by decide +kernel, by decide, by decide +kernel⟩

theorem witness_eraseInvalidates :
    Ready 0x52 (frame 0x52 []) [] (asks 0x52 [] opened) ∧ opened.store.block = .idle ∧
    (busy .erasing).store.block = .erasing ∧ (busy .committing).store.block ≠ .idle ∧ (0 : Word32) ≠ 0xFFFFFFFF :=
  ⟨ready_asks _ _ _, rfl, rfl, by decide, by decide⟩

theorem witness_payloadsSpellRecords :
    (∃ k cls, parseSetClass setClassBytes = .ok (k, cls)) ∧ (∃ z cfg, parseZone (putZoneBytes 1 1) = .ok (z, cfg)) ∧
    (∃ r cfg, parseRule putRuleBytes = .ok (r, cfg)) ∧ ∃ v cfg, parseView [8, 0, 1, 1, 0] = .ok (v, cfg) :=
  ⟨⟨0, ⟨999, 4080, 16, 16, 15, 255, 64, 8, 65535⟩, by decide +kernel⟩, ⟨_, _, rfl⟩,
    ⟨4, ruleCfg .any [.report 3 true], by decide +kernel⟩, ⟨_, _, rfl⟩⟩

theorem witness_rulesInRangeAccepted :
    (let cfg : RuleConfig := { ruleCfg (.count 2) [.report 3 true, .showView 2 7 255 3600 true, .line 0 (.pulse 255)] with
        window := 65535, cooldown := 65535 };
      1 ≤ cfg.terms.length ∧ cfg.terms.length ≤ 4 ∧ cfg.actions.length ≤ 3 ∧ 1 ≤ cfg.window ∧ cfg.window ≤ 65535 ∧
      cfg.cooldown ≤ 65535 ∧ cfg.mode ≠ .order ∧
      (cfg.actions.filter fun | .report .. => true | _ => false).length ≤ 1 ∧
      (cfg.actions.filter fun | .showView .. => true | _ => false).length ≤ 1) ∧
    parseRule (ruleBytes 4 (ruleCfg .order [.line 7 .latch, .recall 15 63]))
      = .ok ((4 : RuleId), ruleCfg .order [.line 7 .latch, .recall 15 63]) := ⟨by decide, by decide +kernel⟩

/-! ### Lawful states that take a command -/

/-- The full report queue in delivery, eight requests of which one is shown. -/
def crowded : State :=
  let s := pushing (record 1 1 .pushed :: fullQueue.tail) 1 0 (some 0) none
  ((s.setReports { s.reports with nextSeq := 33 }).setSched
    { s.sched with requests := eightRequests, source := src .request (some (.rule 6)) }).setComp
    { s.comp with applied := .request 2 (.rule 6) }

theorem witness_queuesKept : QueuesLaw crowded ∧ WindowLaw crowded ∧
    ∃ t, exec .retransmitDeadlineExpiry crowded = .next t ∧ t ≠ crowded :=
  ⟨⟨by decide, by decide, by decide, by decide, by decide, by decide, by decide⟩,
    by unfold WindowLaw; decide +kernel, _, rfl, fun h => absurd (congrArg (·.reports.delivery.retry) h) (by decide)⟩

/-- What holds of each record of a list with those before and behind it. -/
theorem each_split {α : Type} {l : List α} {p : List α → α → List α → Prop}
    (h : ∀ i : Fin l.length, p (l.take i) l[i] (l.drop (i + 1))) :
    ∀ before r behind, l = before ++ r :: behind → p before r behind := by
  intro before r behind e
  subst e
  simpa using h ⟨before.length, by simp⟩

/-- Sequences 1 to 32, of which 33 is the next. -/
theorem crowded_order : ∀ i : Fin crowded.reports.records.length,
    1 ≤ enteredSince crowded.reports.records[i].seq crowded.reports.nextSeq ∧
    enteredSince crowded.reports.records[i].seq crowded.reports.nextSeq ≤
      1 + (crowded.reports.records.drop (i + 1)).length +
        ((crowded.reports.records.drop (i + 1)).map (·.report.priority)).sum ∧
    ∀ x ∈ crowded.reports.records.drop (i + 1),
      enteredSince x.seq crowded.reports.nextSeq < enteredSince crowded.reports.records[i].seq crowded.reports.nextSeq := by
  decide +kernel

theorem crowded_marks : ∀ i : Fin crowded.reports.records.length,
    crowded.reports.records[i].mark ≠ .unsent → ∀ x ∈ crowded.reports.records.take i, x.mark ≠ .unsent := by
  decide +kernel

theorem witness_queuesKept_reports : ReportsLaw crowded where
  next := by decide
  range := fun r h => by
    have ha : crowded.reports.records.all (fun r => decide (1 ≤ r.seq ∧ r.seq ≤ 65535)) = true := by decide +kernel
    simpa using List.all_eq_true.mp ha r h
  order := each_split (l := crowded.reports.records) (p := fun _ (r : Record) (behind : List Record) => _) crowded_order
  marks := each_split (l := crowded.reports.records)
    (p := fun before r _ => r.mark ≠ .unsent → ∀ x ∈ before, x.mark ≠ .unsent) crowded_marks
  round := nofun
  priorities := fun r h => by
    have ha : crowded.reports.records.all (fun r => decide (r.report.priority ≤ 3)) = true := by decide +kernel
    simpa using List.all_eq_true.mp ha r h
  offers := by decide
  zones := fun z zone h => by
    have : ∀ z, crowded.zoneEngine.table.get z = none := by decide
    rw [this z] at h; cases h
  rules := fun r rule h => by
    have : ∀ r, crowded.ruleEngine.table.get r = none := by decide
    rw [this r] at h; cases h
  applying := nofun

theorem witness_screenKept : ScreenLaw crowded ∧ ∃ t, exec .outputFrameStart crowded = .next t :=
  ⟨⟨by decide, nofun, fun _ => ⟨request (.rule 6) 7, by decide, rfl, rfl⟩, nofun, nofun, by decide, by decide⟩, _, rfl⟩

theorem witness_recordsKept : RecordsLaw (rule4 .order [] .stepping) ∧
    ∃ t, exec (.stepDeadlineExpiry 4) (rule4 .order [] .stepping) = .next t ∧ t ≠ rule4 .order [] .stepping := by
  refine ⟨⟨fun z zone h => ?_, fun r rule h => ?_, fun l => ?_⟩, _, rfl,
    fun h => absurd (congrArg (fun s => (s.ruleEngine.table.get 4).map (·.run.state)) h) (by decide)⟩
  · have : ∀ z, (rule4 .order [] .stepping).zoneEngine.table.get z = none := by decide
    rw [this z] at h
    cases h
  · have : ∀ r, (rule4 .order [] .stepping).ruleEngine.table.get r
        = if r = 4 then some ⟨ruleCfg .order [], ruleRun .stepping⟩ else none := by decide
    rw [this r] at h
    split at h
    · cases h
      exact ⟨by decide, by decide, by decide, by decide, by decide, by decide⟩
    · cases h
  · have : ∀ l, (rule4 .order [] .stepping).lines.get l = State.reset.lines.get 0 := by decide
    rw [this l]
    exact ⟨by decide, by decide⟩

theorem witness_relaysKept : RelayLaw (relaying [transaction 29 1, transaction 31 0] true .awaitReply) ∧
    ∃ t, exec .replyDeadlineExpiry (relaying [transaction 29 1, transaction 31 0] true .awaitReply) = .next t :=
  ⟨relayLaw_flight, _, rfl⟩

theorem witness_slotsKept : StoreLaw twoSlots ∧ twoSlots.store.block ≠ .erasing ∧
    slotValid (slotOf .a twoSlots.store) = true ∧ twoSlots.store.target ≠ some .a ∧
    ∃ t, exec (.commitWriteDone none) twoSlots = .next t :=
  ⟨⟨by decide +kernel, by decide +kernel, nofun, nofun, nofun⟩, by decide, by decide +kernel, by decide, _, rfl⟩

/-- The rule engine's first event of a restore is handed; W4 watches Z0 and Z1. -/
def restoringRules : State := handing .rulesRemove (twoZones (rule4 .any [] .fired))

theorem witness_referencesKept : ReferencesLaw restoringRules ∧ ApplyingLaw restoringRules ∧
    ∃ t, exec .restoreRulesRemove restoringRules = .next t := by
  have hr : ∀ r rule, restoringRules.ruleEngine.table.get r = some rule → rule.cfg = ruleCfg .any [] := by
    intro r rule h
    have : ∀ r, restoringRules.ruleEngine.table.get r
        = if r = 4 then some ⟨ruleCfg .any [], ruleRun .fired⟩ else none := by decide
    rw [this r] at h
    split at h
    · cases h; rfl
    · cases h
  have hp : ∀ r cfg, smallProfile.rules.get r = some cfg →
      cfg = { ruleCfg .any [.report 1 true] with terms := [⟨.zone 0, false⟩, ⟨.line 0, true⟩] } := by
    intro r cfg h
    have : ∀ r, smallProfile.rules.get r = if r = 4 then
        some { ruleCfg .any [.report 1 true] with terms := [⟨.zone 0, false⟩, ⟨.line 0, true⟩] } else none := by decide
    rw [this r] at h
    split at h
    · cases h; rfl
    · cases h
  refine ⟨⟨?_, ?_, ?_, ?_, by decide, by decide, nofun⟩, ⟨nofun, fun _ => rfl, ?_, by decide, ?_, ?_, ?_, ?_, ?_, ?_, ?_⟩,
    _, rfl⟩
  · intro r rule h z n hm
    rw [hr r rule h] at hm
    have : z = 0 ∨ z = 1 := by simpa [ruleCfg] using (by simp [ruleCfg] at hm; tauto : z = 0 ∨ z = 1)
    rcases this with rfl | rfl <;> rfl
  · intro r rule h l n hm
    rw [hr r rule h] at hm
    simp [ruleCfg] at hm
  · intro r rule h v a b c d hm
    rw [hr r rule h] at hm
    simp [ruleCfg] at hm
  · intro r rule h l form hm
    rw [hr r rule h] at hm
    simp [ruleCfg] at hm
  · intro p h
    cases h
    refine ⟨?_, ?_, ?_, ?_, by decide⟩
    · intro r cfg h z n hm
      rw [hp r cfg h] at hm
      obtain rfl : z = 0 := by simp at hm; tauto
      rfl
    · intro r cfg h l n hm
      rw [hp r cfg h] at hm
      obtain rfl : l = 0 := by simp at hm; tauto
      rfl
    · intro r cfg h v a b c d hm
      rw [hp r cfg h] at hm
      simp [ruleCfg] at hm
    · intro r cfg h l form hm
      rw [hp r cfg h] at hm
      simp [ruleCfg] at hm
  all_goals simp [restoringRules, handing, partDone, State.setStore, secondParts, thirdParts, twoZones, rule4, opened,
    State.setZone, State.setZones, State.setRule, State.setRules, State.setReports, State.setLink, State.reset]

/-! ### One step of each family, results from the spec's tables and worked examples -/

/-- R1. -/
theorem test_tick_wraps : after_ (exec .timeBaseTick (State.reset.setNow 0xFFFFFFFF)) (·.now == 0) = true := by decide
/-- R18, R155: straps S0 and S1 low and high, S2 high. -/
theorem test_powerOn_straps : after_ (exec (.powerOn ⟨.low, .high, .high, .high⟩) stored) (fun t =>
    t.link.rate == .r38400 && t.outputStandard == .s625 && t.store.startSource == none) = true := by decide +kernel
/-- §11, sequence 4: start-up from slot A of generation 6. -/
theorem test_resetLine_loads : after_ (exec (.resetLine ⟨.low, .low, .low, .low⟩) stored) (fun t =>
    t.store.startSource == some .a && t.store.startGen == some 6 && t.reports.records.length == 1) = true := by
  decide +kernel
/-- R7: the fourth valid field locks; R9: one of the other standard goes to LOST. -/
theorem test_fieldEnd_locks : after_ (exec (.fieldEnd 0 (field625 .odd))
    (cam1 fun c => { c with runCount := 3, runStandard := some .s625 })) (fun t => (t.cams.get 0).state == .locked
      && (t.cams.get 0).lossDeadline == some 6) = true := by decide
theorem test_fieldEnd_lost : after_ (exec (.fieldEnd 0 (field525 .odd))
    (cam1 fun c => { c with state := .locked, standard := some .s625 })) (fun t => (t.cams.get 0).state == .lost) = true := by
  decide
/-- §11, sequence 5: LOST at 31,000 with a deadline of 31,200. -/
theorem test_loss_deadline : after_ (exec (.lossDeadlineExpiry 0)
    ((cam1 fun c => { c with state := .locked, lossDeadline := some 31000 }).setNow 31000)) (fun t =>
      (t.cams.get 0).lostDeadline == some 31200) = true := by decide
/-- R10: after 2 s the camera searches again. -/
theorem test_lost_deadline : after_ (exec (.lostDeadlineExpiry 0)
    ((cam1 fun c => { c with state := .lost, lostDeadline := some 31200 }).setNow 31200)) (fun t =>
      (t.cams.get 0).state == .searching) = true := by decide
/-- R5. -/
theorem test_run_deadline : after_ (exec (.runDeadlineExpiry 0)
    (cam1 fun c => { c with runCount := 2, runDeadline := some 0 })) (fun t => (t.cams.get 0).runCount == 0) = true := by decide
/-- R16: an enabled zone of the camera qualifies. -/
theorem test_firstActiveLine : after_ (exec (.firstActiveLine 0)
    ((zone0 .quiet).setCam 0 { opened.cams.get 0 with state := .locked, standard := some .s625 })) (fun t =>
      (t.cams.get 0).qualifying == some [0]) = true := by decide
/-- R14: 3 × 2 cells, a sum of 23,500 and a count of 192 give 1958. -/
theorem test_zoneMean_example : zoneMean zoneCfg .s625
    [⟨0, 0, List.replicate 32 255, [], []⟩, ⟨1, 0, List.replicate 32 255, [], []⟩,
      ⟨2, 1, List.replicate 28 255 ++ [40, 0, 0, 0], [], []⟩] = 1958 := by decide
/-- R34. -/
theorem test_changeMeasure_examples : changeMeasure (factoryClass 20) 1602 1900 = 186 ∧
    changeMeasure (factoryClass 20) 40 72 = 250 := by decide
/-- R36: with a = 4 the reference moves by a sixteenth of the difference, toward zero. -/
theorem test_quiet_adapts : after_ (exec (.fieldSummary 0) (summary 1587 (zone0 .quiet))) (fun t =>
    ((t.zoneEngine.table.get 0).bind (·.run.reference)) == some 1602) = true := by decide
/-- R37: a third hit after an onset; R36: at K_on the zone is ACTIVE. -/
theorem test_quiet_onset : after_ (exec (.fieldSummary 0) (seen .quiet [true, true] 9 (factoryClass 20))) (fun t =>
    ((t.zoneEngine.table.get 0).map (·.run.state)) == some .active) = true := by decide
/-- R29, R30. -/
theorem test_notice_blinds : after_ (exec (.cameraNoticeAtZones 0) (noticed .locked .lost (zone0 .active))) (fun t =>
    ((t.zoneEngine.table.get 0).map fun z => (z.run.state, z.run.lastCause)) == some (.blind, some .lost)) = true := by decide +kernel
theorem test_notice_learns : after_ (exec (.cameraNoticeAtZones 0) (noticed .lost .locked (zone0 .blind))) (fun t =>
    ((t.zoneEngine.table.get 0).map fun z => (z.run.state, z.run.lastCause)) == some (.learning, some .seen)) = true := by decide +kernel
/-- R175, R179, R180: refusals name the offset of the field; R24: a zone in use. -/
theorem test_setClass_range : answersWith .setClass 0x14 [0, 0, 4, 0, 128, 8, 3, 1, 25, 16, 4, 0, 0] [0x03, 1] opened
    = true := by decide +kernel
theorem test_putZone_enabled : after_ (exec .putZone (asks 0x18 (putZoneBytes 1 1) opened)) (fun t =>
    ((t.zoneEngine.table.get 0).map (·.run.state)) == some .blind) = true := by decide +kernel
theorem test_dropZone_inUse : answersWith .dropZone 0x19 [0] [0x06]
    ((rule4 .any [] .idle).setZone 0 (some ⟨zoneCfg, zoneRun .quiet⟩)) = true := by decide +kernel
theorem test_relearn_disabled : answersWith .relearnZone 0x1A [0] [0x0A]
    (opened.setZone 0 (some ⟨{ zoneCfg with enabled := false }, zoneRun .off⟩)) = true := by decide +kernel
theorem test_getZone_absent : answersWith .getZone 0x1B [0] [0x05] opened = true := by decide +kernel
/-- §11, sequence 1: STEPPING at step 2 until 10,300; FIRED at 10,250; COOLDOWN until 11,400; IDLE. -/
theorem test_order_steps : after_ (exec .zoneTransition ((moved 0 .quiet .active (rule4 .order [] .idle)).setNow 10000)) (fun t =>
    ((t.ruleEngine.table.get 4).map fun r => (r.run.state, r.run.step, r.run.stepDeadline))
      == some (.stepping, some 2, some 10300)) = true := by decide
theorem test_order_fires : after_ (exec .zoneTransition ((moved 1 .quiet .active
    (rule4 .order [.showView 3 5 10 30 true, .recall 6 12] .stepping)).setNow 10250)) (fun t =>
    ((t.ruleEngine.table.get 4).map fun r => (r.run.state, r.run.fireCount, r.run.lastFired))
      == some (.fired, 1, some 10250) && t.wires.requests.length == 1 && t.wires.recalls.length == 1) = true := by decide
theorem test_order_cools : after_ (exec .zoneTransition ((moved 1 .active .quiet
    ((rule4 .order [] .fired).setRules { (rule4 .order [] .fired).ruleEngine with
      zoneCopy := upd (rule4 .order [] .fired).ruleEngine.zoneCopy 1 .true })).setNow 10900)) (fun t =>
    ((t.ruleEngine.table.get 4).map fun r => (r.run.state, r.run.cooldownDeadline)) == some (.cooldown, some 11400)) = true := by
  decide
theorem test_cooldown_ends : after_ (exec (.cooldownDeadlineExpiry 4)
    (rule4 .order [.showView 3 5 10 30 true] .cooldown)) (fun t =>
    ((t.ruleEngine.table.get 4).map (·.run.state)) == some .idle && t.wires.withdrawals == [.rule 4]) = true := by decide
/-- R60. -/
theorem test_step_deadline : after_ (exec (.stepDeadlineExpiry 4) (rule4 .order [] .stepping)) (fun t =>
    ((t.ruleEngine.table.get 4).map (·.run.state)) == some .idle) = true := by decide
/-- R50: an inactive line that becomes ACTIVE makes a negated term false. -/
theorem test_line_transition : after_ (exec (.lineTransition 2) (opened.setWires { opened.wires with
    linesToRules := upd opened.wires.linesToRules 2 [⟨2, .inactive, .active, 0⟩] })) (fun t =>
    termValue t.ruleEngine ⟨.line 2, true⟩ == .false) = true := by decide
/-- R68: the first reference that fails decides; R67: ORDER with one term names the mode. -/
theorem test_putRule_absent_zone : answersWith .putRule 0x20 putRuleBytes [0x05] opened = true := by decide +kernel
theorem test_putRule_order_one_term : answersWith .putRule 0x20 [4, 1, 3, 0, 1, 1, 0, 1, 0x2C, 1, 0xF4, 0] [0x03, 2] opened
    = true := by decide +kernel
/-- R71: a FIRED rule that is disarmed takes its release. -/
theorem test_armRule_disarms : after_ (exec .armRule (asks 0x22 [4, 0] (rule4 .any [.line 0 .latch] .fired))) (fun t =>
    t.wires.claims == [.drop 4 0]) = true := by decide +kernel
/-- §11, sequence 2: at 20,100 deferred to 20,300. -/
theorem test_show_deferred : after_ (exec .showView (asks 0x2C showBytes
    ((opened.setSched { opened.sched with
      minShow := 30, source := { src .rotating none with start := 20000, rotationDeadline := some 20500 } }).setNow 20100)))
    (fun t => t.sched.source.deferral == some 20300 && (t.sched.requests.map (·.lifetime)) == [32100]) = true := by decide +kernel
/-- §11, sequence 2: at 20,400 a hold leaves W1 900 cs. -/
theorem test_hold_pauses : after_ (exec .hold (asks 0x2E [7]
    ((screen [{ request (.rule 1) 6 with dwellDeadline := some 21300 }] (src .request (some (.rule 1)))).setNow 20400)))
      (fun t => t.sched.source.state == .hold && (t.sched.requests.map (·.remaining)) == [900]) = true := by decide +kernel
/-- §11, sequence 5: withdrawn at 31,400 with 1,600 cs left. -/
theorem test_withdrawn_remaining : after_ (exec .withdrawal
    (((screen [{ request (.rule 6) 4 with dwellDeadline := some 33000 }] (src .request (some (.rule 6)))).sendWithdrawal
      (.rule 6)).setNow 31400)) (fun t => t.wires.offers.map (·.detail)
        == [.request 2 4 .withdrawn 1600 0]) = true := by decide
/-- R80: the search wraps to the positions before. -/
theorem test_rotation_wraps : after_ (exec .rotationDeadlineExpiry
    ((screen [] { src .rotating none with index := 5, rotationDeadline := some 0 }).setSched
      { (screen [] { src .rotating none with index := 5, rotationDeadline := some 0 }).sched with
        camCopy := upd opened.sched.camCopy 1 .locked })) (fun t => t.sched.source.index == 1) = true := by decide
/-- R85: a ninth request of the lowest priority is refused. -/
theorem test_show_full : answersWith .showView 0x2C [2, 2, 20, 0, 120] [0x07]
    (screen eightRequests (src .request (some (.rule 6)))) = true := by decide +kernel
/-- R78: a view of the rotation is in use. -/
theorem test_dropView_inUse : answersWith .dropView 0x29 [0] [0x06] opened = true := by decide +kernel
/-- R99: a tile of a camera that is not LOCKED. -/
theorem test_frame_no_signal : after_ (exec .outputFrameStart (opened.setComp { opened.comp with applied := .hold 7 }))
    (fun t => t.comp.output == .tiles .quad [.noSignal 4, .noSignal 5, .black, .black] []) = true := by decide
/-- §11, sequence 3: priority 0 against the victim of priority 0; priority 3 takes its place. -/
theorem test_overflow_drops : (takeReport ⟨0, 0, 0, .rule .fired none .any [] 0⟩
    { opened.reports with records := fullQueue, nextSeq := 333 }).nextSeq = 333 := by decide
theorem test_overflow_evicts :
    let q := takeReport ⟨0, 3, 0, .rule .fired none .any [] 0⟩ { opened.reports with records := fullQueue, nextSeq := 333 };
    q.nextSeq = 334 ∧ q.dropped = 1 ∧ recordOf 3 q.records = none ∧ q.records.length = 32 := by decide +kernel
/-- R110: after 65535 comes 1. -/
theorem test_sequence_wraps : nextSequence 65535 = 1 := by decide
/-- §11, sequence 3: ACK(302) leaves no PUSHED record and no deadline. -/
theorem test_ack : after_ (exec .ack (asks 0x3A [1, 0x2E]
    (pushing [record 301 1 .pushed, record 302 1 .pushed] 2 1 (some 6002) none))) (fun t =>
      t.reports.records == [] && t.reports.delivery.deadline == none) = true := by decide +kernel
/-- R124: an ACK of the record whose resend is the last of its round ends the round. -/
theorem test_ack_ends_round : after_ (exec .ack { lastResend with
    link := { lastResend.link with commands := [frame 0x3A [0, 2]] } }) (fun t =>
      t.reports.delivery.round == none && t.reports.records == []) = true := by decide +kernel
theorem test_pull_in_push : answersWith .pull 0x39 [1] [0x0A] (pushing [] 1 0 none none) = true := by decide +kernel
/-- R121: the round holds the PUSHED records, and the first goes on the line. -/
theorem test_retransmit : after_ (exec .retransmitDeadlineExpiry
    (pushing [record 301 1 .pushed, record 302 1 .pushed, record 303 1 .unsent] 2 0 (some 0) none)) (fun t =>
      t.reports.delivery.retry == 1 && t.reports.delivery.round == some [302]) = true := by decide +kernel
/-- R121: in a round no retransmit deadline runs. -/
theorem test_no_expiry_in_round : after_ (exec .retransmitDeadlineExpiry
    (pushing [record 301 1 .pushed] 2 1 (some 0) (some []))) (fun t => t.reports.delivery.retry == 1) = true := by decide +kernel
/-- R44: C1's notice, made behind C2's, waits for it; and the next place is behind both. -/
theorem test_restored_order : after_ (exec (.cameraNoticeAtZones 0) restoredNotices) (· == restoredNotices) = true ∧
    after_ (exec (.cameraNoticeAtZones 1) restoredNotices) (fun t => (t.zoneEngine.camCopy.get 1).state == .off &&
      takenNext 2 t) = true ∧ nextPlace restoredNotices = 3 := by decide +kernel
/-- R129, R130: a change with debounce 5 is accepted at its deadline. -/
theorem test_pin_pending : after_ (exec (.pinLevelChange 0) (line1 fun l => { l with mode := .input, debounce := 5 }))
    (fun t => (t.lines.get 0).pendingChange == some 5) = true := by decide
theorem test_debounce : after_ (exec (.debounceDeadlineExpiry 0)
    ((line1 fun l => { l with mode := .input, pendingChange := some 5 }).setNow 5)) (fun t =>
      (t.lines.get 0).accepted == .active && (t.wires.linesToRules.get 0).length == 1) = true := by decide
/-- R132–R134. -/
theorem test_latch : after_ (exec .latchClaim (claiming (.latch 4 0) (line1 fun l => { l with mode := .output }))) (fun t =>
    (t.lines.get 0).asserted) = true := by decide
theorem test_latch_drop : after_ (exec .latchDrop (claiming (.drop 4 0) (line1 fun l =>
    { l with mode := .output, claimants := upd l.claimants 4 true, asserted := true }))) (fun t =>
    (t.lines.get 0).asserted) = false := by decide
theorem test_pulse_extends : after_ (exec .pulseClaim (claiming (.pulse 0 10) (line1 fun l =>
    { l with mode := .output, pulse := some 20 }))) (fun t => (t.lines.get 0).pulse == some 20) = true := by decide
theorem test_pulse_ends : after_ (exec (.pulseDeadlineExpiry 0) (line1 fun l =>
    { l with mode := .output, pulse := some 0, asserted := true })) (fun t => (t.lines.get 0).asserted) = false := by decide
theorem test_driveLine : answersWith .driveLine 0x41 [9, 1] [0x03, 0] opened = true := by decide +kernel
/-- §11, sequence 1: the recall takes tid 30 and is in flight at once. -/
theorem test_recall_enters : after_ (exec .recall ((opened.setHead { opened.head with nextTid := 30, nextTag := 70 }).sendRecall
    ⟨4, 6, 12⟩)) (fun t => t.head.queue == [{ transaction 30 1 with tag := some 70 }] && t.head.link == .sending) = true := by
  decide
/-- R142: it replaces a queued rule recall to the same head. -/
theorem test_recall_supersedes : after_ (exec .recall
    ((relaying [transaction 29 1, transaction 31 0] true .awaitReply).sendRecall ⟨5, 6, 9⟩)) (fun t =>
      t.head.queue.map (·.tid) == [29, 30]) = true := by decide +kernel
/-- R145, R146, R147. -/
theorem test_reply_ok : after_ (exec (.replyFrame .r38400 true 6 ([0x5B, 6, 70, 0] ++ be16 (crc16 [6, 70, 0]).toNat))
    (relaying [transaction 29 1] true .awaitReply)) (fun t => t.head.queue == [] && t.head.link == .gap) = true := by
  decide +kernel
theorem test_reply_partial : after_ (exec (.replyFrame .r38400 true 0x5A [0x5B, 6, 70])
    (relaying [transaction 29 1] true .awaitReply)) (fun t => t.head.received == [0x5B, 6, 70]) = true := by decide +kernel
theorem test_reply_timeout : after_ (exec .replyDeadlineExpiry (relaying [transaction 29 1] true .awaitReply)) (fun t =>
    t.head.queue.map (·.failure) == [some .noReply] && t.head.link == .gap) = true := by decide +kernel
theorem test_gap_end : after_ (exec .turnaroundGapEnd (relaying [transaction 29 1] true .gap)) (fun t =>
    t.head.queue.map (·.attempts) == [2] && t.head.link == .sending && t.head.nextTag == 71) = true := by decide +kernel
/-- R195: the request frame of RECALL preset 12 to H6 with tag 70. -/
theorem test_request_frame : (requestFrame (transaction 30 1)).take 6 = [0x5A, 6, 70, 1, 1, 12] := by decide +kernel
/-- R156, R158, R164: a PING frame of SEQ 1 is taken at its last byte, and its reply is on the line; with a wrong CRC it is
refused. -/
theorem test_ping_frame : ((receiving ([0xA5, 0, 1, 4] ++ be16 (crc16 [0, 1, 4]).toNat) opened).map fun t =>
    (t.link.commands.length, t.link.tx.map (·.source), answerOf t)) = some (0, some .reply, [0x00]) := by decide +kernel
theorem test_bad_frame : ((receiving ([0xA5, 0, 1, 4] ++ be16 (crc16 [0, 1, 4] + 1).toNat) opened).map fun t =>
    (t.link.commands.length, t.link.tx.map (·.source))) = some (0, some .immediate) := by decide +kernel
/-- R157: LEN 241 is oversize, LEN 240 is not. -/
theorem test_oversize : after_ (exec (.hostByteReceived 4 true) (receiver (.header [241, 9]))) (fun t =>
    t.link.receiver == .hunt && t.link.tx.isSome) = true := by decide +kernel
/-- R175: status and shape. -/
theorem test_ping : answersWith .ping 0x04 [] [0x00] opened = true := by decide +kernel
theorem test_ping_malformed : answersWith .ping 0x04 [0] [0x02] opened = true := by decide +kernel
theorem test_closed : answersWith .ping 0x04 [] [0x09] State.reset = true := by decide +kernel
theorem test_unknown : answersWith .unknownKind 0x7F [] [0x04] opened = true := by decide +kernel
theorem test_time : answersWith .time 0x07 [] [0x00, 0, 1, 0, 0] (opened.setNow 65536) = true := by decide +kernel
theorem test_open : after_ (exec .openSession (asks 0x02 openBytes State.reset)) (fun t =>
    t.link.session.deadline == some 25500) = true := by decide +kernel
theorem test_restart_holds_off : after_ (exec .restart (asks 0x06 [] opened)) (fun t => takeable t.link) = false := by
  decide +kernel
/-- R172: the rate switches when the reply has been sent. -/
theorem test_rate_switch : after_ (exec (.frameTxComplete .low) (replying (some (.switchRate .r460800)))) (fun t =>
    t.link.rate == .r460800) = true := by decide
/-- R173, R206: S3, high at RESTART's full reset, has the factory defaults loaded. -/
theorem test_restart_samples_s3 : after_ (exec (.frameTxComplete .high)
    ((replying (some .restart)).setStore { opened.store with slotA := goodSlot })) (fun t =>
      t.store.startSource == none && t.store.dirA.isSome) = true := by decide +kernel
/-- §11, sequence 4: the commit's target is B, its generation 7. -/
theorem test_commit_target : after_ (exec .commit (asks 0x50 [] twoSlots)) (fun t =>
    t.store.target == some .b && t.store.targetGen == some 7 && t.store.dirB == none) = true := by decide +kernel
theorem test_generation : after_ (exec (.generationWriteDone 7 0) (committing .generation goodSlot)) (fun t =>
    t.store.dirB == some ⟨7, 0⟩ && newest t.store == some .b) = true := by decide +kernel
theorem test_restore_erased : answersWith .restore 0x51 [0] [0x05] opened = true := by decide +kernel
theorem test_restore_read : after_ (exec (.restoreReadDone true) (restoring id)) (fun t =>
    t.store.handed == [.rulesRemove]) = true := by decide +kernel
theorem test_erase : after_ (exec (.erasePrepareDone 0xFFFFFFFF 0xFFFFFFFF) (busy .erasing)) (fun t =>
    t.store.block == .idle && t.wires.offers.map (·.detail) == [.profile .erased none]) = true := by decide +kernel

end Sys2Proof.Tests
end

section
/-! The time base (R1): what its tick does to the whole state, and the order of its values. -/

namespace Sys2Proof.Machine

/-- TIME_BASE_TICK writes the time base and no other field (R1). -/
theorem exec_timeBaseTick (s : State) : exec .timeBaseTick s = .next (s.setNow (s.now + 1)) := rfl

/-- The wrap of R1. -/
theorem exec_timeBaseTick_of_now_eq_max (s : State) (hmax : s.now = 0xFFFFFFFF) :
    exec .timeBaseTick s = .next (s.setNow 0) := by
  have hwrap : s.now + 1 = 0 := by rw [hmax]; rfl
  rw [exec_timeBaseTick, hwrap]

/-- The order of time base values as a range of their difference modulo 2^32 (R1). -/
theorem after_eq_true_iff (a b : Time) :
    after a b = true ↔ 1 ≤ (a - b).toNat ∧ (a - b).toNat ≤ 0x7FFFFFFF := by
  simp only [after, Bool.and_eq_true, decide_eq_true_eq]

/-- Settles O3, by the tick's equation, its case at FFFFFFFFh, and the range that `after` tests. -/
theorem timeBaseTicks : Obligations.TimeBaseTicks :=
  ⟨exec_timeBaseTick, exec_timeBaseTick_of_now_eq_max, after_eq_true_iff⟩

end Sys2Proof.Machine
end

section
/-! The camera inputs (chapter 01): transitions, the good-field run, fields in LOCKED, the deadlines, the measures of
a field, and camera records that are written. -/

namespace Sys2Proof.Machine

open Sys2Proof.Safety

/-! ### Time base values and transitions -/

/-- Three field periods as a duration of the time base (R4; log 5). -/
theorem ofNat_fieldSpan_cases (st : Standard) (n : Nat) :
    BitVec.ofNat 32 (fieldSpan st n) = 6 ∨ (st = .s525 ∧ BitVec.ofNat 32 (fieldSpan st n) = 5) := by
  rcases fieldSpan_cases st n with h | ⟨hst, h⟩
  · exact .inl (by rw [h]; rfl)
  · exact .inr ⟨hst, by rw [h]; rfl⟩

/-- A held deadline that the time base has reached is due (R1). -/
theorem due_some_of_reached {now d : Time} {o : Option Time} (ho : o = some d) (hd : reached now d = true) :
    due now o = true := by
  rw [ho]; exact hd

/-- A transition is the camera's move to the record stamped with the time base (R11, R12). -/
theorem sendTransition_eq (m : CameraNotice → CameraMessage) (c : CameraId) (new : Camera) (changed : Bool)
    (s : State) : sendTransition m c new changed s = cameraMovesBy m c { new with stamp := s.now } changed s := rfl

theorem cameraTransition_eq (c : CameraId) (new : Camera) (changed : Bool) (s : State) :
    cameraTransition c new changed s = cameraMoves c { new with stamp := s.now } changed s := rfl

/-! ### The good-field run (R5, R7) -/

theorem exec_fieldEnd_of_seeking {c : CameraId} {s : State}
    (h : (s.cams.get c).state = .searching ∨ (s.cams.get c).state = .lost) (f : FieldInfo) :
    exec (.fieldEnd c f) s = .next (searchField c f s) := by
  show Host.Outcome.next (takeFieldEnd c f s) = _
  rcases h with h | h <;> simp only [takeFieldEnd, h]

theorem searchField_of_invalid {f : FieldInfo} (hf : fieldClass f = none) (c : CameraId) (s : State) :
    searchField c f s = s.setCam c (clearRun (s.cams.get c)) := by
  simp only [searchField, hf]

theorem searchField_of_four {f : FieldInfo} {st : Standard} {c : CameraId} {s : State} (hf : fieldClass f = some st)
    (hrun : 4 ≤ runAfter (s.cams.get c) st) :
    searchField c f s = (cameraTransition c (enterLocked st (spanDeadline st s) (s.cams.get c))
      ((s.cams.get c).standard != some st) s).tickFresh := by
  simp only [searchField, hf, hrun, if_true]

theorem searchField_of_fewer {f : FieldInfo} {st : Standard} {c : CameraId} {s : State} {n : Nat}
    (hf : fieldClass f = some st) (hrun : runAfter (s.cams.get c) st = n) (hn : n < 4) :
    searchField c f s = (s.setCam c (withRun (s.cams.get c) st n (spanDeadline st s))).tickFresh := by
  simp only [searchField, hf, hrun, Nat.not_le.mpr hn, if_false]

theorem runAfter_of_running {cam : Camera} {st : Standard} (hpos : 0 < cam.runCount) (hst : cam.runStandard = some st) :
    runAfter cam st = cam.runCount + 1 := if_pos ⟨hpos, hst⟩

theorem runAfter_of_anew {cam : Camera} {st : Standard} (h : cam.runCount = 0 ∨ cam.runStandard ≠ some st) :
    runAfter cam st = 1 := by
  refine if_neg fun ⟨hpos, hst⟩ => ?_
  rcases h with h | h
  · omega
  · exact h hst

/-! ### A field that ends in LOCKED or OFF (R6, R8, R9, R15, R16, R18) -/

theorem exec_fieldEnd_of_off {c : CameraId} {s : State} (h : (s.cams.get c).state = .off) (f : FieldInfo) :
    exec (.fieldEnd c f) s = .next s := by
  show Host.Outcome.next (takeFieldEnd c f s) = _
  simp only [takeFieldEnd, h]

/-- A field of a LOCKED camera that is not valid is not measured (R8). -/
theorem exec_fieldEnd_of_locked_invalid {c : CameraId} {f : FieldInfo} {s : State}
    (h : (s.cams.get c).state = .locked) (hf : fieldClass f = none) :
    exec (.fieldEnd c f) s = .next (s.setCam c { s.cams.get c with qualifying := none }) := by
  show Host.Outcome.next (takeFieldEnd c f s) = _
  simp only [takeFieldEnd, h, hf]

/-- A valid field of the other standard takes the camera to LOST with a run of 1 (R9). -/
theorem exec_fieldEnd_of_locked_other {c : CameraId} {f : FieldInfo} {st : Standard} {s : State}
    (h : (s.cams.get c).state = .locked) (hf : fieldClass f = some st) (hst : (s.cams.get c).standard ≠ some st) :
    exec (.fieldEnd c f) s = .next (cameraTransition c
      (withRun (enterLost s.now (s.cams.get c)) st 1 (spanDeadline st s)) false s).tickFresh := by
  show Host.Outcome.next (takeFieldEnd c f s) = _
  simp only [takeFieldEnd, h, hf, if_neg hst]

/-- A valid field of the recorded standard is stored, and measured where its parity is selected (R8, R15). -/
theorem exec_fieldEnd_of_locked_same {c : CameraId} {f : FieldInfo} {st : Standard} {s : State}
    (h : (s.cams.get c).state = .locked) (hf : fieldClass f = some st) (hst : (s.cams.get c).standard = some st) :
    exec (.fieldEnd c f) s = .next (lockedField c st f s) := by
  show Host.Outcome.next (takeFieldEnd c f s) = _
  simp only [takeFieldEnd, h, hf, if_pos hst]

/-- The frame store's two pictures after a field (R18; log 41). -/
theorem storeField_eq (f : FieldInfo) (cam : Camera) :
    storeField f cam = { cam with
      storeOdd := if f.parity = .odd then some f.picture else cam.storeOdd
      storeEven := if f.parity = .even then some f.picture else cam.storeEven } := by
  unfold storeField
  cases f.parity <;> rfl

/-- The camera's record after a valid field of the recorded standard (R8, R18). -/
theorem lockedField_get (c : CameraId) (st : Standard) (f : FieldInfo) (s : State) :
    (lockedField c st f s).cams.get c =
      { storeField f (s.cams.get c) with lossDeadline := some (spanDeadline st s), qualifying := none } := by
  unfold lockedField
  dsimp only
  split <;> exact upd_get_self ..

/-- A valid field of the recorded standard touches the camera's record, the free value's argument and the paths
between the blocks alone. -/
theorem lockedField_frame (c : CameraId) (st : Standard) (f : FieldInfo) (s : State) :
    lockedField c st f s = ((s.setCam c ((lockedField c st f s).cams.get c)).setFresh (s.fresh + 1)).setWires
      (lockedField c st f s).wires := by
  rw [lockedField_get]
  unfold lockedField
  dsimp only
  split <;> rfl

/-- The summary of a field whose parity is selected is all that it sends (R15, R16). -/
theorem lockedField_wires (c : CameraId) (st : Standard) (f : FieldInfo) (s : State) :
    (lockedField c st f s).wires = if paritySelected (s.cams.get c).parity f.parity then
        (s.tellZones c (.summary ⟨s.now,
          summaryEntries s.zoneEngine.table st f.picture ((s.cams.get c).qualifying.getD [])⟩)).wires
      else s.wires := by
  unfold lockedField
  dsimp only
  split <;> rfl

/-! ### The measures of a field (R14, R34) -/

/-- A zone whose first row is visible has visible cells, each with samples (R13, R14). -/
theorem sampleCount_pos {z : ZoneConfig} {st : Standard} (hcol : z.col0 ≤ z.col1) (hrow : z.row0 ≤ z.row1)
    (hvis : z.row0 < rowsOf st) : 0 < samplesPerCell z.component * visibleCells z st := by
  have hsamples : 0 < samplesPerCell z.component := by cases z.component <;> decide
  have hcells : 0 < visibleCells z st := by
    rw [visibleCells, if_pos hvis]
    have hlast : z.row0 ≤ lastVisibleRow z st := le_min hrow (by omega)
    exact Nat.mul_pos (by omega) (by omega)
  exact Nat.mul_pos hsamples hcells

/-- The zone mean is the floor of sixteen times the sum over the count (R14). -/
theorem zoneMean_floor {z : ZoneConfig} {st : Standard} (p : Picture)
    (hcount : 0 < samplesPerCell z.component * visibleCells z st) :
    zoneMean z st p * (samplesPerCell z.component * visibleCells z st) ≤ 16 * zoneSum z (lastVisibleRow z st) p ∧
    16 * zoneSum z (lastVisibleRow z st) p <
      (zoneMean z st p + 1) * (samplesPerCell z.component * visibleCells z st) := by
  unfold zoneMean
  rw [Nat.mul_comm (zoneSum z (lastVisibleRow z st) p) 16]
  exact ⟨Nat.div_mul_le_self .., (Nat.lt_mul_div_succ _ hcount).trans_eq (Nat.mul_comm ..)⟩

/-- The difference of mean and reference, whichever is larger (R34). -/
theorem max_sub_min_eq (a b : Nat) : max a b - min a b = if a ≤ b then b - a else a - b := by
  split <;> omega

/-- The change measure by the cases of its two comparisons (R34). -/
theorem changeMeasure_eq (cls : SensClass) (R S : Nat) :
    changeMeasure cls R S =
      min 65535 (((if S ≤ R then R - S else S - R) * 1000) / (if R ≤ cls.darkFloor then cls.darkFloor else R)) := by
  rw [changeMeasure, max_sub_min_eq, Nat.max_def]

/-! ### Deadlines and the first active line (R5, R8, R10, R16) -/

theorem exec_runDeadlineExpiry_of_due {c : CameraId} {s : State} (hd : due s.now (s.cams.get c).runDeadline = true) :
    exec (.runDeadlineExpiry c) s = .next (s.setCam c (clearRun (s.cams.get c))) :=
  congrArg Host.Outcome.next (if_pos hd)

theorem exec_lossDeadlineExpiry_of_due {c : CameraId} {s : State} (h : (s.cams.get c).state = .locked)
    (hd : due s.now (s.cams.get c).lossDeadline = true) :
    exec (.lossDeadlineExpiry c) s =
      .next (cameraTransition c (clearRun (enterLost s.now (s.cams.get c))) false s) :=
  congrArg Host.Outcome.next (if_pos ⟨h, hd⟩)

theorem exec_lostDeadlineExpiry_of_due {c : CameraId} {s : State} (h : (s.cams.get c).state = .lost)
    (hd : due s.now (s.cams.get c).lostDeadline = true) :
    exec (.lostDeadlineExpiry c) s =
      .next (cameraTransition c { s.cams.get c with state := .searching, lostDeadline := none } false s) :=
  congrArg Host.Outcome.next (if_pos ⟨h, hd⟩)

theorem exec_firstActiveLine_of_locked {c : CameraId} {s : State} (h : (s.cams.get c).state = .locked) :
    exec (.firstActiveLine c) s = .next (s.setCam c { s.cams.get c with
      qualifying := some ((List.finRange 48).filter fun z =>
        qualifies c (s.cams.get c).standard (s.zoneEngine.table.get z)) }) :=
  congrArg Host.Outcome.next (if_pos h)

/-! ### Camera records that are written (R3, R6, R44) -/

theorem writeCamera_of_disable {c : CameraId} {cfg : CameraConfig} {s : State} (h : (s.cams.get c).state ≠ .off)
    (hcfg : cfg.enabled = false) (m : CameraNotice → CameraMessage) :
    writeCamera m c cfg s = sendTransition m c
      (enterOff { s.cams.get c with enabled := cfg.enabled, parity := cfg.parity }) false s :=
  if_pos ⟨h, hcfg⟩

theorem writeCamera_of_enable {c : CameraId} {cfg : CameraConfig} {s : State} (h : (s.cams.get c).state = .off)
    (hcfg : cfg.enabled = true) (m : CameraNotice → CameraMessage) :
    writeCamera m c cfg s = sendTransition m c
      (enterSearching { s.cams.get c with enabled := cfg.enabled, parity := cfg.parity }) false s :=
  (if_neg fun hoff => hoff.1 h).trans (if_pos ⟨h, hcfg⟩)

theorem writeCamera_of_kept {c : CameraId} {cfg : CameraConfig} {s : State}
    (h : (s.cams.get c).state = .off ↔ cfg.enabled = false) (m : CameraNotice → CameraMessage) :
    writeCamera m c cfg s = s.setCam c { s.cams.get c with enabled := cfg.enabled, parity := cfg.parity } := by
  have hdisable : ¬ ((s.cams.get c).state ≠ .off ∧ cfg.enabled = false) := fun ⟨hon, hno⟩ => hon (h.mpr hno)
  have henable : ¬ ((s.cams.get c).state = .off ∧ cfg.enabled = true) := fun ⟨hoff, hyes⟩ => by
    rw [h.mp hoff] at hyes; cases hyes
  exact (if_neg hdisable).trans (if_neg henable)

/-- The writing of a camera record and the host link controller do not touch each other. -/
theorem writeCamera_setLink (m : CameraNotice → CameraMessage) (c : CameraId) (cfg : CameraConfig) (s : State)
    (l : HostLink) : writeCamera m c cfg (s.setLink l) = (writeCamera m c cfg s).setLink l := by
  by_cases hkept : (s.cams.get c).state = .off ↔ cfg.enabled = false
  · rw [writeCamera_of_kept (s := s.setLink l) hkept, writeCamera_of_kept hkept]; rfl
  · cases hcfg : cfg.enabled with
    | false =>
      have hon : (s.cams.get c).state ≠ .off := fun hoff => hkept (iff_of_true hoff hcfg)
      rw [writeCamera_of_disable (s := s.setLink l) hon hcfg, writeCamera_of_disable hon hcfg]; rfl
    | true =>
      have hoff : (s.cams.get c).state = .off := by simpa [hcfg] using hkept
      rw [writeCamera_of_enable (s := s.setLink l) hoff hcfg, writeCamera_of_enable hoff hcfg]; rfl

/-- SET_CAMERA writes the record that its payload spells, and answers OK (R3, R179). -/
theorem exec_setCamera_taken {c : CameraId} {cfg : CameraConfig} {f : Frame} {rest : List Frame} {s : State}
    (hready : Ready 0x10 f rest s) (hheld : Unheld s) (hparse : parseSetCamera f.payload = .ok (c, cfg)) :
    ∃ t, exec .setCamera s = .next t ∧ Taken f rest [0x00] s (writeCamera .notice c cfg s) t := by
  refine ⟨_, rfl, takeKind_taken (a := answerOk []) hready ?_⟩
  have hheld' : Unheld (s.setLink { s.link with commands := rest }) := hheld
  rw [judgeSetCamera, configuration_unheld hheld', judged_ok hparse]
  exact congrArg (Prod.mk (answerOk [])) (writeCamera_setLink ..)

/-- A camera takes its restored record as it would be written, its notice at the next place (R44, R204). -/
theorem exec_restoreCamera_handed {c : CameraId} {p : Profile} {s : State} (h : Handed (.camera c) p s) :
    exec (.restoreCamera c) s = .next (partTaken (.camera c)
      (writeCamera (.restored (nextPlace s)) c (p.cameras.get c) s)) := by
  obtain ⟨happlying, hhanded⟩ := h
  exact congrArg Host.Outcome.next (takePart_handed happlying hhanded)

end Sys2Proof.Machine

/-! ### The statements of chapter 01 -/

namespace Sys2Proof.CameraInputs

open Sys2Proof.Machine Sys2Proof.Safety

/-- Settles O8, by the four cases of the run: not valid, three fields already, one or two, none of this standard. -/
theorem goodFieldRun : Obligations.GoodFieldRun := by
  intro c f s hstate
  simp only [exec_fieldEnd_of_seeking hstate]
  refine ⟨fun hf => ?_, fun st hf => ⟨_, ofNat_fieldSpan_cases st s.fresh, ?_, ?_, ?_⟩⟩
  · rw [searchField_of_invalid hf]; rfl
  · intro hthree hst
    have hrun := runAfter_of_running (by omega) hst
    rw [searchField_of_four hf (by omega), cameraTransition_eq]; rfl
  · intro hpos hfew hst
    rw [searchField_of_fewer hf (runAfter_of_running hpos hst) (by omega)]; rfl
  · intro hanew
    rw [searchField_of_fewer hf (runAfter_of_anew hanew) (by omega)]; rfl

/-- Settles O9, by the camera's state and the class of the field; the summary by the three lemmas on `lockedField`. -/
theorem lockedField : Obligations.LockedField := by
  intro c f s
  refine ⟨fun hoff => exec_fieldEnd_of_off hoff f, fun hlocked =>
    ⟨exec_fieldEnd_of_locked_invalid hlocked, fun st hf => ⟨_, ofNat_fieldSpan_cases st s.fresh, ?_, ?_⟩⟩⟩
  · intro hother
    rw [exec_fieldEnd_of_locked_other hlocked hf hother, cameraTransition_eq]; rfl
  · intro hsame
    refine ⟨_, exec_fieldEnd_of_locked_same hlocked hf hsame, ?_, lockedField_frame c st f s,
      lockedField_wires c st f s⟩
    rw [lockedField_get, storeField_eq]; rfl

/-- Settles O10, by the floor of a division by a positive count and the two comparisons of d. -/
theorem measuresOfAField : Obligations.MeasuresOfAField :=
  ⟨fun _ _ p hcol hrow hvis => zoneMean_floor p (sampleCount_pos hcol hrow hvis),
    fun cls R S _ => changeMeasure_eq cls R S⟩

/-- Settles O11, by what each deadline, the first active line and each writing of a record does; the place of a
restored record's notice is the model's next place. -/
theorem cameraEvents : Obligations.CameraEvents := by
  refine ⟨fun c s d hd => ⟨?run, ?loss, ?lost, ?line⟩,
    fun c cfg s => ⟨(writeCamera · c cfg s), ?disable, ?enable, ?kept, ?command, ?restored⟩⟩
  case run => exact fun hrun => exec_runDeadlineExpiry_of_due (due_some_of_reached hrun hd)
  case loss =>
    intro hlocked hloss
    rw [exec_lossDeadlineExpiry_of_due hlocked (due_some_of_reached hloss hd), cameraTransition_eq]; rfl
  case lost =>
    intro hstate hlost
    rw [exec_lostDeadlineExpiry_of_due hstate (due_some_of_reached hlost hd), cameraTransition_eq]
  case line => exact exec_firstActiveLine_of_locked
  case disable =>
    intro hon hno m
    refine (writeCamera_of_disable hon hno m).trans ?_
    rw [sendTransition_eq, hno]; rfl
  case enable =>
    intro hoff hyes m
    refine (writeCamera_of_enable hoff hyes m).trans ?_
    rw [sendTransition_eq, hyes]; rfl
  case kept => exact writeCamera_of_kept
  case command => exact fun f rest hready hheld hparse => exec_setCamera_taken hready hheld hparse
  case restored =>
    intro p hhanded hcfg
    refine ⟨nextPlace s, nextPlace_behind s, ?_⟩
    rw [exec_restoreCamera_handed hhanded, hcfg]

end Sys2Proof.CameraInputs
end

section
/-! The screen compositor (R18, R97–R100): the application of a presentation and the frame composed from it. -/

namespace Sys2Proof.Machine

/-- The oldest presentation on its way becomes the pending one (R98). -/
theorem exec_presentation_cons {p : Presentation} {rest : List Presentation} {s : State}
    (h : s.wires.presentations = p :: rest) :
    exec .presentation s = .next ((s.setWires { s.wires with presentations := rest }).setComp
      { s.comp with pending := some p }) := by
  show execPresentation s = _
  simp only [execPresentation, h]

/-! ### The frame of the applied presentation (R99) -/

theorem composeFrame_of_blank {s : State} (h : viewOf s.comp.applied = none) :
    composeFrame s = s.setComp { s.comp with output := .blank } := by
  simp only [composeFrame, h]

theorem composeFrame_of_view {s : State} {v : ViewId} {cfg : ViewConfig} (h : viewOf s.comp.applied = some v)
    (hcfg : s.sched.views.get v = some cfg) :
    composeFrame s = s.setComp { s.comp with output := viewFrame s cfg } := by
  simp only [composeFrame, h, hcfg]

/-- A tile of a camera: the no-signal pattern unless it is LOCKED, else what its frame store keeps (R18, R99). -/
theorem tileImage_some (s : State) (c : CameraId) :
    tileImage s (some c) = if (s.cams.get c).state ≠ .locked then .noSignal c
      else .picture c ((s.cams.get c).standard != some s.outputStandard) (s.cams.get c).storeOdd
        (s.cams.get c).storeEven :=
  (ite_not ..).symm

/-! ### The application of a presentation (R98, R100) -/

/-- The SCREEN report of a pending presentation has been offered. -/
def screenReported (s : State) : State :=
  match s.comp.pending with
  | none => s
  | some p => s.offer (screenReport s.now p s.comp.applied)

/-- The state whose frame is composed: reported, and the newer of the two presentations applied. -/
def presentationApplied (s : State) : State :=
  (screenReported s).setComp ⟨s.comp.pending.getD s.comp.applied, none, s.comp.output⟩

/-- An output frame start applies the pending presentation, then composes (R98–R100). -/
theorem exec_outputFrameStart (s : State) :
    exec .outputFrameStart s = .next (composeFrame (presentationApplied s)) := by
  show Host.Outcome.next (startFrame s) = _
  congr 1
  unfold presentationApplied screenReported
  cases h : s.comp.pending with
  | none =>
    have hcomp : (⟨s.comp.applied, none, s.comp.output⟩ : Compositor) = s.comp := by rw [← h]
    simp only [startFrame, h, Option.getD_none, hcomp]
    rfl
  | some p =>
    simp only [startFrame, h]
    rfl

theorem screenReported_sched (s : State) : (screenReported s).sched = s.sched := by
  unfold screenReported; split <;> rfl

theorem screenReported_cams (s : State) : (screenReported s).cams = s.cams := by
  unfold screenReported; split <;> rfl

theorem screenReported_outputStandard (s : State) : (screenReported s).outputStandard = s.outputStandard := by
  unfold screenReported; split <;> rfl

/-- The application of a presentation leaves what a tile shows as it is. -/
theorem tileImage_presentationApplied (s : State) (t : Option CameraId) :
    tileImage (presentationApplied s) t = tileImage s t := by
  cases t with
  | none => rfl
  | some c =>
    have hcams : (presentationApplied s).cams = s.cams := screenReported_cams s
    have hstd : (presentationApplied s).outputStandard = s.outputStandard := screenReported_outputStandard s
    rw [tileImage_some, tileImage_some, hcams, hstd]

/-- With BLANK applied the frame is flat black (R99). -/
theorem exec_outputFrameStart_of_blank {s : State} (h : viewOf (s.comp.pending.getD s.comp.applied) = none) :
    exec .outputFrameStart s =
      .next ((screenReported s).setComp ⟨s.comp.pending.getD s.comp.applied, none, .blank⟩) := by
  rw [exec_outputFrameStart, composeFrame_of_blank (s := presentationApplied s) h]
  rfl

/-- With a defined view applied the frame is that of its record as it stands (R99). -/
theorem exec_outputFrameStart_of_view {s : State} {v : ViewId} {cfg : ViewConfig}
    (h : viewOf (s.comp.pending.getD s.comp.applied) = some v) (hcfg : s.sched.views.get v = some cfg) :
    exec .outputFrameStart s = .next ((screenReported s).setComp
      ⟨s.comp.pending.getD s.comp.applied, none, .tiles cfg.layout (cfg.tiles.map (tileImage s)) cfg.title⟩) := by
  have hviews : (presentationApplied s).sched = s.sched := screenReported_sched s
  rw [exec_outputFrameStart, composeFrame_of_view (s := presentationApplied s) h (by rw [hviews, hcfg]), viewFrame,
    funext (tileImage_presentationApplied s)]
  rfl

/-- Settles O31, by the frame of BLANK and of a defined view; the SCREEN report by the kind of the presentation. -/
theorem framesComposed : Obligations.FramesComposed := by
  refine ⟨fun p rest s => exec_presentation_cons, ?_⟩
  intro s applied s1
  have hreported : s1 = screenReported s := by
    unfold screenReported
    simp only [s1]
    cases s.comp.pending with
    | none => rfl
    | some p => cases p <;> rfl
  rw [hreported]
  refine ⟨fun hblank => exec_outputFrameStart_of_blank ?_, fun v cfg hview hcfg => ?_⟩
  · show viewOf applied = none
    rw [hblank]; rfl
  · refine (exec_outputFrameStart_of_view hview hcfg).trans (congrArg (fun images => Host.Outcome.next
      ((screenReported s).setComp ⟨applied, none, .tiles cfg.layout images cfg.title⟩))
      (List.map_congr_left fun t _ => ?_))
    cases t with
    | none => rfl
    | some c => exact tileImage_some s c

end Sys2Proof.Machine
end

section
/-! What the taking of host commands keeps of a property that neither the host link controller nor the report queue
enters (R164, R165): one lemma per operation of the link, from one hypothesis per judgement. -/

namespace Sys2Proof.Machine

open Sys2Proof.Safety

/-! ### Properties beyond the link and the report queue -/

/-- A property of the state that no change of the host link controller or of the report queue can break. -/
structure LinkBlind (P : State → Prop) : Prop where
  link : ∀ s l, P s → P (s.setLink l)
  reports : ∀ s q, P s → P (s.setReports q)

/-- The judgement of a host command keeps a property, whatever its payload. -/
def JudgementKeeps (P : State → Prop) (j : Judgement) : Prop := ∀ p s, P s → P (j p s).2

theorem judged_keeps {P : State → Prop} {α : Type} {parse : List Byte → Except Turndown α}
    {ap : α → State → Answer × State} (h : ∀ x s, P s → P (ap x s).2) : JudgementKeeps P (judged parse ap) := by
  intro p s hs
  unfold judged
  split
  · exact h _ s hs
  · exact hs

theorem configuration_keeps {P : State → Prop} {j : Judgement} (h : JudgementKeeps P j) :
    JudgementKeeps P (configuration j) := by
  intro p s hs
  unfold configuration
  split
  · exact hs
  · exact h p s hs

/-- A query keeps every property: it leaves the state as it is. -/
theorem query_keeps {P : State → Prop} {α : Type} {parse : List Byte → Except Turndown α}
    {answer : α → State → Answer} :
    JudgementKeeps P (judged parse fun x s => (answer x s, s)) :=
  judged_keeps fun _ _ hs => hs

section
variable {P : State → Prop}

theorem LinkBlind.kick (hP : LinkBlind P) {s : State} (h : P s) : P s.kick := by
  rcases kick_cases s with hk | ⟨_, _, _, _, hk⟩ | ⟨_, _, _, _, _, hk⟩ | ⟨_, _, _, _, _, _, hk⟩ <;> rw [hk]
  · exact h
  · exact hP.link _ _ h
  · exact hP.link _ _ h
  · exact hP.link _ _ (hP.reports _ _ h)

/-! ### The taking of a host command (R164) -/

theorem LinkBlind.takeFrame (hP : LinkBlind P) {j : Judgement} (hj : JudgementKeeps P j) (any : Bool) (f : Frame)
    (rest : List Frame) {s : State} (h : P s) : P (takeFrame any j f rest s) := by
  have htaken : P (s.setLink { s.link with commands := rest }) := hP.link _ _ h
  unfold Machine.takeFrame
  dsimp only
  refine hP.kick (hP.link _ _ ?_)
  split
  · exact htaken
  · exact hj _ _ htaken

theorem LinkBlind.takeWhen (hP : LinkBlind P) {j : Judgement} (hj : JudgementKeeps P j) (test : Byte → Bool)
    (any : Bool) {s : State} (h : P s) : P (takeWhen test any j s) := by
  unfold Machine.takeWhen
  split
  · split
    · exact hP.takeFrame hj any _ _ h
    · exact h
  · exact h

theorem LinkBlind.takeKind (hP : LinkBlind P) {j : Judgement} (hj : JudgementKeeps P j) (kind : Byte) {s : State}
    (h : P s) : P (takeKind kind j s) :=
  hP.takeWhen hj _ _ h

/-! ### The takings within a step (R164, R165) -/

theorem LinkBlind.takeCommands (hP : LinkBlind P) (hj : ∀ kind, JudgementKeeps P (hostCommand kind).2) (n : Nat) :
    ∀ s, P s → P (takeCommands n s) := by
  induction n with
  | zero => exact fun _ h => h
  | succ n ih =>
    intro s h
    refine ih _ ?_
    unfold takeOldest
    split
    · split
      · exact hP.takeFrame (hj _) _ _ _ h
      · exact h
    · exact h

theorem LinkBlind.checkCommands (hP : LinkBlind P) (hj : ∀ kind, JudgementKeeps P (hostCommand kind).2) {s : State}
    (h : P s) : P (checkCommands s) :=
  hP.kick (hP.takeCommands hj _ _ h)

theorem LinkBlind.receiveHostByte (hP : LinkBlind P) (hj : ∀ kind, JudgementKeeps P (hostCommand kind).2) (b : Byte)
    (good : Bool) {s : State} (h : P s) : P (receiveHostByte b good s) := by
  unfold Machine.receiveHostByte
  dsimp only
  split
  · exact hP.checkCommands hj (hP.link _ _ h)
  · exact hP.kick (hP.link _ _ h)

/-- The end of a transmission keeps the property when the full reset of RESTART does (R165, R172, R173). -/
theorem LinkBlind.completeFrame (hP : LinkBlind P) (hj : ∀ kind, JudgementKeeps P (hostCommand kind).2) (s3 : Level)
    (hreset : ∀ s, P s → P (restartReset s3 s)) {s : State} (h : P s) : P (completeFrame s3 s) := by
  unfold Machine.completeFrame
  split
  · exact h
  · split
    · exact hP.kick (hP.link _ _ h)
    · unfold completeReply
      dsimp only
      split
      · exact hreset _ (hP.link _ _ h)
      · exact hP.checkCommands hj (hP.link _ _ h)
      · exact hP.checkCommands hj (hP.link _ _ h)
    · exact hP.kick (hP.reports _ _ (hP.link _ _ h))

theorem LinkBlind.expireGap (hP : LinkBlind P) {s : State} (h : P s) : P (expireGap s) := by
  unfold Machine.expireGap
  split
  · exact hP.kick (hP.link _ _ h)
  · exact h

/-! ### Parts of a restored profile (R204) -/

/-- The taking of a part keeps a property that the store does not enter and the part's application keeps. -/
theorem takePart_keeps (hstore : ∀ s x, P s → P (s.setStore x)) {part : Part} {f : Profile → State → State} {s : State}
    (h : P s) (hf : ∀ p, P (f p s)) : P (takePart part f s) := by
  unfold takePart
  split
  · split
    · exact hstore _ _ (hf _)
    · exact h
  · exact h

end

end Sys2Proof.Machine
end

section
/-! The zone, rule and line records: the operations of the part that leave all of them as they are. -/

namespace Sys2Proof.Machine

open Sys2Proof.Safety

/-- What the law on records speaks of: the zone table, the rule table and the contact lines. -/
def records (s : State) : Vector (Option Zone) 48 × Vector (Option Rule) 24 × Vector Line 8 :=
  (s.zoneEngine.table, s.ruleEngine.table, s.lines)

/-- The law on records holds through a change that leaves the records as they are. -/
theorem recordsLaw_of_records_eq {s t : State} (h : RecordsLaw s) (heq : records t = records s) : RecordsLaw t := by
  simp only [records, Prod.mk.injEq] at heq
  obtain ⟨hzones, hrules, hlines⟩ := heq
  exact ⟨by rw [hzones]; exact h.zones, by rw [hrules]; exact h.rules, by rw [hlines]; exact h.lines⟩

theorem recordsLaw_linkBlind : LinkBlind RecordsLaw where
  link _ _ h := recordsLaw_of_records_eq h rfl
  reports _ _ h := recordsLaw_of_records_eq h rfl

/-! ### State updates and messages -/

@[simp] theorem records_setNow (s : State) (x : Time) : records (s.setNow x) = records s := rfl
@[simp] theorem records_setCams (s : State) (x : Vector Camera 6) : records (s.setCams x) = records s := rfl
@[simp] theorem records_setCam (s : State) (c : CameraId) (x : Camera) : records (s.setCam c x) = records s := rfl
@[simp] theorem records_setExtPins (s : State) (x : Vector Level 8) : records (s.setExtPins x) = records s := rfl
@[simp] theorem records_setSched (s : State) (x : Scheduler) : records (s.setSched x) = records s := rfl
@[simp] theorem records_setComp (s : State) (x : Compositor) : records (s.setComp x) = records s := rfl
@[simp] theorem records_setReports (s : State) (x : ReportQueue) : records (s.setReports x) = records s := rfl
@[simp] theorem records_setHead (s : State) (x : HeadLink) : records (s.setHead x) = records s := rfl
@[simp] theorem records_setLink (s : State) (x : HostLink) : records (s.setLink x) = records s := rfl
@[simp] theorem records_setStore (s : State) (x : ProfileStore) : records (s.setStore x) = records s := rfl
@[simp] theorem records_setWires (s : State) (x : Wires) : records (s.setWires x) = records s := rfl
@[simp] theorem records_tickFresh (s : State) : records s.tickFresh = records s := rfl
@[simp] theorem records_offer (s : State) (r : Report) : records (s.offer r) = records s := rfl
@[simp] theorem records_kick (s : State) : records s.kick = records s := by simp [records]

/-! ### Cameras (chapter 01) -/

@[simp] theorem records_cameraTransition (c : CameraId) (new : Camera) (changed : Bool) (s : State) :
    records (cameraTransition c new changed s) = records s := rfl

@[simp] theorem records_searchField (c : CameraId) (f : FieldInfo) (s : State) :
    records (searchField c f s) = records s := by
  unfold searchField
  dsimp only
  split
  · rfl
  · split <;> rfl

@[simp] theorem records_lockedField (c : CameraId) (st : Standard) (f : FieldInfo) (s : State) :
    records (lockedField c st f s) = records s := by
  rw [lockedField_frame]; rfl

theorem records_takeFieldEnd (c : CameraId) (f : FieldInfo) (s : State) :
    records (takeFieldEnd c f s) = records s := by
  unfold takeFieldEnd
  dsimp only
  split
  · rfl
  · simp
  · simp
  · split
    · simp
    · split <;> simp

theorem records_expireRun (c : CameraId) (s : State) : records (expireRun c s) = records s := by
  unfold expireRun; split <;> simp

theorem records_expireLoss (c : CameraId) (s : State) : records (expireLoss c s) = records s := by
  unfold expireLoss; dsimp only; split <;> simp

theorem records_expireLost (c : CameraId) (s : State) : records (expireLost c s) = records s := by
  unfold expireLost; dsimp only; split <;> simp

theorem records_takeFirstLine (c : CameraId) (s : State) : records (takeFirstLine c s) = records s := by
  unfold takeFirstLine; dsimp only; split <;> simp

theorem records_writeCamera (m : CameraNotice → CameraMessage) (c : CameraId) (cfg : CameraConfig) (s : State) :
    records (writeCamera m c cfg s) = records s := by
  unfold writeCamera
  dsimp only
  split
  · rfl
  · split <;> rfl

/-! ### The schedule and the compositor (chapter 04) -/

@[simp] theorem records_selectSource (c : SourceChoice) (s : State) : records (selectSource c s) = records s := rfl

@[simp] theorem records_chooseSource (s : State) : records (chooseSource s) = records s := by
  unfold chooseSource; dsimp only; split <;> simp

@[simp] theorem records_endRequest (q : Request) (o : RequestOutcome) (s : State) :
    records (endRequest q o s) = records s := rfl

@[simp] theorem records_endAndChoose (q : Request) (o : RequestOutcome) (s : State) :
    records (endAndChoose q o s) = records s := by
  unfold endAndChoose; split <;> simp

theorem records_expireDwell (s : State) : records (expireDwell s) = records s := by
  unfold expireDwell
  split
  · rfl
  · split
    · rfl
    · split <;> simp

theorem records_expireLifetime (o : Origin) (s : State) : records (expireLifetime o s) = records s := by
  unfold expireLifetime
  split
  · rfl
  · split <;> simp

theorem records_takeWithdrawal (o : Origin) (s : State) : records (takeWithdrawal o s) = records s := by
  unfold takeWithdrawal; split <;> simp

@[simp] theorem records_preempt (s : State) : records (preempt s) = records s := by
  unfold preempt deferSwitch; split <;> simp

@[simp] theorem records_judgeEntry (o : Origin) (s : State) : records (judgeEntry o s) = records s := by
  unfold judgeEntry
  split
  · rfl
  · simp
  · simp
  · split <;> simp

@[simp] theorem records_enterOver (old : Request) (o : RequestOutcome) (q : ViewRequest) (s : State) :
    records (enterOver old o q s) = records s := by
  unfold enterOver enterRequest; dsimp only; split <;> simp

theorem records_takeRequest (q : ViewRequest) (s : State) : records (takeRequest q s).2 = records s := by
  unfold takeRequest refuseRequest enterRequest
  split
  · rfl
  · split
    · simp
    · split
      · simp
      · split
        · split <;> simp
        · rfl

@[simp] theorem records_elapseDeferral (s : State) : records (elapseDeferral s) = records s := by
  unfold elapseDeferral
  dsimp only
  split
  · simp
  · split <;> simp
  · simp

theorem records_expireDeferral (s : State) : records (expireDeferral s) = records s := by
  unfold expireDeferral; split <;> simp

@[simp] theorem records_advance (s : State) : records (advance s) = records s := by simp [advance]

theorem records_expireRotation (s : State) : records (expireRotation s) = records s := by
  unfold expireRotation; split <;> simp

@[simp] theorem records_advanceUnshowable (s : State) : records (advanceUnshowable s) = records s := by
  unfold advanceUnshowable; split <;> simp

theorem records_takeSchedNotice (c : CameraId) (n : CameraNotice) (s : State) :
    records (takeSchedNotice c n s) = records s := by
  unfold takeSchedNotice
  dsimp only
  split
  · simp
  · split <;> simp
  · simp

theorem records_putView (v : ViewId) (cfg : ViewConfig) (s : State) : records (putView v cfg s) = records s := by
  unfold putView; dsimp only; split <;> simp

theorem records_setRotation (es : List RotationEntry) (s : State) : records (setRotation es s) = records s := by
  unfold setRotation; dsimp only; split <;> simp

theorem records_setMinShow (m : Nat) (s : State) : records (setMinShow m s) = records s := by
  unfold setMinShow
  dsimp only
  split
  · rfl
  · split <;> simp

theorem records_setHold (v : ViewId) (s : State) : records (setHold v s) = records s := by
  unfold setHold; split <;> simp

theorem records_releaseHold (s : State) : records (releaseHold s) = records s := by
  unfold releaseHold; split <;> simp

/-- A run over a list of operations, each of which leaves the records, leaves them. -/
theorem records_foldl {α : Type} {step : State → α → State} (hstep : ∀ s a, records (step s a) = records s)
    (l : List α) : ∀ s, records (l.foldl step s) = records s := by
  induction l with
  | nil => exact fun _ => rfl
  | cons a l ih => exact fun s => (ih _).trans (hstep s a)

theorem records_restoreSchedule (p : Profile) (s : State) : records (restoreSchedule p s) = records s := by
  simp [restoreSchedule, records_foldl (step := fun s q => endRequest q .restored s) fun _ _ => rfl]

theorem records_composeFrame (s : State) : records (composeFrame s) = records s := by
  unfold composeFrame
  split
  · rfl
  · split <;> rfl

theorem records_startFrame (s : State) : records (startFrame s) = records s := by
  unfold startFrame; split <;> simp [records_composeFrame]

/-! ### Reports (chapter 05) -/

theorem records_expireRetransmit (s : State) : records (expireRetransmit s) = records s := by
  unfold expireRetransmit
  split
  · split <;> simp
  · rfl

/-! ### The head link (chapter 07) -/

@[simp] theorem records_endInFlight (t : Transaction) (r : RelayResult) (s : State) :
    records (endInFlight t r s) = records s := rfl

@[simp] theorem records_failAttempt (t : Transaction) (f : Failure) (s : State) :
    records (failAttempt t f s) = records s := by
  unfold failAttempt
  split
  · rfl
  · split <;> rfl

theorem records_completeRequest (s : State) : records (completeRequest s) = records s := by
  unfold completeRequest
  split
  · split <;> simp
  · rfl

@[simp] theorem records_judgeReply (addr tag status : Byte) (crc : Half) (t : Transaction) (s : State) :
    records (judgeReply addr tag status crc t s) = records s := by
  unfold judgeReply
  split
  · simp
  · split <;> simp

theorem records_headByte (s : State) (b : Byte) : records (headByte s b) = records s := by
  unfold headByte
  split
  · split <;> simp
  · rfl

theorem records_takeReply (rate : HeadRate) (good : Bool) (sent : List Byte) (s : State) :
    records (takeReply rate good sent s) = records s := by
  unfold takeReply
  split
  · split <;> simp [records_foldl records_headByte]
  · rfl

theorem records_expireReply (s : State) : records (expireReply s) = records s := by
  unfold expireReply
  split
  · split <;> simp
  · rfl

theorem records_takeRecall (r : Recall) (s : State) : records (takeRecall r s) = records s := by
  unfold takeRecall
  split
  · rfl
  · split <;> rfl

theorem records_cancelInFlight (t : Transaction) (s : State) : records (cancelInFlight t s) = records s := by
  unfold cancelInFlight; split <;> rfl

/-! ### Sessions (chapter 08) -/

theorem records_expireSilence (s : State) : records (expireSilence s) = records s := by
  unfold expireSilence; split <;> rfl

/-! ### The profile store (chapter 10) -/

@[simp] theorem records_endOperation (x : ProfileStore) (r : Report) (s : State) :
    records (endOperation x r s) = records s := rfl

theorem records_takeCommit (s : State) : records (takeCommit s) = records s := by
  unfold takeCommit; split <;> simp

@[simp] theorem records_failCommit (x : ProfileStore) (s : State) : records (failCommit x s) = records s := rfl

theorem records_completeWrite (stored : Option SlotImage) (s : State) :
    records (completeWrite stored s) = records s := by
  unfold completeWrite; split <;> simp

theorem records_completeVerify (good : Bool) (s : State) : records (completeVerify good s) = records s := by
  unfold completeVerify
  split
  · split <;> simp
  · rfl

theorem records_completeGeneration (readBack afterErase : Word32) (s : State) :
    records (completeGeneration readBack afterErase s) = records s := by
  unfold completeGeneration
  split
  · dsimp only; split <;> simp
  · rfl

theorem records_completeRead (good : Bool) (s : State) : records (completeRead good s) = records s := by
  unfold completeRead
  split
  · split <;> simp
  · rfl

theorem records_takePartNotice (p : Part) (s : State) : records (takePartNotice p s) = records s := by
  unfold takePartNotice
  split
  · dsimp only; split <;> simp
  · rfl

theorem records_completeErase (readA readB : Word32) (s : State) :
    records (completeErase readA readB s) = records s := by
  unfold completeErase; split <;> simp

end Sys2Proof.Machine
end

section
/-! The law on zone, rule and line records (R22, R23, R26, R27, R38, R51, R53, R126): the writes that keep it, and the
operations of the three blocks as such writes. -/

namespace Sys2Proof.Machine

open Sys2Proof.Safety

/-! ### Writes that keep the law -/

/-- A law on the entries of a table stands a write that obeys it. -/
theorem upd_keeps {α : Type} {n : Nat} {v : Vector (Option α) n} {law : α → Prop}
    (h : ∀ i x, v.get i = some x → law x) {j : Fin n} {o : Option α} (ho : ∀ x, o = some x → law x) :
    ∀ i x, (upd v j o).get i = some x → law x := by
  intro i x hx
  rw [upd_get] at hx
  split at hx
  · exact ho x hx
  · exact h i x hx

theorem recordsLaw_setZone {s : State} (h : RecordsLaw s) {z : ZoneId} {o : Option Zone}
    (ho : ∀ zone, o = some zone → ZoneLaw zone) : RecordsLaw (s.setZone z o) :=
  ⟨upd_keeps h.zones ho, h.rules, h.lines⟩

theorem recordsLaw_setZone_some {s : State} (h : RecordsLaw s) {z : ZoneId} {zone : Zone} (hz : ZoneLaw zone) :
    RecordsLaw (s.setZone z (some zone)) :=
  recordsLaw_setZone h fun _ he => Option.some.inj he ▸ hz

theorem recordsLaw_setRule {s : State} (h : RecordsLaw s) {r : RuleId} {o : Option Rule}
    (ho : ∀ rule, o = some rule → RuleLaw rule) : RecordsLaw (s.setRule r o) :=
  ⟨h.zones, upd_keeps h.rules ho, h.lines⟩

theorem recordsLaw_setRule_some {s : State} (h : RecordsLaw s) {r : RuleId} {rule : Rule} (hr : RuleLaw rule) :
    RecordsLaw (s.setRule r (some rule)) :=
  recordsLaw_setRule h fun _ he => Option.some.inj he ▸ hr

theorem recordsLaw_setLine {s : State} (h : RecordsLaw s) {l : LineId} {line : Line} (hl : LineLaw line) :
    RecordsLaw (s.setLine l line) := by
  refine ⟨h.zones, h.rules, fun k => ?_⟩
  show LineLaw ((upd s.lines l line).get k)
  rw [upd_get]
  split
  · exact hl
  · exact h.lines k

/-- A run over a list of operations keeps what each of them keeps. -/
theorem foldl_keeps {P : State → Prop} {α : Type} {step : State → α → State} (hstep : ∀ s a, P s → P (step s a))
    (l : List α) : ∀ s, P s → P (l.foldl step s) := by
  induction l with
  | nil => exact fun _ h => h
  | cons a l ih => exact fun s h => ih _ (hstep s a h)

/-! ### Zones (chapter 02) -/

/-- A zone that enters OFF, BLIND or LEARNING is lawful where OFF goes with not enabled (R22, R23, R27). -/
theorem zoneLaw_clearedFor {cfg : ZoneConfig} {run : ZoneRun} {st : ZoneState} {cause : ZoneCause} {stamp : Time}
    (hst : st = .off ∨ st = .blind ∨ st = .learning) (hoff : st = .off ↔ cfg.enabled = false)
    (honsets : run.onsetCount ≤ 65535) : ZoneLaw ⟨cfg, clearedFor run st cause stamp⟩ where
  off := hoff
  cleared _ := ⟨rfl, rfl, rfl⟩
  learned hmeasured := by
    rcases hst with rfl | rfl | rfl <;> rcases hmeasured with hm | hm <;> cases hm
  history := Nat.zero_le _
  fields := Nat.zero_le _
  onsets := honsets

/-- A zone that enters QUIET or ACTIVE with a reference is lawful (R26, R27). -/
theorem zoneLaw_measured {cfg : ZoneConfig} {run : ZoneRun} {st : ZoneState} {cause : ZoneCause} {stamp : Time}
    (hst : st = .quiet ∨ st = .active) (henabled : cfg.enabled = true) (href : run.reference.isSome)
    (hhistory : run.history.length ≤ 16) (honsets : run.onsetCount ≤ 65535) :
    ZoneLaw ⟨cfg, enterZoneState run st cause stamp⟩ := by
  rcases hst with rfl | rfl
  all_goals exact
    { off := by simp [enterZoneState, henabled]
      cleared := by simp [enterZoneState]
      learned := fun _ => href
      history := hhistory
      fields := Nat.zero_le _
      onsets := honsets }

/-- A zone transition keeps the law when the record it leaves is lawful. -/
theorem recordsLaw_zoneTransition {z : ZoneId} {zone : Zone} {st : ZoneState} {cause : ZoneCause} {stamp : Time}
    {s : State} (h : RecordsLaw s) (hz : ZoneLaw ⟨zone.cfg, enterZoneState zone.run st cause stamp⟩) :
    RecordsLaw (zoneTransition z zone st cause stamp s) := by
  refine recordsLaw_of_records_eq (recordsLaw_setZone_some (z := z) h hz) ?_
  rw [zoneTransition_eq]
  unfold zoneMoves
  dsimp only
  split <;> rfl

/-- A transition of a zone to OFF, BLIND or LEARNING keeps the law where OFF goes with not enabled. -/
theorem recordsLaw_clearing {z : ZoneId} {zone : Zone} {st : ZoneState} {cause : ZoneCause} {stamp : Time} {s : State}
    (h : RecordsLaw s) (hst : st = .off ∨ st = .blind ∨ st = .learning) (hoff : st = .off ↔ zone.cfg.enabled = false)
    (honsets : zone.run.onsetCount ≤ 65535) : RecordsLaw (zoneTransition z zone st cause stamp s) :=
  recordsLaw_zoneTransition h (enterZoneState_cleared _ _ _ _ hst ▸ zoneLaw_clearedFor hst hoff honsets)

theorem placement_cases (e : ZoneEngine) (cfg : ZoneConfig) :
    placement e cfg = .blind ∨ placement e cfg = .learning := by
  unfold placement; split <;> simp

/-- A transition of an enabled zone to the state that placement gives keeps the law (R31). -/
theorem recordsLaw_placing {z : ZoneId} {zone : Zone} {e : ZoneEngine} {cause : ZoneCause} {stamp : Time} {s : State}
    (h : RecordsLaw s) (henabled : zone.cfg.enabled = true) (honsets : zone.run.onsetCount ≤ 65535) :
    RecordsLaw (zoneTransition z zone (placement e zone.cfg) cause stamp s) := by
  refine recordsLaw_clearing h (.inr (placement_cases e zone.cfg)) ?_ honsets
  rcases placement_cases e zone.cfg with hp | hp <;> simp [hp, henabled]

/-- A measured field of a lawful zone in LEARNING (R33). -/
theorem recordsLaw_learnField {cls : SensClass} {z : ZoneId} {zone : Zone} {mean : Nat} {stamp : Time} {s : State}
    (h : RecordsLaw s) (hz : ZoneLaw zone) (hst : zone.run.state = .learning) :
    RecordsLaw (learnField cls z zone mean stamp s) := by
  have henabled : zone.cfg.enabled = true := by simpa [hst] using hz.off
  unfold learnField
  dsimp only
  split
  · exact recordsLaw_zoneTransition h
      (zoneLaw_measured (.inl rfl) henabled rfl (Nat.zero_le _) hz.onsets)
  · exact recordsLaw_setZone_some h
      { off := hz.off, cleared := hz.cleared, learned := hz.learned, history := hz.history
        fields := bump_le _ hz.fields, onsets := hz.onsets }

theorem pushHistory_length_le (hit : Bool) (history : List Bool) : (pushHistory hit history).length ≤ 16 := by
  simp [pushHistory]

/-- A lawful zone in QUIET or ACTIVE that stays there after a judged field is lawful (R34–R37). -/
theorem zoneLaw_judged {cls : SensClass} {zone : Zone} {reference mean : Nat} {adapted : Option Nat} (hz : ZoneLaw zone)
    (hst : zone.run.state = .quiet ∨ zone.run.state = .active) (href : adapted.isSome) :
    ZoneLaw ⟨zone.cfg, { judgedRun cls zone.run reference mean with reference := adapted }⟩ where
  off := hz.off
  cleared hcleared := by
    have hcleared : zone.run.state = .off ∨ zone.run.state = .blind ∨ zone.run.state = .learning := hcleared
    rcases hst with hst | hst <;> simp [hst] at hcleared
  learned _ := href
  history := pushHistory_length_le _ _
  fields := bump_le _ hz.fields
  onsets := hz.onsets

/-- A measured field of a lawful zone in QUIET (R36). -/
theorem recordsLaw_quietField {cls : SensClass} {z : ZoneId} {zone : Zone} {reference mean : Nat} {stamp : Time}
    {s : State} (h : RecordsLaw s) (hz : ZoneLaw zone) (hst : zone.run.state = .quiet) :
    RecordsLaw (quietField cls z zone reference mean stamp s) := by
  have henabled : zone.cfg.enabled = true := by simpa [hst] using hz.off
  unfold quietField
  dsimp only
  split
  · exact recordsLaw_zoneTransition h (zoneLaw_measured (.inr rfl) henabled (hz.learned (.inl hst))
      (pushHistory_length_le _ _) (bump_le _ hz.onsets))
  · exact recordsLaw_setZone_some h (zoneLaw_judged hz (.inl hst) rfl)

/-- A measured field of a lawful zone in ACTIVE (R37). -/
theorem recordsLaw_activeField {cls : SensClass} {z : ZoneId} {zone : Zone} {reference mean : Nat} {stamp : Time}
    {s : State} (h : RecordsLaw s) (hz : ZoneLaw zone) (hst : zone.run.state = .active) :
    RecordsLaw (activeField cls z zone reference mean stamp s) := by
  have henabled : zone.cfg.enabled = true := by simpa [hst] using hz.off
  have href := hz.learned (.inr hst)
  unfold activeField
  dsimp only
  split
  · exact recordsLaw_zoneTransition h
      (zoneLaw_measured (.inl rfl) henabled href (pushHistory_length_le _ _) hz.onsets)
  · split
    · exact recordsLaw_clearing h (by simp) (by simp [henabled]) hz.onsets
    · exact recordsLaw_setZone_some h (zoneLaw_judged hz (.inr hst) href)

theorem recordsLaw_takeEntry (stamp : Time) (s : State) (entry : ZoneId × Nat) (h : RecordsLaw s) :
    RecordsLaw (takeEntry stamp s entry) := by
  unfold takeEntry
  split
  · exact h
  next zone hzone =>
    have hz := h.zones _ _ hzone
    dsimp only
    split
    · exact h
    · exact h
    · exact recordsLaw_learnField h hz ‹_›
    · exact recordsLaw_quietField h hz ‹_›
    · exact recordsLaw_activeField h hz ‹_›

/-- A camera notice at one zone (R29, R30). -/
theorem recordsLaw_noticeZone (n : CameraNotice) (c : CameraId) (s : State) (z : ZoneId) (h : RecordsLaw s) :
    RecordsLaw (noticeZone n c s z) := by
  unfold noticeZone
  split
  · exact h
  next zone hzone =>
    have hz := h.zones _ _ hzone
    have hclears : ∀ st cause, zone.run.state ≠ .off → st = .blind ∨ st = .learning →
        RecordsLaw (zoneTransition z zone st cause s.now s) := by
      intro st cause hon hst
      have henabled : zone.cfg.enabled ≠ false := fun hno => hon (hz.off.mpr hno)
      exact recordsLaw_clearing h (.inr hst) (by rcases hst with rfl | rfl <;> simp [henabled]) hz.onsets
    split
    · split
      · split
        · exact h
        · exact h
        next hon _ => exact hclears _ _ hon (.inl rfl)
      · split
        next hblind =>
          have hon : zone.run.state ≠ .off := by simp [hblind.2]
          split
          · exact hclears _ _ hon (.inr rfl)
          · exact hclears _ _ hon (.inl rfl)
        · exact h
    · exact h

theorem recordsLaw_takeZoneNotice (c : CameraId) (n : CameraNotice) {s : State} (h : RecordsLaw s) :
    RecordsLaw (takeZoneNotice c n s) :=
  foldl_keeps (recordsLaw_noticeZone n c) _ _ (recordsLaw_of_records_eq h rfl)

/-- A cleared record is lawful where OFF goes with not enabled (R22, R44, R45). -/
theorem zoneLaw_clearedRun {cfg : ZoneConfig} {st : ZoneState} (hst : st = .off ∨ st = .blind ∨ st = .learning)
    (hoff : st = .off ↔ cfg.enabled = false) : ZoneLaw ⟨cfg, clearedRun st⟩ where
  off := hoff
  cleared _ := ⟨rfl, rfl, rfl⟩
  learned hmeasured := by
    rcases hst with rfl | rfl | rfl <;> rcases hmeasured with hm | hm <;> cases hm
  history := Nat.zero_le _
  fields := Nat.zero_le _
  onsets := Nat.zero_le _

theorem recordsLaw_putZone (z : ZoneId) (cfg : ZoneConfig) {s : State} (h : RecordsLaw s) :
    RecordsLaw (putZone z cfg s) := by
  unfold putZone
  split
  · split
    next henabled => exact recordsLaw_placing h henabled (Nat.zero_le _)
    next hdisabled =>
      exact recordsLaw_setZone_some h (zoneLaw_clearedRun (.inl rfl) (by simpa using hdisabled))
  next old hold =>
    have hz := h.zones _ _ hold
    have hgone : RecordsLaw (disqualify (· == z) (purgeSummaries (· == z) s)) := recordsLaw_of_records_eq h rfl
    have hkept : cfg.enabled = old.cfg.enabled → ZoneLaw ⟨cfg, old.run⟩ := fun he =>
      { hz with off := he ▸ hz.off }
    dsimp only
    split
    next hno hno' => exact recordsLaw_setZone_some h (hkept (hno'.trans hno.symm))
    next _ hyes => exact recordsLaw_placing (zone := ⟨cfg, old.run⟩) h hyes hz.onsets
    next _ hno => exact recordsLaw_clearing hgone (.inl rfl) (by simpa using hno) hz.onsets
    next hyes hyes' =>
      split
      · exact recordsLaw_placing (zone := ⟨cfg, old.run⟩) hgone hyes' hz.onsets
      · exact recordsLaw_setZone_some h (hkept (hyes'.trans hyes.symm))

theorem recordsLaw_removeZone {s : State} (h : RecordsLaw s) (z : ZoneId) : RecordsLaw (s.setZone z none) :=
  recordsLaw_setZone h (by simp)

/-- Restored and loaded zones are lawful (R44, R45). -/
theorem zoneLaw_placedZone (e : ZoneEngine) (cfg : ZoneConfig) : ZoneLaw (placedZone e cfg) := by
  unfold placedZone
  split
  next henabled =>
    refine zoneLaw_clearedRun (.inr (placement_cases e cfg)) ?_
    rcases placement_cases e cfg with hp | hp <;> simp [hp, henabled]
  next hdisabled => exact zoneLaw_clearedRun (.inl rfl) (by simpa using hdisabled)

/-- A law on the images of a table's entries. -/
theorem map_keeps {α β : Type} {n : Nat} {v : Vector (Option α) n} {f : α → β} {law : β → Prop} (hf : ∀ a, law (f a)) :
    ∀ i x, (v.map (Option.map f)).get i = some x → law x := by
  intro i x hx
  simp only [Vector.get_eq_getElem, Vector.getElem_map, Option.map_eq_some_iff] at hx
  obtain ⟨a, _, rfl⟩ := hx
  exact hf a

theorem recordsLaw_dropZone (z : ZoneId) (zone : Zone) {s : State} (h : RecordsLaw s) :
    RecordsLaw (dropZone z zone s) := by
  have hrest : records (dropZone z zone s) = records (s.setZone z none) := by
    unfold dropZone
    dsimp only
    split
    · rfl
    · rw [zoneTransition_eq]
      unfold zoneMoves
      dsimp only
      split <;> simp [records, State.setZone, disqualify, purgeSummaries, upd_upd]
  exact recordsLaw_of_records_eq (recordsLaw_removeZone h z) hrest

theorem recordsLaw_restoreZones (p : Profile) {s : State} (h : RecordsLaw s) : RecordsLaw (restoreZones p s) :=
  ⟨map_keeps (zoneLaw_placedZone _), h.rules, h.lines⟩

/-! ### Rules (chapter 03) -/

/-- A rule that rests in a state without step and deadline is lawful where DISARMED goes with not armed (R51). -/
theorem ruleLaw_resting {cfg : RuleConfig} {st : RuleState} {fires : Nat} {last : Option Time}
    (hst : st = .disarmed ∨ st = .idle ∨ st = .fired) (harmed : st = .disarmed ↔ cfg.armed = false)
    (hfires : fires ≤ 65535) : RuleLaw ⟨cfg, restingRun st fires last⟩ := by
  rcases hst with rfl | rfl | rfl
  all_goals exact
    { disarmed := harmed, step := by simp [restingRun], stepDeadline := by simp [restingRun]
      cooldownDeadline := by simp [restingRun], order := by simp [restingRun], fires := hfires }

theorem recordsLaw_settleRule {r : RuleId} {rule : Rule} {st : RuleState} {s : State} (h : RecordsLaw s)
    (hst : st = .disarmed ∨ st = .idle ∨ st = .fired) (harmed : st = .disarmed ↔ rule.cfg.armed = false)
    (hfires : rule.run.fireCount ≤ 65535) : RecordsLaw (settleRule r rule st s) :=
  recordsLaw_setRule_some h (ruleLaw_resting hst harmed hfires)

/-- What a rule sends is no record. -/
@[simp] theorem records_sending (x : Sent) (s : State) : records (sending x s) = records s := rfl

theorem records_releaseRule (r : RuleId) (rule : Rule) (cause : ClearCause) (s : State) :
    records (releaseRule r rule cause s) = records s := by
  rw [releaseRule_eq, records_sending]

theorem recordsLaw_releaseRule (r : RuleId) (rule : Rule) (cause : ClearCause) {s : State} (h : RecordsLaw s) :
    RecordsLaw (releaseRule r rule cause s) :=
  recordsLaw_of_records_eq h (records_releaseRule r rule cause s)

/-- The firing of an armed rule keeps the law (R53). -/
theorem recordsLaw_fireRule {r : RuleId} {rule : Rule} {s : State} (h : RecordsLaw s) (harmed : rule.cfg.armed = true)
    (hfires : rule.run.fireCount ≤ 65535) : RecordsLaw (fireRule r rule s) := by
  rw [fireRule_eq]
  exact recordsLaw_of_records_eq
    (recordsLaw_setRule_some h (ruleLaw_resting (.inr (.inr rfl)) (by simp [harmed]) (bump_le _ hfires))) rfl

/-- An armed ORDER rule that awaits a term is lawful (R58, R59). -/
theorem recordsLaw_awaitTerm {r : RuleId} {rule : Rule} {n : Nat} {s : State} (h : RecordsLaw s) (hrule : RuleLaw rule)
    (harmed : rule.cfg.armed = true) (horder : rule.cfg.mode = .order) : RecordsLaw (awaitTerm r rule n s) :=
  recordsLaw_setRule_some h
    { disarmed := by simp [settledRun, harmed], step := by simp [settledRun], stepDeadline := by simp [settledRun]
      cooldownDeadline := by simp [settledRun], order := fun _ => horder, fires := hrule.fires }

theorem recordsLaw_idleEvent {e e' : RuleEngine} {r : RuleId} {rule : Rule} {s : State} (h : RecordsLaw s)
    (hrule : RuleLaw rule) (harmed : rule.cfg.armed = true) : RecordsLaw (idleEvent e e' r rule s) := by
  unfold idleEvent
  split
  next horder =>
    split
    · exact recordsLaw_awaitTerm h hrule harmed horder
    · exact h
  · split
    · exact recordsLaw_fireRule h harmed hrule.fires
    · exact h

theorem recordsLaw_stepEvent {e e' : RuleEngine} {r : RuleId} {rule : Rule} {s : State} (h : RecordsLaw s)
    (hrule : RuleLaw rule) (harmed : rule.cfg.armed = true) (horder : rule.cfg.mode = .order) :
    RecordsLaw (stepEvent e e' r rule s) := by
  unfold stepEvent
  dsimp only
  split
  · split
    · exact recordsLaw_fireRule h harmed hrule.fires
    · exact recordsLaw_awaitTerm h hrule harmed horder
  · split
    · exact recordsLaw_awaitTerm h hrule harmed horder
    · exact h

theorem recordsLaw_firedEvent {e' : RuleEngine} {r : RuleId} {rule : Rule} {s : State} (h : RecordsLaw s)
    (hrule : RuleLaw rule) (harmed : rule.cfg.armed = true) : RecordsLaw (firedEvent e' r rule s) := by
  unfold firedEvent
  split
  · exact h
  · split
    · exact recordsLaw_settleRule (recordsLaw_releaseRule r rule _ h) (by simp) (by simp [harmed]) hrule.fires
    · exact recordsLaw_setRule_some h
        { disarmed := by simp [settledRun, harmed], step := by simp [settledRun], stepDeadline := by simp [settledRun]
          cooldownDeadline := by simp [settledRun], order := by simp [settledRun], fires := hrule.fires }

theorem recordsLaw_cooldownEvent {e' : RuleEngine} {r : RuleId} {rule : Rule} {s : State} (h : RecordsLaw s)
    (hrule : RuleLaw rule) (harmed : rule.cfg.armed = true) : RecordsLaw (cooldownEvent e' r rule s) := by
  unfold cooldownEvent
  split
  · exact recordsLaw_settleRule h (by simp) (by simp [harmed]) hrule.fires
  · exact h

/-- A lawful rule that is not DISARMED is armed (R51). -/
theorem armed_of_ne_disarmed {rule : Rule} (hrule : RuleLaw rule) (hst : rule.run.state ≠ .disarmed) :
    rule.cfg.armed = true := by
  simpa using mt hrule.disarmed.mpr hst

theorem recordsLaw_meetRule (e e' : RuleEngine) (s : State) (r : RuleId) (h : RecordsLaw s) :
    RecordsLaw (meetRule e e' s r) := by
  unfold meetRule
  split
  · exact h
  next rule hdefined =>
    have hrule := h.rules _ _ hdefined
    split
    · unfold termEvent
      split
      · exact h
      next hst => exact recordsLaw_idleEvent h hrule (armed_of_ne_disarmed hrule (by simp [hst]))
      next hst => exact recordsLaw_stepEvent h hrule (armed_of_ne_disarmed hrule (by simp [hst])) (hrule.order hst)
      next hst => exact recordsLaw_firedEvent h hrule (armed_of_ne_disarmed hrule (by simp [hst]))
      next hst => exact recordsLaw_cooldownEvent h hrule (armed_of_ne_disarmed hrule (by simp [hst]))
    · exact h

/-- A change of the term copies keeps the law (R50). -/
theorem recordsLaw_takeCopies {e' : RuleEngine} {s : State} (h : RecordsLaw s)
    (htable : e'.table = s.ruleEngine.table) : RecordsLaw (takeCopies e' s) :=
  foldl_keeps (recordsLaw_meetRule s.ruleEngine e') _ _
    (recordsLaw_of_records_eq h (by simp [records, htable]))

theorem recordsLaw_expireStep (r : RuleId) {s : State} (h : RecordsLaw s) : RecordsLaw (expireStep r s) := by
  unfold expireStep
  split
  · exact h
  next rule hdefined =>
    have hrule := h.rules _ _ hdefined
    split
    next hdue =>
      have harmed := armed_of_ne_disarmed hrule (by simp [hdue.1])
      exact recordsLaw_settleRule h (by simp) (by simp [harmed]) hrule.fires
    · exact h

theorem recordsLaw_expireCooldown (r : RuleId) {s : State} (h : RecordsLaw s) : RecordsLaw (expireCooldown r s) := by
  unfold expireCooldown
  split
  · exact h
  next rule hdefined =>
    have hrule := h.rules _ _ hdefined
    split
    next hdue =>
      have harmed := armed_of_ne_disarmed hrule (by simp [hdue.1])
      exact recordsLaw_settleRule (recordsLaw_releaseRule r rule _ h) (by simp) (by simp [harmed]) hrule.fires
    · exact h

/-- A disarming keeps the law (R71). -/
theorem recordsLaw_disarmRule {r : RuleId} {rule : Rule} (cause : ClearCause) {s : State} (h : RecordsLaw s)
    (hrule : RuleLaw rule) : RecordsLaw (disarmRule r rule cause s) := by
  unfold disarmRule
  dsimp only
  refine recordsLaw_setRule_some ?_ (ruleLaw_resting (.inl rfl) (iff_of_true rfl rfl) hrule.fires)
  split
  · exact recordsLaw_releaseRule r rule cause h
  · exact h

/-- An arming keeps the law (R70). -/
theorem recordsLaw_armRule {r : RuleId} {rule : Rule} {s : State} (h : RecordsLaw s)
    (hfires : rule.run.fireCount ≤ 65535) : RecordsLaw (armRule r rule s) := by
  unfold armRule
  dsimp only
  split
  · exact recordsLaw_fireRule h rfl hfires
  · exact recordsLaw_settleRule h (.inr (.inl rfl)) (by simp) hfires

/-- A rule stored DISARMED, then armed where its record says so (R69, R74). -/
theorem recordsLaw_storeRule {r : RuleId} {cfg : RuleConfig} {fires : Nat} {last : Option Time} {s : State}
    (h : RecordsLaw s) (hfires : fires ≤ 65535) : RecordsLaw (storeRule r cfg (restingRun .disarmed fires last) s) := by
  unfold storeRule
  split
  · exact recordsLaw_armRule h hfires
  next hdisarmed =>
    exact recordsLaw_setRule_some h (ruleLaw_resting (.inl rfl) (by simpa using hdisarmed) hfires)

theorem recordsLaw_putRule (r : RuleId) (cfg : RuleConfig) {s : State} (h : RecordsLaw s) :
    RecordsLaw (putRule r cfg s) := by
  unfold putRule
  split
  · exact recordsLaw_storeRule h (Nat.zero_le _)
  next old hdefined =>
    have hrule := h.rules _ _ hdefined
    exact recordsLaw_storeRule (recordsLaw_disarmRule .replaced h hrule) hrule.fires

theorem recordsLaw_setArmed (r : RuleId) {rule : Rule} (armed : Bool) {s : State} (h : RecordsLaw s)
    (hrule : RuleLaw rule) : RecordsLaw (setArmed r rule armed s) := by
  unfold setArmed
  split
  · split
    · exact h
    · exact recordsLaw_armRule h hrule.fires
  · exact recordsLaw_disarmRule .disarmed h hrule

theorem recordsLaw_dropRule (r : RuleId) {rule : Rule} {s : State} (h : RecordsLaw s) (hrule : RuleLaw rule) :
    RecordsLaw (dropRule r rule s) :=
  recordsLaw_setRule (recordsLaw_disarmRule .dropped h hrule) (by simp)

theorem recordsLaw_displaceRule (s : State) (r : RuleId) (h : RecordsLaw s) : RecordsLaw (displaceRule s r) := by
  unfold displaceRule
  split
  · exact h
  next rule hdefined => exact recordsLaw_disarmRule .restored h (h.rules _ _ hdefined)

/-- The first event of a restored profile at the rule engine (R74). -/
theorem recordsLaw_removeRules {s : State} (h : RecordsLaw s) : RecordsLaw (removeRules s) := by
  unfold removeRules
  generalize hs1 : (allIds 24).foldl displaceRule s = s1
  have hdisplaced : RecordsLaw s1 := hs1 ▸ foldl_keeps recordsLaw_displaceRule _ _ h
  refine ⟨hdisplaced.zones, fun r rule hr => ?_, hdisplaced.lines⟩
  have hnone : (Vector.replicate 24 (none : Option Rule)).get r = none := by simp [Vector.get_eq_getElem]
  cases hnone.symm.trans hr

/-- The second event of a restored profile at the rule engine (R74). -/
theorem recordsLaw_restoreRules (p : Profile) {s : State} (h : RecordsLaw s) : RecordsLaw (restoreRules p s) := by
  refine foldl_keeps (fun s r h => ?_) _ _ h
  unfold restoreRule
  split
  · exact recordsLaw_setRule h (by simp)
  · exact recordsLaw_storeRule h (Nat.zero_le _)

/-! ### Contact lines (chapter 06) -/

/-- An INPUT line without claimants, pulse and assertion is lawful (R126). -/
theorem lineLaw_of_input {line : Line} (hmode : line.mode = .input)
    (hbare : line.claimants = Vector.replicate 24 false ∧ line.pulse = none ∧ line.asserted = false) : LineLaw line :=
  ⟨fun hne => absurd hmode hne, fun _ => hbare⟩

/-- An OUTPUT line that is INACTIVE with nothing pending is lawful (R126). -/
theorem lineLaw_of_output {line : Line} (hmode : line.mode = .output)
    (hstill : line.accepted = .inactive ∧ line.pendingChange = none) : LineLaw line :=
  ⟨fun _ => hstill, fun hne => absurd hmode hne⟩

/-- The acceptance of a change of an INPUT line keeps the law (R131). -/
theorem recordsLaw_acceptChange {l : LineId} {stamp : Time} {s : State} (h : RecordsLaw s)
    (hmode : (s.lines.get l).mode = .input) : RecordsLaw (acceptChange l stamp s) :=
  recordsLaw_of_records_eq
    (recordsLaw_setLine h (line := { s.lines.get l with
        accepted := otherState (s.lines.get l).accepted, pendingChange := none })
      (lineLaw_of_input hmode ((h.lines l).output (by simp [hmode])))) rfl

theorem recordsLaw_beginChange {l : LineId} {s : State} (h : RecordsLaw s) (hmode : (s.lines.get l).mode = .input) :
    RecordsLaw (beginChange l s) := by
  unfold beginChange
  dsimp only
  split
  · exact recordsLaw_acceptChange h hmode
  · exact recordsLaw_setLine h (lineLaw_of_input hmode ((h.lines l).output (by simp [hmode])))

theorem recordsLaw_takeLevelChange {l : LineId} {s : State} (h : RecordsLaw s) (hmode : (s.lines.get l).mode = .input) :
    RecordsLaw (takeLevelChange l s) := by
  unfold takeLevelChange
  dsimp only
  split
  · exact recordsLaw_setLine h (lineLaw_of_input hmode ((h.lines l).output (by simp [hmode])))
  · split
    · exact recordsLaw_beginChange h hmode
    · exact h

/-- A pending change is that of an INPUT line, so its acceptance keeps the law (R129). -/
theorem recordsLaw_expireDebounce (l : LineId) {s : State} (h : RecordsLaw s) : RecordsLaw (expireDebounce l s) := by
  unfold expireDebounce
  split
  next d hpending =>
    split
    · refine recordsLaw_acceptChange h (by_contra fun hmode => ?_)
      obtain ⟨_, hnone⟩ := (h.lines l).input hmode
      rw [hnone] at hpending
      cases hpending
    · exact h
  · exact h

/-- An OUTPUT line stays lawful through its claims, its pulse and its assertion (R132–R134). -/
theorem lineLaw_reassert {now : Time} {line : Line} (h : LineLaw line) : LineLaw (reassert now line) := by
  unfold reassert
  split
  next hmode => exact lineLaw_of_output hmode (h.input (by simp [hmode]))
  · exact h

theorem recordsLaw_claimLine (l : LineId) (r : RuleId) (present : Bool) {s : State} (h : RecordsLaw s) :
    RecordsLaw (claimLine l r present s) := by
  unfold claimLine
  dsimp only
  split
  next hmode =>
    exact recordsLaw_setLine h (lineLaw_reassert (lineLaw_of_output hmode ((h.lines l).input (by simp [hmode]))))
  · exact h

theorem recordsLaw_pulseLine (l : LineId) (steps : Nat) {s : State} (h : RecordsLaw s) :
    RecordsLaw (pulseLine l steps s) := by
  unfold pulseLine
  dsimp only
  split
  next hmode =>
    exact recordsLaw_setLine h (lineLaw_reassert (lineLaw_of_output hmode ((h.lines l).input (by simp [hmode]))))
  · exact h

/-- A line without its pulse is as lawful as it was (R133). -/
theorem recordsLaw_expirePulse (l : LineId) {s : State} (h : RecordsLaw s) : RecordsLaw (expirePulse l s) := by
  unfold expirePulse
  dsimp only
  split
  · refine recordsLaw_setLine h (lineLaw_reassert ⟨(h.lines l).input, fun hmode => ?_⟩)
    obtain ⟨hclaimants, _, hasserted⟩ := (h.lines l).output hmode
    exact ⟨hclaimants, rfl, hasserted⟩
  · exact h

theorem recordsLaw_driveLine (l : LineId) (d : HostDrive) {s : State} (h : RecordsLaw s) :
    RecordsLaw (s.setLine l (reassert s.now { s.lines.get l with drive := d })) :=
  recordsLaw_setLine h (lineLaw_reassert ⟨(h.lines l).input, (h.lines l).output⟩)

/-- An INPUT line that judges its pin afresh stays lawful (R130). -/
theorem lineLaw_judgedAfresh {now : Time} {ext : Level} {line : Line} (hmode : line.mode = .input)
    (hbare : line.claimants = Vector.replicate 24 false ∧ line.pulse = none ∧ line.asserted = false) :
    LineLaw (judgedAfresh now ext line).1 := by
  unfold judgedAfresh
  split
  · exact lineLaw_of_input hmode hbare
  · split <;> exact lineLaw_of_input hmode hbare

/-- A write of a line's three fields leaves a lawful line (R128). -/
theorem lineLaw_lineWritten (now : Time) (ext : Level) (cfg : LineConfig) {old : Line} (h : LineLaw old) :
    LineLaw (lineWritten now ext cfg old).1 := by
  obtain ⟨mode, active, debounce⟩ := cfg
  unfold lineWritten
  cases hold : old.mode with
  | input =>
    have hbare := h.output (by simp [hold])
    cases mode with
    | input =>
      dsimp only
      split
      · exact lineLaw_of_input rfl hbare
      · exact lineLaw_judgedAfresh rfl hbare
    | unused => exact ⟨fun _ => ⟨rfl, rfl⟩, fun _ => hbare⟩
    | output => exact lineLaw_of_output rfl ⟨rfl, rfl⟩
  | output =>
    have hstill := h.input (by simp [hold])
    cases mode with
    | input => exact lineLaw_judgedAfresh rfl ⟨rfl, rfl, rfl⟩
    | unused => exact ⟨fun _ => hstill, fun _ => ⟨rfl, rfl, rfl⟩⟩
    | output => exact lineLaw_of_output rfl hstill
  | unused =>
    have hstill := h.input (by simp [hold])
    have hbare := h.output (by simp [hold])
    cases mode with
    | input => exact lineLaw_judgedAfresh rfl ⟨rfl, rfl, rfl⟩
    | unused => exact ⟨fun _ => hstill, fun _ => hbare⟩
    | output => exact lineLaw_of_output rfl hstill

theorem recordsLaw_writeLine (l : LineId) (cfg : LineConfig) {s : State} (h : RecordsLaw s) :
    RecordsLaw (writeLine l cfg s) := by
  rw [writeLine_eq]
  refine recordsLaw_of_records_eq
    (recordsLaw_setLine (l := l) h (lineLaw_lineWritten s.now (s.extPins.get l) cfg (h.lines l))) ?_
  unfold lineWrites
  apply records_foldl
  exact fun _ _ => rfl

theorem recordsLaw_restoreLines (p : Profile) {s : State} (h : RecordsLaw s) : RecordsLaw (restoreLines p s) :=
  foldl_keeps (fun _ l h => recordsLaw_writeLine l _ h) _ _ h

/-! ### The full resets (R206) -/

theorem ruleLaw_startRule (cfg : RuleConfig) : RuleLaw (startRule cfg) := by
  refine ruleLaw_resting (st := if cfg.armed then .idle else .disarmed) ?_ ?_ (Nat.zero_le _)
  · split <;> simp
  · cases cfg.armed <;> simp

theorem lineLaw_startLine (cfg : LineConfig) : LineLaw (startLine cfg) :=
  ⟨fun _ => ⟨rfl, rfl⟩, fun _ => ⟨rfl, rfl, rfl⟩⟩

/-- Every record of a full reset is lawful, whatever the profile it loads (R22, R51, R126). -/
theorem recordsLaw_startBlocks (straps : Straps) (rate : HostRate) (std : Standard) (s : State) :
    RecordsLaw (startBlocks straps rate std s) where
  zones := map_keeps (zoneLaw_placedZone _)
  rules := map_keeps ruleLaw_startRule
  lines l := by
    simp only [startBlocks, Vector.get_eq_getElem, Vector.getElem_map]
    exact lineLaw_startLine _

theorem recordsLaw_fullReset (straps : Straps) (rate : HostRate) (std : Standard) (s : State) :
    RecordsLaw (fullReset straps rate std s) := by
  refine foldl_keeps (fun s l h => ?_) _ _ (recordsLaw_startBlocks straps rate std s)
  unfold startPin judgePin
  split
  next hmode =>
    split
    · exact recordsLaw_beginChange h hmode
    · exact h
  · exact h

end Sys2Proof.Machine
end

section
/-! O56: every command keeps the law on records, by what each host command's judgement and each row does to them. -/

namespace Sys2Proof.Machine

open Sys2Proof.Safety

/-! ### The judgements of the host commands -/

/-- A judgement that leaves the records as they are keeps their law. -/
theorem judged_keeps_recordsLaw {α : Type} {parse : List Byte → Except Turndown α} {ap : α → State → Answer × State}
    (h : ∀ x s, records (ap x s).2 = records s) : JudgementKeeps RecordsLaw (judged parse ap) :=
  judged_keeps fun x s hs => recordsLaw_of_records_eq hs (h x s)

theorem judgePutZone_keeps : JudgementKeeps RecordsLaw judgePutZone :=
  configuration_keeps (judged_keeps fun _ _ h => recordsLaw_putZone _ _ h)

theorem judgeDropZone_keeps : JudgementKeeps RecordsLaw judgeDropZone := by
  refine configuration_keeps (judged_keeps fun z s h => ?_)
  split
  · exact h
  · split
    · exact h
    · exact recordsLaw_dropZone z _ h

theorem judgeRelearnZone_keeps : JudgementKeeps RecordsLaw judgeRelearnZone := by
  refine judged_keeps fun z s h => ?_
  split
  · exact h
  next zone hzone =>
    split
    next henabled =>
      exact recordsLaw_placing (recordsLaw_of_records_eq h rfl) henabled (h.zones _ _ hzone).onsets
    · exact h

theorem judgeGetZone_keeps : JudgementKeeps RecordsLaw judgeGetZone :=
  judged_keeps_recordsLaw fun _ _ => by split <;> rfl

theorem judgePutRule_keeps : JudgementKeeps RecordsLaw judgePutRule := by
  refine configuration_keeps (judged_keeps fun x s h => ?_)
  dsimp only
  split
  · exact h
  · exact recordsLaw_putRule _ _ h

/-- A command on a defined rule keeps the law when its effect on a lawful rule does. -/
theorem onRule_keeps {r : RuleId} {f : Rule → State → Answer × State} {s : State} (h : RecordsLaw s)
    (hf : ∀ rule, RuleLaw rule → RecordsLaw (f rule s).2) : RecordsLaw (onRule r f s).2 := by
  unfold onRule
  split
  · exact h
  next rule hdefined => exact hf rule (h.rules _ _ hdefined)

theorem judgeDropRule_keeps : JudgementKeeps RecordsLaw judgeDropRule :=
  configuration_keeps (judged_keeps fun r _ h => onRule_keeps h fun _ hrule => recordsLaw_dropRule r h hrule)

theorem judgeArmRule_keeps : JudgementKeeps RecordsLaw judgeArmRule :=
  configuration_keeps (judged_keeps fun x _ h => onRule_keeps h fun _ hrule => recordsLaw_setArmed x.1 x.2 h hrule)

theorem judgeGetRule_keeps : JudgementKeeps RecordsLaw judgeGetRule :=
  judged_keeps fun _ _ h => onRule_keeps h fun _ _ => h

theorem judgeDropView_keeps : JudgementKeeps RecordsLaw judgeDropView := by
  refine configuration_keeps (judged_keeps_recordsLaw fun _ s => ?_)
  split
  · rfl
  · split <;> rfl

theorem judgeSetRotation_keeps : JudgementKeeps RecordsLaw judgeSetRotation := by
  refine configuration_keeps (judged_keeps_recordsLaw fun _ s => ?_)
  split
  · rfl
  · exact records_setRotation _ _

theorem judgeShowView_keeps : JudgementKeeps RecordsLaw judgeShowView := by
  refine judged_keeps_recordsLaw fun q s => ?_
  split
  · rfl
  · have htaken := records_takeRequest q s
    split
    next heq => rwa [heq] at htaken
    next heq => rwa [heq] at htaken

theorem judgeWithdraw_keeps : JudgementKeeps RecordsLaw judgeWithdraw := by
  refine judged_keeps_recordsLaw fun _ s => ?_
  split
  · rfl
  · exact records_takeWithdrawal _ _

theorem judgeHold_keeps : JudgementKeeps RecordsLaw judgeHold := by
  refine judged_keeps_recordsLaw fun _ s => ?_
  split
  · rfl
  · exact records_setHold _ _

theorem judgePull_keeps : JudgementKeeps RecordsLaw judgePull :=
  judged_keeps_recordsLaw fun _ _ => by split <;> rfl

theorem judgeAck_keeps : JudgementKeeps RecordsLaw judgeAck :=
  judged_keeps_recordsLaw fun _ _ => by split <;> rfl

theorem judgeSetLine_keeps : JudgementKeeps RecordsLaw judgeSetLine := by
  refine configuration_keeps (judged_keeps fun x s h => ?_)
  dsimp only
  split
  · exact h
  · exact recordsLaw_writeLine _ _ h

theorem judgeDriveLine_keeps : JudgementKeeps RecordsLaw judgeDriveLine :=
  judged_keeps fun x _ h => recordsLaw_driveLine x.1 x.2 h

theorem judgeRelay_keeps : JudgementKeeps RecordsLaw judgeRelay :=
  judged_keeps_recordsLaw fun _ _ => by dsimp only; split <;> rfl

theorem judgeCancelRelay_keeps : JudgementKeeps RecordsLaw judgeCancelRelay := by
  refine judged_keeps_recordsLaw fun _ s => ?_
  split
  · exact records_cancelInFlight _ _
  · split <;> rfl

theorem judgeCommit_keeps : JudgementKeeps RecordsLaw judgeCommit := by
  refine judged_keeps_recordsLaw fun _ s => ?_
  split
  · exact records_takeCommit s
  · rfl

theorem judgeRestore_keeps : JudgementKeeps RecordsLaw judgeRestore := by
  refine judged_keeps_recordsLaw fun _ s => ?_
  split
  · split <;> rfl
  · rfl

theorem judgeErase_keeps : JudgementKeeps RecordsLaw judgeErase :=
  judged_keeps_recordsLaw fun _ _ => by split <;> rfl

/-- The judgement of every kind of host command keeps the law on records. -/
theorem hostCommand_keeps_recordsLaw (kind : Byte) : JudgementKeeps RecordsLaw (hostCommand kind).2 := by
  unfold hostCommand
  split
  · exact query_keeps
  · exact judged_keeps_recordsLaw fun _ _ => rfl
  · exact judged_keeps_recordsLaw fun _ _ => rfl
  · exact query_keeps
  · exact query_keeps
  · exact judged_keeps_recordsLaw fun _ _ => rfl
  · exact query_keeps
  · exact configuration_keeps (judged_keeps_recordsLaw fun _ _ => records_writeCamera _ _ _ _)
  · exact query_keeps
  · exact configuration_keeps (judged_keeps_recordsLaw fun _ _ => rfl)
  · exact query_keeps
  · exact judgePutZone_keeps
  · exact judgeDropZone_keeps
  · exact judgeRelearnZone_keeps
  · exact judgeGetZone_keeps
  · exact judgePutRule_keeps
  · exact judgeDropRule_keeps
  · exact judgeArmRule_keeps
  · exact judgeGetRule_keeps
  · exact configuration_keeps (judged_keeps_recordsLaw fun _ _ => records_putView _ _ _)
  · exact judgeDropView_keeps
  · exact judgeSetRotation_keeps
  · exact configuration_keeps (judged_keeps_recordsLaw fun _ _ => records_setMinShow _ _)
  · exact judgeShowView_keeps
  · exact judgeWithdraw_keeps
  · exact judgeHold_keeps
  · exact judged_keeps_recordsLaw fun _ _ => records_releaseHold _
  · exact query_keeps
  · exact configuration_keeps (judged_keeps_recordsLaw fun _ _ => rfl)
  · exact judgePull_keeps
  · exact judgeAck_keeps
  · exact judgeSetLine_keeps
  · exact judgeDriveLine_keeps
  · exact query_keeps
  · exact configuration_keeps (judged_keeps_recordsLaw fun _ _ => rfl)
  · exact judgeRelay_keeps
  · exact judgeCancelRelay_keeps
  · exact query_keeps
  · exact judgeCommit_keeps
  · exact judgeRestore_keeps
  · exact judgeErase_keeps
  · exact query_keeps
  · exact fun _ _ h => h

/-- The taking of a host command of a kind keeps the law on records (R164). -/
theorem recordsLaw_takeWhen (kind : Byte) (test : Byte → Bool) (any : Bool) {s : State} (h : RecordsLaw s) :
    RecordsLaw (takeWhen test any (hostCommand kind).2 s) :=
  recordsLaw_linkBlind.takeWhen (hostCommand_keeps_recordsLaw kind) test any h

/-- The taking of a part of a restored profile keeps the law on records when its application does (R204). -/
theorem recordsLaw_takePart {part : Part} {f : Profile → State → State} {s : State} (h : RecordsLaw s)
    (hf : ∀ p, RecordsLaw (f p s)) : RecordsLaw (takePart part f s) :=
  takePart_keeps (fun _ _ hs => recordsLaw_of_records_eq hs rfl) h hf

/-! ### The rows that take a message or write lines -/

theorem recordsLaw_execFieldSummary (c : CameraId) {s : State} (h : RecordsLaw s) :
    ∃ t, execFieldSummary c s = .next t ∧ RecordsLaw t := by
  refine ⟨_, rfl, ?_⟩
  split
  · exact foldl_keeps (recordsLaw_takeEntry _) _ _ (recordsLaw_of_records_eq h rfl)
  · exact h

theorem recordsLaw_execCameraNoticeAtZones (c : CameraId) {s : State} (h : RecordsLaw s) :
    ∃ t, execCameraNoticeAtZones c s = .next t ∧ RecordsLaw t := by
  have hdropped : RecordsLaw (dropCameraMessage c s) := recordsLaw_of_records_eq h rfl
  refine ⟨_, rfl, ?_⟩
  split
  · exact recordsLaw_takeZoneNotice c _ hdropped
  · split
    · exact recordsLaw_takeZoneNotice c _ hdropped
    · exact h
  · exact h

theorem recordsLaw_execZoneTransition {s : State} (h : RecordsLaw s) :
    ∃ t, execZoneTransition s = .next t ∧ RecordsLaw t := by
  refine ⟨_, rfl, ?_⟩
  split
  · exact recordsLaw_takeCopies (recordsLaw_of_records_eq h rfl) rfl
  · exact h

theorem recordsLaw_execLineTransition (l : LineId) {s : State} (h : RecordsLaw s) :
    ∃ t, execLineTransition l s = .next t ∧ RecordsLaw t := by
  refine ⟨_, rfl, ?_⟩
  split
  · exact recordsLaw_takeCopies (recordsLaw_of_records_eq h rfl) rfl
  · exact h

theorem records_execRestartNotice (s : State) : ∃ t, execRestartNotice s = .next t ∧ records t = records s := by
  refine ⟨_, rfl, ?_⟩
  split <;> rfl

theorem recordsLaw_execRestoreRulesArm {s : State} (h : RecordsLaw s) :
    ∃ t, execRestoreRulesArm s = .next t ∧ RecordsLaw t := by
  refine ⟨_, rfl, ?_⟩
  split
  · exact h
  · exact recordsLaw_takePart h fun p => recordsLaw_restoreRules p h

theorem records_execViewRequest (s : State) : ∃ t, execViewRequest s = .next t ∧ records t = records s := by
  refine ⟨_, rfl, ?_⟩
  split
  · exact records_takeRequest _ _
  · rfl

theorem records_execWithdrawal (s : State) : ∃ t, execWithdrawal s = .next t ∧ records t = records s := by
  refine ⟨_, rfl, ?_⟩
  split
  · exact records_takeWithdrawal _ _
  · rfl

theorem records_execCameraNoticeAtScheduler (c : CameraId) (s : State) :
    ∃ t, execCameraNoticeAtScheduler c s = .next t ∧ records t = records s := by
  refine ⟨_, rfl, ?_⟩
  split
  · exact records_takeSchedNotice _ _ _
  · rfl

theorem records_execPresentation (s : State) : ∃ t, execPresentation s = .next t ∧ records t = records s := by
  refine ⟨_, rfl, ?_⟩
  split <;> rfl

theorem records_execReportOffer (k : ReportKind) (s : State) :
    ∃ t, execReportOffer k s = .next t ∧ records t = records s := by
  refine ⟨_, rfl, ?_⟩
  split <;> simp

theorem records_execPushStallNotice (s : State) : ∃ t, execPushStallNotice s = .next t ∧ records t = records s := by
  refine ⟨_, rfl, ?_⟩
  split <;> rfl

theorem recordsLaw_execPinLevelChange (l : LineId) {s : State} (h : RecordsLaw s) :
    ∃ t, execPinLevelChange l s = .next t ∧ RecordsLaw t := by
  have hpin : RecordsLaw (s.setExtPins (upd s.extPins l (otherLevel (s.extPins.get l)))) :=
    recordsLaw_of_records_eq h rfl
  refine ⟨_, rfl, ?_⟩
  dsimp only
  split
  next hmode => exact recordsLaw_takeLevelChange hpin hmode
  · exact hpin

theorem recordsLaw_execLatchClaim {s : State} (h : RecordsLaw s) : ∃ t, execLatchClaim s = .next t ∧ RecordsLaw t := by
  refine ⟨_, rfl, ?_⟩
  split
  · exact recordsLaw_claimLine _ _ _ (recordsLaw_of_records_eq h rfl)
  · exact h

theorem recordsLaw_execLatchDrop {s : State} (h : RecordsLaw s) : ∃ t, execLatchDrop s = .next t ∧ RecordsLaw t := by
  refine ⟨_, rfl, ?_⟩
  split
  · exact recordsLaw_claimLine _ _ _ (recordsLaw_of_records_eq h rfl)
  · exact h

theorem recordsLaw_execPulseClaim {s : State} (h : RecordsLaw s) : ∃ t, execPulseClaim s = .next t ∧ RecordsLaw t := by
  refine ⟨_, rfl, ?_⟩
  split
  · exact recordsLaw_pulseLine _ _ (recordsLaw_of_records_eq h rfl)
  · exact h

theorem records_execRecall (s : State) : ∃ t, execRecall s = .next t ∧ records t = records s := by
  refine ⟨_, rfl, ?_⟩
  split
  · exact records_takeRecall _ _
  · rfl

theorem records_execTurnaroundGapEnd (s : State) : ∃ t, execTurnaroundGapEnd s = .next t ∧ records t = records s := by
  refine ⟨_, rfl, ?_⟩
  split <;> rfl

/-! ### Every command -/

/-- A command that leaves the records as they are keeps their law. -/
theorem exists_next_of_records {i : Instr} {s : State} (h : RecordsLaw s)
    (hi : ∃ t, exec i s = .next t ∧ records t = records s) : ∃ t, exec i s = .next t ∧ RecordsLaw t := by
  obtain ⟨t, hexec, heq⟩ := hi
  exact ⟨t, hexec, recordsLaw_of_records_eq h heq⟩

/-- Every command answers a state in which every zone, rule and line record is lawful. -/
theorem recordsLaw_exec (i : Instr) {s : State} (h : RecordsLaw s) : ∃ t, exec i s = .next t ∧ RecordsLaw t := by
  match i with
  | .powerOn _ => exact ⟨_, rfl, recordsLaw_fullReset _ _ _ _⟩
  | .resetLine _ => exact ⟨_, rfl, recordsLaw_fullReset _ _ _ _⟩
  | .timeBaseTick => exact ⟨_, rfl, recordsLaw_of_records_eq h (records_setNow _ _)⟩
  | .fieldEnd _ _ => exact ⟨_, rfl, recordsLaw_of_records_eq h (records_takeFieldEnd _ _ _)⟩
  | .runDeadlineExpiry _ => exact ⟨_, rfl, recordsLaw_of_records_eq h (records_expireRun _ _)⟩
  | .lossDeadlineExpiry _ => exact ⟨_, rfl, recordsLaw_of_records_eq h (records_expireLoss _ _)⟩
  | .lostDeadlineExpiry _ => exact ⟨_, rfl, recordsLaw_of_records_eq h (records_expireLost _ _)⟩
  | .setCamera => exact ⟨_, rfl, recordsLaw_takeWhen 0x10 _ _ h⟩
  | .getCamera => exact ⟨_, rfl, recordsLaw_takeWhen 0x11 _ _ h⟩
  | .fieldSummary c => exact recordsLaw_execFieldSummary c h
  | .cameraNoticeAtZones c => exact recordsLaw_execCameraNoticeAtZones c h
  | .setClass => exact ⟨_, rfl, recordsLaw_takeWhen 0x14 _ _ h⟩
  | .getClass => exact ⟨_, rfl, recordsLaw_takeWhen 0x15 _ _ h⟩
  | .putZone => exact ⟨_, rfl, recordsLaw_takeWhen 0x18 _ _ h⟩
  | .dropZone => exact ⟨_, rfl, recordsLaw_takeWhen 0x19 _ _ h⟩
  | .relearnZone => exact ⟨_, rfl, recordsLaw_takeWhen 0x1A _ _ h⟩
  | .getZone => exact ⟨_, rfl, recordsLaw_takeWhen 0x1B _ _ h⟩
  | .restoreZones => exact ⟨_, rfl, recordsLaw_takePart h fun p => recordsLaw_restoreZones p h⟩
  | .zoneTransition => exact recordsLaw_execZoneTransition h
  | .lineTransition l => exact recordsLaw_execLineTransition l h
  | .restartNotice => exact exists_next_of_records h (records_execRestartNotice s)
  | .stepDeadlineExpiry r => exact ⟨_, rfl, recordsLaw_expireStep r h⟩
  | .cooldownDeadlineExpiry r => exact ⟨_, rfl, recordsLaw_expireCooldown r h⟩
  | .putRule => exact ⟨_, rfl, recordsLaw_takeWhen 0x20 _ _ h⟩
  | .dropRule => exact ⟨_, rfl, recordsLaw_takeWhen 0x21 _ _ h⟩
  | .armRule => exact ⟨_, rfl, recordsLaw_takeWhen 0x22 _ _ h⟩
  | .getRule => exact ⟨_, rfl, recordsLaw_takeWhen 0x23 _ _ h⟩
  | .restoreRulesRemove => exact ⟨_, rfl, recordsLaw_takePart h fun _ => recordsLaw_removeRules h⟩
  | .restoreRulesArm => exact recordsLaw_execRestoreRulesArm h
  | .viewRequest => exact exists_next_of_records h (records_execViewRequest s)
  | .withdrawal => exact exists_next_of_records h (records_execWithdrawal s)
  | .cameraNoticeAtScheduler c => exact exists_next_of_records h (records_execCameraNoticeAtScheduler c s)
  | .dwellDeadlineExpiry => exact ⟨_, rfl, recordsLaw_of_records_eq h (records_expireDwell _)⟩
  | .lifetimeDeadlineExpiry _ => exact ⟨_, rfl, recordsLaw_of_records_eq h (records_expireLifetime _ _)⟩
  | .rotationDeadlineExpiry => exact ⟨_, rfl, recordsLaw_of_records_eq h (records_expireRotation _)⟩
  | .deferralDeadlineExpiry => exact ⟨_, rfl, recordsLaw_of_records_eq h (records_expireDeferral _)⟩
  | .putView => exact ⟨_, rfl, recordsLaw_takeWhen 0x28 _ _ h⟩
  | .dropView => exact ⟨_, rfl, recordsLaw_takeWhen 0x29 _ _ h⟩
  | .setRotation => exact ⟨_, rfl, recordsLaw_takeWhen 0x2A _ _ h⟩
  | .setMinshow => exact ⟨_, rfl, recordsLaw_takeWhen 0x2B _ _ h⟩
  | .showView => exact ⟨_, rfl, recordsLaw_takeWhen 0x2C _ _ h⟩
  | .withdraw => exact ⟨_, rfl, recordsLaw_takeWhen 0x2D _ _ h⟩
  | .hold => exact ⟨_, rfl, recordsLaw_takeWhen 0x2E _ _ h⟩
  | .release => exact ⟨_, rfl, recordsLaw_takeWhen 0x2F _ _ h⟩
  | .getScreen => exact ⟨_, rfl, recordsLaw_takeWhen 0x30 _ _ h⟩
  | .restoreSchedule =>
    exact ⟨_, rfl, recordsLaw_takePart h fun p => recordsLaw_of_records_eq h (records_restoreSchedule p s)⟩
  | .presentation => exact exists_next_of_records h (records_execPresentation s)
  | .outputFrameStart => exact ⟨_, rfl, recordsLaw_of_records_eq h (records_startFrame _)⟩
  | .reportOffer k => exact exists_next_of_records h (records_execReportOffer k s)
  | .setFilter => exact ⟨_, rfl, recordsLaw_takeWhen 0x38 _ _ h⟩
  | .restoreFilter => exact ⟨_, rfl, recordsLaw_takePart h fun _ => recordsLaw_of_records_eq h rfl⟩
  | .pull => exact ⟨_, rfl, recordsLaw_takeWhen 0x39 _ _ h⟩
  | .ack => exact ⟨_, rfl, recordsLaw_takeWhen 0x3A _ _ h⟩
  | .retransmitDeadlineExpiry => exact ⟨_, rfl, recordsLaw_of_records_eq h (records_expireRetransmit _)⟩
  | .pushStallNotice => exact exists_next_of_records h (records_execPushStallNotice s)
  | .pinLevelChange l => exact recordsLaw_execPinLevelChange l h
  | .debounceDeadlineExpiry l => exact ⟨_, rfl, recordsLaw_expireDebounce l h⟩
  | .latchClaim => exact recordsLaw_execLatchClaim h
  | .latchDrop => exact recordsLaw_execLatchDrop h
  | .pulseClaim => exact recordsLaw_execPulseClaim h
  | .pulseDeadlineExpiry l => exact ⟨_, rfl, recordsLaw_expirePulse l h⟩
  | .setLine => exact ⟨_, rfl, recordsLaw_takeWhen 0x40 _ _ h⟩
  | .driveLine => exact ⟨_, rfl, recordsLaw_takeWhen 0x41 _ _ h⟩
  | .getLines => exact ⟨_, rfl, recordsLaw_takeWhen 0x42 _ _ h⟩
  | .restoreLines => exact ⟨_, rfl, recordsLaw_takePart h fun p => recordsLaw_restoreLines p h⟩
  | .recall => exact exists_next_of_records h (records_execRecall s)
  | .relay => exact ⟨_, rfl, recordsLaw_takeWhen 0x49 _ _ h⟩
  | .cancelRelay => exact ⟨_, rfl, recordsLaw_takeWhen 0x4A _ _ h⟩
  | .setHeadlink => exact ⟨_, rfl, recordsLaw_takeWhen 0x48 _ _ h⟩
  | .getRelays => exact ⟨_, rfl, recordsLaw_takeWhen 0x4B _ _ h⟩
  | .restoreHeadlink => exact ⟨_, rfl, recordsLaw_takePart h fun _ => recordsLaw_of_records_eq h rfl⟩
  | .requestFrameComplete => exact ⟨_, rfl, recordsLaw_of_records_eq h (records_completeRequest _)⟩
  | .replyFrame _ _ _ _ => exact ⟨_, rfl, recordsLaw_of_records_eq h (records_takeReply _ _ _ _)⟩
  | .replyDeadlineExpiry => exact ⟨_, rfl, recordsLaw_of_records_eq h (records_expireReply _)⟩
  | .turnaroundGapEnd => exact exists_next_of_records h (records_execTurnaroundGapEnd s)
  | .hostByteReceived _ _ => exact ⟨_, rfl, recordsLaw_linkBlind.receiveHostByte hostCommand_keeps_recordsLaw _ _ h⟩
  | .gapDeadlineExpiry => exact ⟨_, rfl, recordsLaw_linkBlind.expireGap h⟩
  | .silenceDeadlineExpiry => exact ⟨_, rfl, recordsLaw_of_records_eq h (records_expireSilence _)⟩
  | .frameTxComplete _ => exact ⟨_, rfl, recordsLaw_linkBlind.completeFrame hostCommand_keeps_recordsLaw _
        (fun _ _ => recordsLaw_fullReset _ _ _ _) h⟩
  | .unknownKind => exact ⟨_, rfl, recordsLaw_takeWhen 0x00 _ _ h⟩
  | .hello => exact ⟨_, rfl, recordsLaw_takeWhen 0x01 _ _ h⟩
  | .openSession => exact ⟨_, rfl, recordsLaw_takeWhen 0x02 _ _ h⟩
  | .closeSession => exact ⟨_, rfl, recordsLaw_takeWhen 0x03 _ _ h⟩
  | .ping => exact ⟨_, rfl, recordsLaw_takeWhen 0x04 _ _ h⟩
  | .setLink => exact ⟨_, rfl, recordsLaw_takeWhen 0x05 _ _ h⟩
  | .restart => exact ⟨_, rfl, recordsLaw_takeWhen 0x06 _ _ h⟩
  | .time => exact ⟨_, rfl, recordsLaw_takeWhen 0x07 _ _ h⟩
  | .commit => exact ⟨_, rfl, recordsLaw_takeWhen 0x50 _ _ h⟩
  | .commitWriteDone _ => exact ⟨_, rfl, recordsLaw_of_records_eq h (records_completeWrite _ _)⟩
  | .commitVerifyDone _ => exact ⟨_, rfl, recordsLaw_of_records_eq h (records_completeVerify _ _)⟩
  | .generationWriteDone _ _ => exact ⟨_, rfl, recordsLaw_of_records_eq h (records_completeGeneration _ _ _)⟩
  | .restore => exact ⟨_, rfl, recordsLaw_takeWhen 0x51 _ _ h⟩
  | .restoreReadDone _ => exact ⟨_, rfl, recordsLaw_of_records_eq h (records_completeRead _ _)⟩
  | .restoreCamera _ =>
    exact ⟨_, rfl, recordsLaw_takePart h fun _ => recordsLaw_of_records_eq h (records_writeCamera _ _ _ _)⟩
  | .partTakenNotice _ => exact ⟨_, rfl, recordsLaw_of_records_eq h (records_takePartNotice _ _)⟩
  | .eraseProfile => exact ⟨_, rfl, recordsLaw_takeWhen 0x52 _ _ h⟩
  | .erasePrepareDone _ _ => exact ⟨_, rfl, recordsLaw_of_records_eq h (records_completeErase _ _ _)⟩
  | .getProfile => exact ⟨_, rfl, recordsLaw_takeWhen 0x53 _ _ h⟩
  | .firstActiveLine _ => exact ⟨_, rfl, recordsLaw_of_records_eq h (records_takeFirstLine _ _)⟩

end Sys2Proof.Machine

namespace Sys2Proof.Records

open Sys2Proof.Machine Sys2Proof.Safety

/-- Settles O56, by `recordsLaw_exec`: the command has one outcome, and in it the law holds. -/
theorem recordsKept : Obligations.RecordsKept := by
  intro i s t h hexec
  obtain ⟨u, hnext, hlaw⟩ := recordsLaw_exec i h
  cases hexec.symm.trans hnext
  exact hlaw

end Sys2Proof.Records
end

section
/-! Field summaries at the zone engine (R32–R37, R41, R42): one entry at a time, by the state of its zone. -/

namespace Sys2Proof.Machine

open Sys2Proof.Safety

/-! ### The summary paths -/

/-- The state with other messages on the paths from the cameras to the zone engine. -/
def onCameraPaths (paths : Vector (List CameraMessage) 6) (s : State) : State :=
  s.setWires { s.wires with camToZones := paths }

@[simp] theorem onCameraPaths_camToZones (paths : Vector (List CameraMessage) 6) (s : State) :
    (onCameraPaths paths s).wires.camToZones = paths := rfl

@[simp] theorem onCameraPaths_onCameraPaths (p q : Vector (List CameraMessage) 6) (s : State) :
    onCameraPaths q (onCameraPaths p s) = onCameraPaths q s := rfl

/-- The oldest message of a camera leaves the rest on its path. -/
theorem dropCameraMessage_cons {c : CameraId} {m : CameraMessage} {rest : List CameraMessage} {s : State}
    (h : s.wires.camToZones.get c = m :: rest) :
    dropCameraMessage c s = onCameraPaths (upd s.wires.camToZones c rest) s := by
  simp only [dropCameraMessage, onCameraPaths, h, List.tail_cons]

/-- FIELD_SUMMARY takes the summary that is the oldest message of the camera (R11, R32). -/
theorem exec_fieldSummary_cons {c : CameraId} {f : Summary} {rest : List CameraMessage} {s : State}
    (h : s.wires.camToZones.get c = .summary f :: rest) :
    exec (.fieldSummary c) s = .next (takeSummary f (onCameraPaths (upd s.wires.camToZones c rest) s)) := by
  show execFieldSummary c s = _
  simp only [execFieldSummary, h, dropCameraMessage_cons h]

/-- A summary of one entry is the taking of that entry. -/
theorem exec_fieldSummary_single {c : CameraId} {stamp : Time} {e : ZoneId × Nat} {rest : List CameraMessage}
    {s : State} (h : s.wires.camToZones.get c = .summary ⟨stamp, [e]⟩ :: rest) :
    exec (.fieldSummary c) s = .next (takeEntry stamp (onCameraPaths (upd s.wires.camToZones c rest) s) e) :=
  exec_fieldSummary_cons h

/-! ### Entries and paths do not touch each other -/

theorem zoneTransition_onCameraPaths (paths : Vector (List CameraMessage) 6) (z : ZoneId) (zone : Zone) (st : ZoneState)
    (cause : ZoneCause) (stamp : Time) (s : State) :
    zoneTransition z zone st cause stamp (onCameraPaths paths s) =
      onCameraPaths paths (zoneTransition z zone st cause stamp s) := by
  unfold zoneTransition
  dsimp only
  split <;> rfl

theorem takeEntry_onCameraPaths (paths : Vector (List CameraMessage) 6) (stamp : Time) (e : ZoneId × Nat) (s : State) :
    takeEntry stamp (onCameraPaths paths s) e = onCameraPaths paths (takeEntry stamp s e) := by
  have hengine : (onCameraPaths paths s).zoneEngine = s.zoneEngine := rfl
  unfold takeEntry
  rw [hengine]
  cases s.zoneEngine.table.get e.1 with
  | none => rfl
  | some zone =>
    dsimp only
    cases zone.run.state with
    | off => rfl
    | blind => rfl
    | learning =>
      unfold learnField
      dsimp only
      split
      · exact zoneTransition_onCameraPaths ..
      · rfl
    | quiet =>
      unfold quietField
      dsimp only
      split
      · exact zoneTransition_onCameraPaths ..
      · rfl
    | active =>
      unfold activeField
      dsimp only
      split
      · exact zoneTransition_onCameraPaths ..
      · split
        · exact zoneTransition_onCameraPaths ..
        · rfl

/-- The taking of an entry leaves the paths from the cameras as they are. -/
theorem takeEntry_camToZones (stamp : Time) (e : ZoneId × Nat) (s : State) :
    (takeEntry stamp s e).wires.camToZones = s.wires.camToZones :=
  congrArg (fun t => t.wires.camToZones) (takeEntry_onCameraPaths s.wires.camToZones stamp e s)

/-! ### One entry, by the state of its zone -/

theorem takeEntry_of_discarded {stamp : Time} {z : ZoneId} {S : Nat} {s : State}
    (h : ∀ zone, s.zoneEngine.table.get z = some zone → zone.run.state = .off ∨ zone.run.state = .blind) :
    takeEntry stamp s (z, S) = s := by
  unfold takeEntry
  dsimp only
  split
  · rfl
  next zone hzone => rcases h zone hzone with hst | hst <;> simp only [hst]

theorem takeEntry_of_learning {stamp : Time} {z : ZoneId} {S : Nat} {zone : Zone} {s : State}
    (hzone : s.zoneEngine.table.get z = some zone) (hst : zone.run.state = .learning) :
    takeEntry stamp s (z, S) = learnField (s.zoneEngine.classes.get zone.cfg.cls) z zone S stamp s := by
  simp only [takeEntry, hzone, hst]

theorem takeEntry_of_quiet {stamp : Time} {z : ZoneId} {S R : Nat} {zone : Zone} {s : State}
    (hzone : s.zoneEngine.table.get z = some zone) (hst : zone.run.state = .quiet)
    (href : zone.run.reference = some R) :
    takeEntry stamp s (z, S) = quietField (s.zoneEngine.classes.get zone.cfg.cls) z zone R S stamp s := by
  simp only [takeEntry, hzone, hst, href, Option.getD_some]

theorem takeEntry_of_active {stamp : Time} {z : ZoneId} {S R : Nat} {zone : Zone} {s : State}
    (hzone : s.zoneEngine.table.get z = some zone) (hst : zone.run.state = .active)
    (href : zone.run.reference = some R) :
    takeEntry stamp s (z, S) = activeField (s.zoneEngine.classes.get zone.cfg.cls) z zone R S stamp s := by
  simp only [takeEntry, hzone, hst, href, Option.getD_some]

/-- The learn count reaches Learn: LEARNED, with the floor of the mean of the sums as reference (R33). -/
theorem learnField_of_learned {cls : SensClass} {z : ZoneId} {zone : Zone} {S : Nat} {stamp : Time} {s : State}
    (hst : zone.run.state = .learning) (h : cls.learn ≤ zone.run.learnCount + 1) :
    learnField cls z zone S stamp s = zoneMoves z .learning ⟨zone.cfg, { zone.run with
      state := .quiet, reference := some ((zone.run.learnSum + S) / (zone.run.learnCount + 1))
      learnSum := zone.run.learnSum + S, learnCount := zone.run.learnCount + 1, history := [], lastS := some S
      fieldsInState := 0, lastCause := some .learned, stamp := stamp }⟩ .learned zone.cfg.causes.learned s := by
  refine (if_pos h).trans ?_
  rw [zoneTransition_eq, ← hst]
  rfl

theorem learnField_of_fewer {cls : SensClass} {z : ZoneId} {zone : Zone} {S : Nat} {stamp : Time} {s : State}
    (h : zone.run.learnCount + 1 < cls.learn) :
    learnField cls z zone S stamp s = s.setZone z (some ⟨zone.cfg, { zone.run with
      learnSum := zone.run.learnSum + S, learnCount := zone.run.learnCount + 1, lastS := some S
      fieldsInState := bump zone.run.fieldsInState }⟩) :=
  if_neg (Nat.not_le_of_lt h)

/-- K_on hits: ONSET (R36). -/
theorem quietField_of_onset {cls : SensClass} {z : ZoneId} {zone : Zone} {R S : Nat} {stamp : Time} {s : State}
    (hst : zone.run.state = .quiet) (h : cls.kOn ≤ hitCount cls (judgedRun cls zone.run R S).history) :
    quietField cls z zone R S stamp s = zoneMoves z .quiet ⟨zone.cfg, { judgedRun cls zone.run R S with
      state := .active, fieldsInState := 0, onsetCount := bump zone.run.onsetCount, lastCause := some .onset
      stamp := stamp }⟩ .onset zone.cfg.causes.onset s := by
  refine (if_pos h).trans ?_
  rw [zoneTransition_eq, ← hst]
  rfl

/-- Fewer hits than K_on: the reference adapts (R36). -/
theorem quietField_of_stays {cls : SensClass} {z : ZoneId} {zone : Zone} {R S : Nat} {stamp : Time} {s : State}
    (h : hitCount cls (judgedRun cls zone.run R S).history < cls.kOn) :
    quietField cls z zone R S stamp s = s.setZone z (some ⟨zone.cfg, { judgedRun cls zone.run R S with
      reference := some (if cls.adapt = 0 then R
        else ((R : Int) + ((S : Int) - R).tdiv (2 ^ cls.adapt)).toNat) }⟩) := by
  refine (if_neg (Nat.not_le_of_lt h)).trans ?_
  simp only [adaptReference, Nat.cast_pow, Nat.cast_ofNat]

/-- K_off hits or fewer after Hold fields: CALM (R37). -/
theorem activeField_of_calm {cls : SensClass} {z : ZoneId} {zone : Zone} {R S : Nat} {stamp : Time} {s : State}
    (hst : zone.run.state = .active)
    (h : hitCount cls (judgedRun cls zone.run R S).history ≤ cls.kOff ∧ cls.hold ≤ bump zone.run.fieldsInState) :
    activeField cls z zone R S stamp s = zoneMoves z .active ⟨zone.cfg, { judgedRun cls zone.run R S with
      state := .quiet, fieldsInState := 0, lastCause := some .calm, stamp := stamp }⟩ .calm zone.cfg.causes.calm s := by
  refine (if_pos h).trans ?_
  rw [zoneTransition_eq, ← hst]
  rfl

/-- A non-zero Max active is reached without CALM: STALE (R37). -/
theorem activeField_of_stale {cls : SensClass} {z : ZoneId} {zone : Zone} {R S : Nat} {stamp : Time} {s : State}
    (hst : zone.run.state = .active)
    (hcalm : ¬ (hitCount cls (judgedRun cls zone.run R S).history ≤ cls.kOff ∧ cls.hold ≤ bump zone.run.fieldsInState))
    (h : cls.maxActive ≠ 0 ∧ cls.maxActive ≤ bump zone.run.fieldsInState) :
    activeField cls z zone R S stamp s = zoneMoves z .active ⟨zone.cfg, { judgedRun cls zone.run R S with
      state := .learning, reference := none, learnSum := 0, learnCount := 0, history := [], lastD := none
      fieldsInState := 0, lastCause := some .stale, stamp := stamp }⟩ .stale zone.cfg.causes.stale s := by
  refine (if_neg hcalm).trans ((if_pos h).trans ?_)
  rw [zoneTransition_eq, ← hst]
  rfl

theorem activeField_of_stays {cls : SensClass} {z : ZoneId} {zone : Zone} {R S : Nat} {stamp : Time} {s : State}
    (hcalm : ¬ (hitCount cls (judgedRun cls zone.run R S).history ≤ cls.kOff ∧ cls.hold ≤ bump zone.run.fieldsInState))
    (hstale : ¬ (cls.maxActive ≠ 0 ∧ cls.maxActive ≤ bump zone.run.fieldsInState)) :
    activeField cls z zone R S stamp s = s.setZone z (some ⟨zone.cfg, judgedRun cls zone.run R S⟩) :=
  (if_neg hcalm).trans (if_neg hstale)

end Sys2Proof.Machine

/-! ### The statements on field summaries -/

namespace Sys2Proof.ZoneFields

open Sys2Proof.Machine Sys2Proof.Safety

/-- A summary may be taken in two parts: its first entry, then the others. -/
theorem fieldSummary_apart {c : CameraId} {e : ZoneId × Nat} {es : List (ZoneId × Nat)} {stamp : Time}
    {rest : List CameraMessage} {s : State} (h : s.wires.camToZones.get c = .summary ⟨stamp, e :: es⟩ :: rest) :
    ∃ u, exec (.fieldSummary c) (onCameraPaths
        (upd s.wires.camToZones c (.summary ⟨stamp, [e]⟩ :: .summary ⟨stamp, es⟩ :: rest)) s) = .next u ∧
      exec (.fieldSummary c) s = exec (.fieldSummary c) u := by
  have hfirst := exec_fieldSummary_single (c := c) (stamp := stamp) (e := e) (rest := .summary ⟨stamp, es⟩ :: rest)
    (s := onCameraPaths (upd s.wires.camToZones c (.summary ⟨stamp, [e]⟩ :: .summary ⟨stamp, es⟩ :: rest)) s)
    (by simp)
  refine ⟨_, hfirst, ?_⟩
  rw [exec_fieldSummary_cons h, exec_fieldSummary_cons (f := ⟨stamp, es⟩) (rest := rest)
    (by simp [takeEntry_camToZones])]
  simp [takeEntry_onCameraPaths, upd_upd, takeSummary]

/-- Settles O12, by the taking of one entry: discarded, learned, or counted. -/
theorem learningField : Obligations.LearningField := by
  refine ⟨fun c e es stamp rest s h => fieldSummary_apart h, fun c stamp rest s h => exec_fieldSummary_cons h,
    fun c z S stamp rest s h hdiscarded => ?_, fun c z S stamp rest zone s h hzone hst => ?_⟩
  · exact (exec_fieldSummary_single h).trans (congrArg _ (takeEntry_of_discarded hdiscarded))
  · dsimp only
    have hentry := (exec_fieldSummary_single h).trans (congrArg _ (takeEntry_of_learning hzone hst))
    exact ⟨fun hlearned => hentry.trans (congrArg _ (learnField_of_learned hst hlearned)),
      fun hfewer => hentry.trans (congrArg _ (learnField_of_fewer hfewer))⟩

/-- Settles O13, by the state of the zone and the branch that its hits and fields select. -/
theorem judgedField : Obligations.JudgedField := by
  intro c z S R stamp rest zone s h hzone href
  dsimp only
  have hentry := exec_fieldSummary_single h
  have hquiet := fun hst => hentry.trans (congrArg _ (takeEntry_of_quiet hzone hst href))
  have hactive := fun hst => hentry.trans (congrArg _ (takeEntry_of_active hzone hst href))
  refine ⟨fun hst honset => ?_, fun hst hfew => ?_, fun hst hcalm => ?_, fun hst hcalm hstale => ?_,
    fun hst hcalm hstale => ?_⟩
  · exact (hquiet hst).trans (congrArg _ (quietField_of_onset hst honset))
  · exact (hquiet hst).trans (congrArg _ (quietField_of_stays hfew))
  · exact (hactive hst).trans (congrArg _ (activeField_of_calm hst hcalm))
  · exact (hactive hst).trans (congrArg _ (activeField_of_stale hst hcalm hstale))
  · exact (hactive hst).trans (congrArg _ (activeField_of_stays hcalm hstale))

end Sys2Proof.ZoneFields
end

section
/-! Camera notices at the zone engine (R28–R30, R41, R42, R44): what a notice does to one zone, and the run over the
zones in ascending order. -/

namespace Sys2Proof.Machine

open Sys2Proof.Safety

/-! ### One zone -/

/-- A zone that a notice moves, as it stands afterwards; as it was where the notice does not move it (R27, R29, R30). -/
def noticedZone (c : CameraId) (n : CameraNotice) (now : Time) (zone : Zone) : Zone :=
  match noticeMoves c n zone with
  | none => zone
  | some (st, cause) => ⟨zone.cfg, clearedFor zone.run st cause now⟩

/-- The move of one zone under a notice with what it sends, and whether the report is offered; none where the notice
does not move the zone (R41, R42). -/
def noticeMoveOf (c : CameraId) (n : CameraNotice) (now : Time) (e : ZoneEngine) (z : ZoneId) :
    Option (Bool × ZoneTransition × Report) :=
  (e.table.get z).bind fun zone =>
    (noticeMoves c n zone).map fun m => (zone.cfg.causes.lost, clearedMove z zone m.1 m.2 now)

/-- A notice moves zones to BLIND or LEARNING only, by causes that the LOST flag reports (R29, R30, R40). -/
theorem noticeMoves_cases {c : CameraId} {n : CameraNotice} {zone : Zone} {st : ZoneState} {cause : ZoneCause}
    (h : noticeMoves c n zone = some (st, cause)) :
    (st = .blind ∧ (cause = .lost ∨ cause = .notVisible)) ∨ (st = .learning ∧ cause = .seen) := by
  unfold noticeMoves at h
  split at h
  · cases h
  · split at h
    · split at h <;> cases h
      simp
    · split at h
      · split at h <;> cases h <;> simp
      · cases h

/-- Where a zone's camera is LOCKED by its notice, and the engine's copy is that of the notice, the copy decides the
zone's visible cells (R28). -/
theorem zoneVisible_of_copy {c : CameraId} {n : CameraNotice} {e : ZoneEngine} {cfg : ZoneConfig}
    (hcopy : e.camCopy.get c = ⟨n.new, n.standard⟩) (hcam : cfg.camera = c) (hlocked : n.new = .locked) :
    zoneVisible e cfg = hasVisibleCells n.standard cfg := by
  simp [zoneVisible, hcam, hcopy, hlocked]

/-- A notice at one defined zone, once the copy is the notice's: the zone moves as R29 and R30 say, or stays. -/
theorem noticeZone_eq {c : CameraId} {n : CameraNotice} {z : ZoneId} {zone : Zone} {s : State}
    (hcopy : s.zoneEngine.camCopy.get c = ⟨n.new, n.standard⟩) (hzone : s.zoneEngine.table.get z = some zone) :
    noticeZone n c s z = match noticeMoves c n zone with
      | none => s
      | some (st, cause) => zoneTransition z zone st cause s.now s := by
  unfold noticeZone noticeMoves
  rw [hzone]
  dsimp only
  by_cases hcam : zone.cfg.camera = c
  · rw [if_pos hcam, if_neg (not_not_intro hcam)]
    by_cases hleft : n.previous = .locked
    · rw [if_pos hleft, if_pos hleft]
      cases zone.run.state <;> simp
    · rw [if_neg hleft, if_neg hleft]
      by_cases hseen : n.new = .locked ∧ zone.run.state = .blind
      · rw [if_pos hseen, if_pos hseen, zoneVisible_of_copy hcopy hcam hseen.1]
        split <;> rfl
      · rw [if_neg hseen, if_neg hseen]
  · rw [if_neg hcam, if_pos hcam]

/-! ### The run over the zones -/

/-- What a run of a notice over some zones has made of the state: the configured part of the zone engine and every
other block stand, each of these zones is as the notice leaves it and the others are as before, and the transitions
and reports of those it moves are sent in the order of the run (R28, R41, R42). -/
structure NoticeRun (c : CameraId) (n : CameraNotice) (zs : List ZoneId) (s t : State) : Prop where
  frame : t = (s.setZones t.zoneEngine).setWires t.wires
  wires : t.wires = { s.wires with zonesToRules := t.wires.zonesToRules, offers := t.wires.offers }
  classes : t.zoneEngine.classes = s.zoneEngine.classes
  copies : t.zoneEngine.camCopy = s.zoneEngine.camCopy
  transitions : t.wires.zonesToRules = s.wires.zonesToRules ++
    (zs.filterMap (noticeMoveOf c n s.now s.zoneEngine)).map fun m => .transition m.2.1
  reports : t.wires.offers = s.wires.offers ++
    ((zs.filterMap (noticeMoveOf c n s.now s.zoneEngine)).filter (·.1)).map (·.2.2)
  noticed : ∀ z ∈ zs, t.zoneEngine.table.get z = (s.zoneEngine.table.get z).map (noticedZone c n s.now)
  others : ∀ z ∉ zs, t.zoneEngine.table.get z = s.zoneEngine.table.get z

theorem noticeRun_nil (c : CameraId) (n : CameraNotice) (s : State) : NoticeRun c n [] s s where
  frame := rfl
  wires := rfl
  classes := rfl
  copies := rfl
  transitions := by simp
  reports := by simp
  noticed := by simp
  others _ _ := rfl

/-- A zone that the notice does not move is a run of its own. -/
theorem noticeRun_of_unmoved {c : CameraId} {n : CameraNotice} {z : ZoneId} {s : State}
    (hmove : noticeMoveOf c n s.now s.zoneEngine z = none) : NoticeRun c n [z] s s where
  frame := rfl
  wires := rfl
  classes := rfl
  copies := rfl
  transitions := by simp [hmove]
  reports := by simp [hmove]
  noticed x hx := by
    rw [List.mem_singleton.mp hx]
    cases hzone : s.zoneEngine.table.get z with
    | none => rfl
    | some zone =>
      simp only [noticeMoveOf, hzone, Option.bind_some, Option.map_eq_none_iff] at hmove
      simp [noticedZone, hmove]
  others _ _ := rfl

/-- The transition of a zone that the notice moves is a run of its own. -/
theorem noticeRun_of_moved {c : CameraId} {n : CameraNotice} {z : ZoneId} {zone : Zone} {st : ZoneState}
    {cause : ZoneCause} {s : State} (hzone : s.zoneEngine.table.get z = some zone)
    (hmoves : noticeMoves c n zone = some (st, cause)) :
    NoticeRun c n [z] s (zoneTransition z zone st cause s.now s) := by
  have hentry : enterZoneState zone.run st cause s.now = clearedFor zone.run st cause s.now := by
    rcases noticeMoves_cases hmoves with ⟨rfl, _⟩ | ⟨rfl, _⟩ <;> rfl
  have hflag : causeFlag zone.cfg.causes cause = zone.cfg.causes.lost := by
    rcases noticeMoves_cases hmoves with ⟨_, rfl | rfl⟩ | ⟨_, rfl⟩ <;> rfl
  have hmove : noticeMoveOf c n s.now s.zoneEngine z =
      some (zone.cfg.causes.lost, clearedMove z zone st cause s.now) := by
    simp [noticeMoveOf, hzone, hmoves]
  have hnoticed : noticedZone c n s.now zone = ⟨zone.cfg, clearedFor zone.run st cause s.now⟩ := by
    simp [noticedZone, hmoves]
  rw [zoneTransition_eq, hentry, hflag]
  unfold zoneMoves
  dsimp only
  cases hlost : zone.cfg.causes.lost
  all_goals exact
    { frame := rfl
      wires := rfl
      classes := rfl
      copies := rfl
      transitions := by simp [hmove, clearedMove, clearedFor]
      reports := by simp [hmove, hlost, clearedMove, clearedFor]
      noticed := by simp [hzone, hnoticed, State.setZone]
      others := fun x hx => by
        simpa [State.setZone] using upd_get_other _ _ _ _ (Ne.symm (List.ne_of_not_mem_cons hx)) }

/-- A notice at one zone is a run of its own. -/
theorem noticeRun_single {c : CameraId} {n : CameraNotice} (z : ZoneId) {s : State}
    (hcopy : s.zoneEngine.camCopy.get c = ⟨n.new, n.standard⟩) : NoticeRun c n [z] s (noticeZone n c s z) := by
  cases hzone : s.zoneEngine.table.get z with
  | none =>
    have hstays : noticeZone n c s z = s := by simp only [noticeZone, hzone]
    rw [hstays]
    exact noticeRun_of_unmoved (by simp [noticeMoveOf, hzone])
  | some zone =>
    rw [noticeZone_eq hcopy hzone]
    split
    next hmoves => exact noticeRun_of_unmoved (by simp [noticeMoveOf, hzone, hmoves])
    next hmoves => exact noticeRun_of_moved hzone hmoves

/-- A run over one zone and then over zones that are not it is the run over all of them. -/
theorem NoticeRun.cons {c : CameraId} {n : CameraNotice} {z : ZoneId} {zs : List ZoneId} {s t u : State}
    (hfirst : NoticeRun c n [z] s t) (hrest : NoticeRun c n zs t u) (hz : z ∉ zs) : NoticeRun c n (z :: zs) s u := by
  have hnow : t.now = s.now := by rw [hfirst.frame]; rfl
  have hsame : ∀ x ∈ zs, t.zoneEngine.table.get x = s.zoneEngine.table.get x := fun x hx =>
    hfirst.others x (by simpa using fun he : x = z => hz (he ▸ hx))
  have hmoves : zs.filterMap (noticeMoveOf c n t.now t.zoneEngine) =
      zs.filterMap (noticeMoveOf c n s.now s.zoneEngine) :=
    List.filterMap_congr fun x hx => by simp only [noticeMoveOf, hsame x hx, hnow]
  have happend : (z :: zs).filterMap (noticeMoveOf c n s.now s.zoneEngine) =
      [z].filterMap (noticeMoveOf c n s.now s.zoneEngine) ++ zs.filterMap (noticeMoveOf c n s.now s.zoneEngine) := by
    rw [← List.filterMap_append, List.singleton_append]
  exact
    { frame := by rw [hrest.frame, hfirst.frame]; rfl
      wires := by rw [hrest.wires, hfirst.wires]
      classes := hrest.classes.trans hfirst.classes
      copies := hrest.copies.trans hfirst.copies
      transitions := by
        rw [hrest.transitions, hfirst.transitions, hmoves, happend, List.map_append, List.append_assoc]
      reports := by
        rw [hrest.reports, hfirst.reports, hmoves, happend, List.filter_append, List.map_append, List.append_assoc]
      noticed := fun x hx => by
        rcases List.mem_cons.mp hx with rfl | hx
        · rw [hrest.others _ hz, hfirst.noticed _ (List.mem_singleton_self _)]
        · rw [hrest.noticed x hx, hsame x hx, hnow]
      others := fun x hx => by
        obtain ⟨hne, hnot⟩ : x ≠ z ∧ x ∉ zs := by simpa using hx
        rw [hrest.others x hnot, hfirst.others x (by simpa using hne)] }

/-- The zones of a list without repetition take a notice one after another (R28). -/
theorem noticeRun_foldl {c : CameraId} {n : CameraNotice} (zs : List ZoneId) (hnodup : zs.Nodup) :
    ∀ s : State, s.zoneEngine.camCopy.get c = ⟨n.new, n.standard⟩ →
      NoticeRun c n zs s (zs.foldl (noticeZone n c) s) := by
  induction zs with
  | nil => exact fun s _ => noticeRun_nil c n s
  | cons z zs ih =>
    intro s hcopy
    obtain ⟨hz, hnodup⟩ := List.nodup_cons.mp hnodup
    have hfirst := noticeRun_single z hcopy
    exact hfirst.cons (ih hnodup _ (by rw [hfirst.copies]; exact hcopy)) hz

/-! ### The notice -/

/-- The state whose zones meet a notice: the notice is off its path and the copy is set (R28). -/
def noticeCopied (c : CameraId) (n : CameraNotice) (rest : List CameraMessage) (s : State) : State :=
  (onCameraPaths (upd s.wires.camToZones c rest) s).setZones
    { s.zoneEngine with camCopy := upd s.zoneEngine.camCopy c ⟨n.new, n.standard⟩ }

/-- CAMERA_NOTICE_AT_ZONES takes the camera's oldest message, a notice that none of a restored record must precede,
as a run over all zones in ascending order (R28, R44). -/
theorem exec_cameraNoticeAtZones_run {c : CameraId} {n : CameraNotice} {message : CameraMessage}
    {rest : List CameraMessage} {s : State} (h : s.wires.camToZones.get c = message :: rest)
    (htaken : message = .notice n ∨ ∃ place, message = .restored place n ∧
      ∀ d k m, .restored k m ∈ s.wires.camToZones.get d → place ≤ k) :
    ∃ t, exec (.cameraNoticeAtZones c) s = .next t ∧
      NoticeRun c n (List.finRange 48) (noticeCopied c n rest s) t := by
  refine ⟨(List.finRange 48).foldl (noticeZone n c) (noticeCopied c n rest s), ?_,
    noticeRun_foldl _ (List.nodup_finRange 48) _ (by simp [noticeCopied])⟩
  have hnotice : takeZoneNotice c n (dropCameraMessage c s) =
      (List.finRange 48).foldl (noticeZone n c) (noticeCopied c n rest s) := by
    rw [dropCameraMessage_cons h]; rfl
  show execCameraNoticeAtZones c s = _
  rcases htaken with rfl | ⟨place, rfl, hfirst⟩
  · simp only [execCameraNoticeAtZones, h, hnotice]
  · simp only [execCameraNoticeAtZones, h, (takenNext_iff place s).mpr hfirst, if_true, hnotice]

/-- The notice of a restored record waits for those of records that were restored earlier (R44). -/
theorem exec_cameraNoticeAtZones_waits {c d : CameraId} {place earlier : Nat} {n m : CameraNotice}
    {rest : List CameraMessage} {s : State} (h : s.wires.camToZones.get c = .restored place n :: rest)
    (hm : .restored earlier m ∈ s.wires.camToZones.get d) (hlt : earlier < place) :
    exec (.cameraNoticeAtZones c) s = .next s := by
  have hwaits : ¬ takenNext place s = true := fun hnext =>
    Nat.not_le_of_lt hlt ((takenNext_iff place s).mp hnext d earlier m hm)
  show execCameraNoticeAtZones c s = _
  simp only [execCameraNoticeAtZones, h, if_neg hwaits]

end Sys2Proof.Machine

namespace Sys2Proof.ZoneNotices

open Sys2Proof.Machine Sys2Proof.Safety

/-- Settles O14, by the run of the notice over all zones; each zone's case by `noticeMoves`. -/
theorem noticeAtZones : Obligations.NoticeAtZones := by
  refine ⟨fun c d place earlier n m rest s h hm hlt => exec_cameraNoticeAtZones_waits h hm hlt,
    fun c n message rest s h htaken => ?_⟩
  obtain ⟨t, hexec, hrun⟩ := exec_cameraNoticeAtZones_run h htaken
  have hwires := hrun.wires
  refine ⟨t, hexec, hrun.copies, hrun.classes, ?_, ?_, ?_, hrun.transitions, hrun.reports, fun z => ?_⟩
  · rw [hrun.frame]; rfl
  · rw [hwires]; rfl
  · rw [hwires]; rfl
  have hz : t.zoneEngine.table.get z = (s.zoneEngine.table.get z).map (noticedZone c n s.now) :=
    hrun.noticed z (List.mem_finRange z)
  refine ⟨fun hnone => by rw [hz, hnone]; rfl, fun zone hzone => ?_⟩
  rw [hz, hzone, Option.map_some]
  refine ⟨fun hcam => ?_, fun hoff => ?_, fun hcam hleft hblind => ?_, fun hcam hleft hon hsighted => ?_,
    fun hcam hunlocked hnot => ?_, fun hcam hunlocked hlocked hsighted => ?_,
    fun hcam hunlocked hlocked hblind hvis => ?_, fun hcam hunlocked hlocked hblind hvis => ?_⟩
  · simp [noticedZone, noticeMoves, hcam]
  · simp [noticedZone, noticeMoves, hoff]
  · simp [noticedZone, noticeMoves, hcam, hleft, hblind]
  · simp [noticedZone, noticeMoves, clearedFor, hcam, hleft, hon, hsighted]
  · simp [noticedZone, noticeMoves, hcam, hunlocked, hnot]
  · simp [noticedZone, noticeMoves, hcam, hunlocked, hsighted]
  · simp [noticedZone, noticeMoves, clearedFor, hcam, hunlocked, hlocked, hblind, hvis]
  · simp [noticedZone, noticeMoves, clearedFor, hcam, hunlocked, hlocked, hblind, hvis]

end Sys2Proof.ZoneNotices
end

section
/-! Edits of zones and classes (R20–R25, R27, R31, R44, R179, R180): PUT_ZONE, DROP_ZONE, RELEARN_ZONE, SET_CLASS, and
the restored classes and zones. -/

namespace Sys2Proof.Machine

open Sys2Proof.Safety

/-! ### The taking of a command by its parsed payload -/

/-- A command whose payload passes its tests is taken, answered and applied, when its effect does not touch the host
link controller (R164, R174). -/
theorem takeKind_judged_taken {α : Type} {kind : Byte} {f : Frame} {rest : List Frame} {s u : State}
    {parse : List Byte → Except Turndown α} {ap : α → State → Answer × State} {x : α} {a : Answer}
    (hready : Ready kind f rest s) (hparse : parse f.payload = .ok x)
    (hap : ap x (s.setLink { s.link with commands := rest }) = (a, u.setLink { s.link with commands := rest })) :
    Taken f rest a.payload s u (takeKind kind (judged parse ap) s) :=
  takeKind_taken hready ((judged_ok hparse).trans hap)

/-- A configuration command that no profile operation holds off is taken as any other (R176). -/
theorem takeKind_configuration_taken {α : Type} {kind : Byte} {f : Frame} {rest : List Frame} {s u : State}
    {parse : List Byte → Except Turndown α} {ap : α → State → Answer × State} {x : α} {a : Answer}
    (hready : Ready kind f rest s) (hheld : Unheld s) (hparse : parse f.payload = .ok x)
    (hap : ap x (s.setLink { s.link with commands := rest }) = (a, u.setLink { s.link with commands := rest })) :
    Taken f rest a.payload s u (takeKind kind (configuration (judged parse ap)) s) := by
  have hheld' : Unheld (s.setLink { s.link with commands := rest }) := hheld
  exact takeKind_taken hready ((configuration_unheld hheld').trans ((judged_ok hparse).trans hap))

/-! ### Zone transitions to OFF, BLIND and LEARNING -/

/-- Placement is the statements' `placed` (R31). -/
theorem placement_eq_placed (cfg : ZoneConfig) (s : State) : placement s.zoneEngine cfg = placed cfg s := by
  simp only [placement, placed, zoneVisible, Bool.and_eq_true, beq_iff_eq]

/-- A transition to OFF, BLIND or LEARNING clears the record as R27 says. -/
theorem zoneTransition_cleared {z : ZoneId} {zone : Zone} {st : ZoneState} {cause : ZoneCause} {stamp : Time}
    {s : State} (hst : st = .off ∨ st = .blind ∨ st = .learning) :
    zoneTransition z zone st cause stamp s = zoneMoves z zone.run.state
      ⟨zone.cfg, clearedFor zone.run st cause stamp⟩ cause (causeFlag zone.cfg.causes cause) s := by
  rw [zoneTransition_eq, enterZoneState_cleared _ _ _ _ hst]

/-- A transition of a zone to the state that placement gives (R27, R31). -/
theorem zoneTransition_placed {z : ZoneId} {zone : Zone} {cause : ZoneCause} {stamp : Time} {s t : State} :
    zoneTransition z zone (placement s.zoneEngine zone.cfg) cause stamp t = zoneMoves z zone.run.state
      ⟨zone.cfg, clearedFor zone.run (placed zone.cfg s) cause stamp⟩ cause (causeFlag zone.cfg.causes cause) t := by
  rw [zoneTransition_cleared (.inr (placement_cases ..)), placement_eq_placed]

theorem zoneTransition_setLink (z : ZoneId) (zone : Zone) (st : ZoneState) (cause : ZoneCause) (stamp : Time)
    (s : State) (l : HostLink) :
    zoneTransition z zone st cause stamp (s.setLink l) = (zoneTransition z zone st cause stamp s).setLink l := by
  unfold zoneTransition
  dsimp only
  split <;> rfl

/-! ### Zones whose entries and fields in progress are discarded (R16, R32) -/

theorem purgeSummaries_eq_entriesGone (z : ZoneId) (s : State) : purgeSummaries (· == z) s = entriesGone z s := by
  have hmessage : purgeMessage (· == z) = fun
      | .summary f => .summary { f with entries := f.entries.filter fun e => e.1 != z }
      | .notice n => .notice n
      | .restored place n => .restored place n := by
    funext m
    cases m <;> rfl
  rw [purgeSummaries, hmessage]
  rfl

theorem disqualify_purge_eq_zoneGone (z : ZoneId) (s : State) :
    disqualify (· == z) (purgeSummaries (· == z) s) = zoneGone z s := by
  rw [purgeSummaries_eq_entriesGone]; rfl

/-! ### PUT_ZONE (R22, R23) -/

theorem putZone_of_undefined_disabled {z : ZoneId} {cfg : ZoneConfig} {s : State}
    (hz : s.zoneEngine.table.get z = none) (hno : cfg.enabled = false) :
    putZone z cfg s = s.setZone z (some ⟨cfg, clearedRun .off⟩) := by
  simp only [putZone, hz, hno, Bool.false_eq_true, if_false]

theorem putZone_of_undefined_enabled {z : ZoneId} {cfg : ZoneConfig} {s : State}
    (hz : s.zoneEngine.table.get z = none) (hyes : cfg.enabled = true) :
    putZone z cfg s =
      zoneTransition z ⟨cfg, clearedRun .off⟩ (placement s.zoneEngine cfg) .enabled s.now s := by
  simp only [putZone, hz, hyes, if_true]

theorem putZone_of_stays_off {z : ZoneId} {cfg : ZoneConfig} {old : Zone} {s : State}
    (hz : s.zoneEngine.table.get z = some old) (hold : old.cfg.enabled = false) (hno : cfg.enabled = false) :
    putZone z cfg s = s.setZone z (some ⟨cfg, old.run⟩) := by
  simp only [putZone, hz, hold, hno]

theorem putZone_of_enabled {z : ZoneId} {cfg : ZoneConfig} {old : Zone} {s : State}
    (hz : s.zoneEngine.table.get z = some old) (hold : old.cfg.enabled = false) (hyes : cfg.enabled = true) :
    putZone z cfg s = zoneTransition z ⟨cfg, old.run⟩ (placement s.zoneEngine cfg) .enabled s.now s := by
  simp only [putZone, hz, hold, hyes]

theorem putZone_of_disabled {z : ZoneId} {cfg : ZoneConfig} {old : Zone} {s : State}
    (hz : s.zoneEngine.table.get z = some old) (hold : old.cfg.enabled = true) (hno : cfg.enabled = false) :
    putZone z cfg s = zoneTransition z ⟨cfg, old.run⟩ .off .disabled s.now (zoneGone z s) := by
  simp only [putZone, hz, hold, hno, disqualify_purge_eq_zoneGone]

theorem putZone_of_reset {z : ZoneId} {cfg : ZoneConfig} {old : Zone} {s : State}
    (hz : s.zoneEngine.table.get z = some old) (hold : old.cfg.enabled = true) (hyes : cfg.enabled = true)
    (hchanged : geometryChanged old.cfg cfg = true) :
    putZone z cfg s =
      zoneTransition z ⟨cfg, old.run⟩ (placement s.zoneEngine cfg) .reset s.now (zoneGone z s) := by
  simp only [putZone, hz, hold, hyes, hchanged, if_true, disqualify_purge_eq_zoneGone]

theorem putZone_of_kept {z : ZoneId} {cfg : ZoneConfig} {old : Zone} {s : State}
    (hz : s.zoneEngine.table.get z = some old) (hold : old.cfg.enabled = true) (hyes : cfg.enabled = true)
    (hsame : geometryChanged old.cfg cfg = false) : putZone z cfg s = s.setZone z (some ⟨cfg, old.run⟩) := by
  simp only [putZone, hz, hold, hyes, hsame, Bool.false_eq_true, if_false]

/-- Camera, rectangle and component are the same exactly when no geometry changed (R23). -/
theorem geometryChanged_eq_false_iff (old cfg : ZoneConfig) :
    geometryChanged old cfg = false ↔ cfg.camera = old.camera ∧ cfg.col0 = old.col0 ∧ cfg.row0 = old.row0 ∧
      cfg.col1 = old.col1 ∧ cfg.row1 = old.row1 ∧ cfg.component = old.component := by
  simp only [geometryChanged, Bool.or_eq_false_iff, bne_eq_false_iff_eq, and_assoc, eq_comm (a := cfg.camera),
    eq_comm (a := cfg.col0), eq_comm (a := cfg.row0), eq_comm (a := cfg.col1), eq_comm (a := cfg.row1),
    eq_comm (a := cfg.component)]

/-- PUT_ZONE and the host link controller do not touch each other. -/
theorem putZone_setLink (z : ZoneId) (cfg : ZoneConfig) (s : State) (l : HostLink) :
    putZone z cfg (s.setLink l) = (putZone z cfg s).setLink l := by
  have hengine : (s.setLink l).zoneEngine = s.zoneEngine := rfl
  have hgone : disqualify (· == z) (purgeSummaries (· == z) (s.setLink l)) =
      (disqualify (· == z) (purgeSummaries (· == z) s)).setLink l := rfl
  unfold putZone
  rw [hengine]
  cases s.zoneEngine.table.get z with
  | none =>
    dsimp only
    split
    · exact zoneTransition_setLink ..
    · rfl
  | some old =>
    dsimp only
    rw [hgone]
    split
    · rfl
    · exact zoneTransition_setLink ..
    · exact zoneTransition_setLink ..
    · split
      · exact zoneTransition_setLink ..
      · rfl

theorem exec_putZone_taken {z : ZoneId} {cfg : ZoneConfig} {f : Frame} {rest : List Frame} {s : State}
    (hready : Ready 0x18 f rest s) (hheld : Unheld s) (hparse : parseZone f.payload = .ok (z, cfg)) :
    ∃ t, exec .putZone s = .next t ∧ Taken f rest [0x00] s (putZone z cfg s) t :=
  ⟨_, rfl, takeKind_configuration_taken (a := answerOk []) hready hheld hparse
    (congrArg (Prod.mk (answerOk [])) (putZone_setLink ..))⟩

/-! ### DROP_ZONE and RELEARN_ZONE (R24, R25) -/

theorem dropZone_of_off {z : ZoneId} {zone : Zone} (h : zone.run.state = .off) (s : State) :
    dropZone z zone s = (zoneGone z s).setZone z none := by
  simp only [dropZone, h, if_true, disqualify_purge_eq_zoneGone]

theorem dropZone_of_on {z : ZoneId} {zone : Zone} (h : zone.run.state ≠ .off) (s : State) :
    dropZone z zone s = (zoneMoves z zone.run.state ⟨zone.cfg, clearedFor zone.run .off .disabled s.now⟩ .disabled
      zone.cfg.causes.lost (zoneGone z s)).setZone z none := by
  simp only [dropZone, h, if_false, disqualify_purge_eq_zoneGone, zoneTransition_cleared (.inl rfl)]
  rfl

theorem dropZone_setLink (z : ZoneId) (zone : Zone) (s : State) (l : HostLink) :
    dropZone z zone (s.setLink l) = (dropZone z zone s).setLink l := by
  unfold dropZone
  dsimp only
  split
  · rfl
  · exact congrArg (State.setZone · z none)
      (zoneTransition_setLink z zone .off .disabled s.now (disqualify (· == z) (purgeSummaries (· == z) s)) l)

theorem relearnZone_eq (z : ZoneId) (zone : Zone) (s : State) :
    relearnZone z zone s = zoneMoves z zone.run.state ⟨zone.cfg, clearedFor zone.run (placed zone.cfg s) .reset s.now⟩
      .reset zone.cfg.causes.lost (entriesGone z s) := by
  rw [relearnZone, zoneTransition_placed, purgeSummaries_eq_entriesGone]
  rfl

theorem relearnZone_setLink (z : ZoneId) (zone : Zone) (s : State) (l : HostLink) :
    relearnZone z zone (s.setLink l) = (relearnZone z zone s).setLink l :=
  zoneTransition_setLink z zone _ .reset s.now (purgeSummaries (· == z) s) l

/-- A rule names a zone when one of its terms is on it (R24). -/
theorem namesZone_iff (cfg : RuleConfig) (z : ZoneId) : namesZone cfg z = true ↔ ∃ n, ⟨.zone z, n⟩ ∈ cfg.terms := by
  simp only [namesZone, List.any_eq_true, beq_iff_eq]
  constructor
  · rintro ⟨⟨operand, negate⟩, hmem, rfl⟩
    exact ⟨negate, hmem⟩
  · rintro ⟨n, hmem⟩
    exact ⟨_, hmem, rfl⟩

/-- Some defined rule has a property. -/
theorem anyRule_iff (table : Vector (Option Rule) 24) (p : RuleConfig → Bool) :
    anyRule table p = true ↔ ∃ r rule, table.get r = some rule ∧ p rule.cfg = true := by
  simp only [anyRule, List.any_eq_true, Vector.mem_toList_iff, Vector.mem_iff_getElem]
  constructor
  · rintro ⟨o, ⟨i, hi, rfl⟩, hp⟩
    split at hp
    next rule hrule => exact ⟨⟨i, hi⟩, rule, hrule, hp⟩
    · cases hp
  · rintro ⟨r, rule, hrule, hp⟩
    exact ⟨some rule, ⟨r, r.isLt, hrule⟩, hp⟩

/-- DROP_ZONE is refused IN_USE exactly while a term of some rule names the zone (R24). -/
theorem zoneInUse_iff (table : Vector (Option Rule) 24) (z : ZoneId) :
    anyRule table (namesZone · z) = true ↔
      ∃ r rule n, table.get r = some rule ∧ ⟨.zone z, n⟩ ∈ rule.cfg.terms := by
  simp only [anyRule_iff, namesZone_iff, exists_and_left]

theorem exec_dropZone_absent {z : ZoneId} {f : Frame} {rest : List Frame} {s : State}
    (hready : Ready 0x19 f rest s) (hheld : Unheld s) (hparse : parseId 48 f.payload = .ok z)
    (hz : s.zoneEngine.table.get z = none) : ∃ t, exec .dropZone s = .next t ∧ Taken f rest [0x05] s s t :=
  ⟨_, rfl, takeKind_configuration_taken (a := answerRefused .absent) hready hheld hparse
    (by simp only [State.setLink_zoneEngine, hz])⟩

theorem exec_dropZone_inUse {z : ZoneId} {zone : Zone} {f : Frame} {rest : List Frame} {s : State}
    (hready : Ready 0x19 f rest s) (hheld : Unheld s) (hparse : parseId 48 f.payload = .ok z)
    (hz : s.zoneEngine.table.get z = some zone) (huse : anyRule s.ruleEngine.table (namesZone · z) = true) :
    ∃ t, exec .dropZone s = .next t ∧ Taken f rest [0x06] s s t :=
  ⟨_, rfl, takeKind_configuration_taken (a := answerRefused .inUse) hready hheld hparse
    (by simp only [State.setLink_zoneEngine, State.setLink_ruleEngine, hz, huse, if_true])⟩

theorem exec_dropZone_taken {z : ZoneId} {zone : Zone} {f : Frame} {rest : List Frame} {s : State}
    (hready : Ready 0x19 f rest s) (hheld : Unheld s) (hparse : parseId 48 f.payload = .ok z)
    (hz : s.zoneEngine.table.get z = some zone) (hfree : ¬ anyRule s.ruleEngine.table (namesZone · z) = true) :
    ∃ t, exec .dropZone s = .next t ∧ Taken f rest [0x00] s (dropZone z zone s) t :=
  ⟨_, rfl, takeKind_configuration_taken (a := answerOk []) hready hheld hparse
    (by simp only [State.setLink_zoneEngine, State.setLink_ruleEngine, hz, hfree, Bool.false_eq_true, if_false,
      dropZone_setLink])⟩

theorem exec_relearnZone_absent {z : ZoneId} {f : Frame} {rest : List Frame} {s : State}
    (hready : Ready 0x1A f rest s) (hparse : parseId 48 f.payload = .ok z)
    (hz : s.zoneEngine.table.get z = none) : ∃ t, exec .relearnZone s = .next t ∧ Taken f rest [0x05] s s t :=
  ⟨_, rfl, takeKind_judged_taken (a := answerRefused .absent) hready hparse
    (by simp only [State.setLink_zoneEngine, hz])⟩

theorem exec_relearnZone_disabled {z : ZoneId} {zone : Zone} {f : Frame} {rest : List Frame} {s : State}
    (hready : Ready 0x1A f rest s) (hparse : parseId 48 f.payload = .ok z)
    (hz : s.zoneEngine.table.get z = some zone) (hno : zone.cfg.enabled = false) :
    ∃ t, exec .relearnZone s = .next t ∧ Taken f rest [0x0A] s s t :=
  ⟨_, rfl, takeKind_judged_taken (a := answerRefused .state) hready hparse
    (by simp only [State.setLink_zoneEngine, hz, hno, Bool.false_eq_true, if_false])⟩

theorem exec_relearnZone_taken {z : ZoneId} {zone : Zone} {f : Frame} {rest : List Frame} {s : State}
    (hready : Ready 0x1A f rest s) (hparse : parseId 48 f.payload = .ok z)
    (hz : s.zoneEngine.table.get z = some zone) (hyes : zone.cfg.enabled = true) :
    ∃ t, exec .relearnZone s = .next t ∧ Taken f rest [0x00] s (relearnZone z zone s) t :=
  ⟨_, rfl, takeKind_judged_taken (a := answerOk []) hready hparse
    (by simp only [State.setLink_zoneEngine, hz, hyes, if_true, relearnZone_setLink])⟩

/-! ### Classes, and the restored classes and zones (R20, R44) -/

theorem exec_setClass_taken {k : ClassId} {cls : SensClass} {f : Frame} {rest : List Frame} {s : State}
    (hready : Ready 0x14 f rest s) (hheld : Unheld s) (hparse : parseSetClass f.payload = .ok (k, cls)) :
    ∃ t, exec .setClass s = .next t ∧
      Taken f rest [0x00] s (s.setZones { s.zoneEngine with classes := upd s.zoneEngine.classes k cls }) t :=
  ⟨_, rfl, takeKind_configuration_taken (a := answerOk []) hready hheld hparse rfl⟩

theorem exec_restoreZones_handed {p : Profile} {s : State} (h : Handed .zones p s) :
    exec .restoreZones s = .next (partTaken .zones (restoreZones p s)) := by
  obtain ⟨happlying, hhanded⟩ := h
  exact congrArg Host.Outcome.next (takePart_handed happlying hhanded)

/-- The zone table after the application of a restored profile (R44). -/
theorem restoreZones_get (p : Profile) (s : State) (z : ZoneId) :
    (restoreZones p s).zoneEngine.table.get z = (p.zones.get z).map (placedZone s.zoneEngine) := by
  show (p.zones.map (Option.map (placedZone s.zoneEngine))).get z = _
  simp [Vector.get_eq_getElem]

end Sys2Proof.Machine

namespace Sys2Proof.ZoneEdits

open Sys2Proof.Machine Sys2Proof.Safety

/-- Settles O15, by the cases of `putZone`: undefined or defined, and enabled before and after. -/
theorem zonePut : Obligations.ZonePut := by
  intro z cfg f rest s hready hheld hparse
  obtain ⟨t, hexec, htaken⟩ := exec_putZone_taken hready hheld hparse
  refine ⟨t, putZone z cfg s, hexec, htaken, fun hz hno => ?_, fun hz hyes => ?_, fun old hz => ?_⟩
  · exact putZone_of_undefined_disabled hz hno
  · exact (putZone_of_undefined_enabled hz hyes).trans zoneTransition_placed
  dsimp only
  refine ⟨fun hold hno => ?_, fun hold hyes => ?_, fun hold hno => ?_, fun hold hyes hchanged => ?_,
    fun hold hyes hsame => ?_⟩
  · exact putZone_of_stays_off hz hold hno
  · exact (putZone_of_enabled hz hold hyes).trans zoneTransition_placed
  · exact (putZone_of_disabled hz hold hno).trans (zoneTransition_cleared (.inl rfl))
  · have hgeometry : geometryChanged old.cfg cfg = true := by
      simpa using mt (geometryChanged_eq_false_iff old.cfg cfg).mp hchanged
    exact (putZone_of_reset hz hold hyes hgeometry).trans zoneTransition_placed
  · exact putZone_of_kept hz hold hyes ((geometryChanged_eq_false_iff old.cfg cfg).mpr hsame)

/-- Settles O16, by the answer of each command on an undefined, a referenced and a free zone. -/
theorem zoneDropRelearn : Obligations.ZoneDropRelearn := by
  refine ⟨fun z f rest s hparse hz => ⟨fun hready hheld => exec_dropZone_absent hready hheld hparse hz,
    fun hready => exec_relearnZone_absent hready hparse hz⟩,
    fun z zone f rest s hparse hz => ⟨fun hready hheld hfree => ?_, fun hready hheld huse => ?_,
      fun hready hyes => ?_, fun hready hno => exec_relearnZone_disabled hready hparse hz hno⟩⟩
  · have hunused : ¬ anyRule s.ruleEngine.table (namesZone · z) = true := fun huse => by
      obtain ⟨r, rule, n, hrule, hmem⟩ := (zoneInUse_iff _ z).mp huse
      exact hfree r rule hrule n hmem
    obtain ⟨t, hexec, htaken⟩ := exec_dropZone_taken hready hheld hparse hz hunused
    exact ⟨t, _, hexec, htaken, fun hoff => dropZone_of_off hoff s, fun hon => dropZone_of_on hon s⟩
  · exact exec_dropZone_inUse hready hheld hparse hz ((zoneInUse_iff _ z).mpr huse)
  · rw [← relearnZone_eq]
    exact exec_relearnZone_taken hready hparse hz hyes

/-- Settles O17, by SET_CLASS's effect and the restored table entry by entry. -/
theorem classesAndRestoredZones : Obligations.ClassesAndRestoredZones := by
  refine ⟨fun k cls f rest s hready hheld hparse => exec_setClass_taken hready hheld hparse,
    fun p s hhanded => ⟨restoreZones p s, exec_restoreZones_handed hhanded, rfl, rfl, fun z => ⟨fun hnone => ?_,
      fun cfg hcfg => ?_⟩, rfl, rfl, rfl, rfl, rfl, rfl⟩⟩
  · rw [restoreZones_get, hnone]; rfl
  · rw [restoreZones_get, hcfg, Option.map_some, placedZone, placement_eq_placed]
    rfl

end Sys2Proof.ZoneEdits
end

section
/-! The queries (R26, R73, R103, R118, R136, R152, R175, R177–R187, R199): the part's bytes are the layouts of
chapter 09, and a query is taken without effect. -/

namespace Sys2Proof.Machine

open Sys2Proof.Safety

/-! ### Bits -/

/-- The number whose bit i, counted from `k`, is the i-th of these. -/
theorem sum_zipIdx_eq_foldr (bits : List Bool) : ∀ k, ((bits.zipIdx k).map fun p => if p.1 then 2 ^ p.2 else 0).sum =
    2 ^ k * bits.foldr (fun b n => 2 * n + b.toNat) 0 := by
  induction bits with
  | nil => exact fun _ => rfl
  | cons b bits ih =>
    intro k
    simp only [List.zipIdx_cons, List.map_cons, List.sum_cons, ih (k + 1), List.foldr_cons]
    cases b
    · simp only [Bool.false_eq_true, if_false, Bool.toNat_false]
      ring
    · simp only [if_true, Bool.toNat_true]
      ring

/-- A number of bits, bit 0 the first of the list (R185, R192). -/
theorem foldr_eq_sum_zipIdx (bits : List Bool) :
    bits.foldr (fun b n => 2 * n + b.toNat) 0 = (bits.zipIdx.map fun p => if p.1 then 2 ^ p.2 else 0).sum := by
  rw [sum_zipIdx_eq_foldr bits 0, pow_zero, one_mul]

/-- A byte shifted left with a bit entered is twice the byte and the bit. -/
theorem shiftLeft_or_yesNo (n : Nat) (b : Bool) : byte n <<< 1 ||| yesNo b = byte (2 * n + b.toNat) := by
  have hlow : byte n <<< 1 &&& yesNo b = 0 := by
    ext i hi
    cases b <;> simp [yesNo, BitVec.getElem_one]; omega
  rw [← BitVec.add_eq_or_of_and_eq_zero _ _ hlow]
  apply BitVec.eq_of_toNat_eq
  cases b <;> simp [byte, yesNo, Nat.shiftLeft_eq] <;> omega

/-- A presence byte is the statements' `flags`. -/
theorem presence_eq_flags (bits : List Bool) : presence bits = flags bits := by
  have hfoldr : presence bits = byte (bits.foldr (fun b n => 2 * n + b.toNat) 0) := by
    induction bits with
    | nil => rfl
    | cons b bits ih =>
      rw [List.foldr_cons, ← shiftLeft_or_yesNo, ← ih]
      rfl
  rw [hfoldr, foldr_eq_sum_zipIdx]
  rfl

/-! ### Codes (R189) -/

theorem originCode_eq_originByte (o : Option Origin) : originCode o = originByte o := by
  rcases o with _ | _ | _ <;> rfl

theorem standardCode_eq_standardByte (st : Option Standard) : standardCode st = standardByte st := by
  rcases st with _ | _ | _ <;> rfl

theorem cameraStateCode_eq (x : CameraState) : cameraStateCode x = codeFrom0 [.off, .searching, .locked, .lost] x := by
  cases x <;> rfl

theorem measureParityCode_eq (x : MeasureParity) : measureParityCode x = codeFrom0 [.odd, .even, .both] x := by
  cases x <;> rfl

theorem componentCode_eq (x : Component) : componentCode x = codeFrom0 [.y, .cb, .cr] x := by cases x <;> rfl

theorem zoneStateCode_eq (x : ZoneState) :
    zoneStateCode x = codeFrom0 [.off, .blind, .learning, .quiet, .active] x := by
  cases x <;> rfl

theorem ruleStateCode_eq (x : RuleState) :
    ruleStateCode x = codeFrom0 [.disarmed, .idle, .stepping, .fired, .cooldown] x := by
  cases x <;> rfl

theorem termValueCode_eq (x : TermValue) : termValueCode x = codeFrom0 [.false, .true, .unknown] x := by
  cases x <;> rfl

theorem sourceStateCode_eq (x : SourceState) :
    sourceStateCode x = codeFrom0 [.blank, .rotating, .request, .hold] x := by
  cases x <;> rfl

theorem lineModeCode_eq (x : LineMode) : lineModeCode x = codeFrom0 [.unused, .input, .output] x := by cases x <;> rfl

theorem levelCode_eq (x : Level) : levelCode x = codeFrom0 [.low, .high] x := by cases x <;> rfl

theorem driveCode_eq (x : HostDrive) : driveCode x = codeFrom0 [.auto, .on, .off] x := by cases x <;> rfl

theorem lineStateCode_eq (x : LineState) : lineStateCode x = codeFrom0 [.inactive, .active] x := by cases x <;> rfl

theorem headRateCode_eq (x : HeadRate) : headRateCode x = codeFrom0 [.r19200, .r38400] x := by cases x <;> rfl

theorem linkStateCode_eq (x : LinkState) : linkStateCode x = codeFrom0 [.idle, .sending, .awaitReply, .gap] x := by
  cases x <;> rfl

theorem blockStateCode_eq (x : BlockState) :
    blockStateCode x = codeFrom0 [.idle, .committing, .restoring, .erasing] x := by
  cases x <;> rfl

/-! ### Times remaining (log 17) -/

theorem shortTimeOrNone_eq_remaining2 (now : Time) (d : Option Time) : shortTimeOrNone now d = remaining2 now d := by
  cases d <;> rfl

theorem timeOrNone_eq_remaining4 (now : Time) (d : Option Time) : timeOrNone now d = remaining4 now d := by
  cases d <;> rfl

/-! ### Layouts (chapter 09) -/

/-- GET_CAMERA's fields (R179). -/
theorem cameraFields_eq_layout (c : CameraId) (x : Camera) : cameraFields c x = cameraLayout c x := by
  have hrun : standardCode (if x.runCount = 0 then none else x.runStandard) =
      if x.runCount = 0 then 0 else standardByte x.runStandard := by
    split
    · rfl
    · exact standardCode_eq_standardByte _
  rw [cameraFields, hrun, measureParityCode_eq, cameraStateCode_eq, standardCode_eq_standardByte]
  rfl

/-- A zone's payload (R192). -/
theorem zoneBytes_eq_layout (z : ZoneId) (x : ZoneConfig) : zoneBytes z x = zoneLayout z x := by
  rw [zoneBytes, componentCode_eq, causeBits, presence_eq_flags]
  rfl

/-- A zone's runtime block (R192; log 28). -/
theorem zoneRunBytes_eq_layout (x : ZoneRun) : zoneRunBytes x = zoneRunLayout x := by
  rw [zoneRunBytes, zoneStateCode_eq, presence_eq_flags, historyBits, foldr_eq_sum_zipIdx]
  obtain ⟨_, _, _, _, _, _, _, _, _, cause, _⟩ := x
  rcases cause with _ | _ | _ <;> rfl

theorem termBytes_eq_layout (t : Term) : termBytes t = termLayout t := by
  obtain ⟨_ | _, _⟩ := t <;> rfl

theorem actionBytes_eq_layout (a : Action) : actionBytes a = actionLayout a := by
  rcases a with _ | _ | ⟨_, _ | _⟩ | _ <;> rfl

/-- A rule's payload (R193). -/
theorem ruleBytes_eq_layout (r : RuleId) (x : RuleConfig) : ruleBytes r x = ruleLayout r x := by
  rw [ruleBytes, funext termBytes_eq_layout, funext actionBytes_eq_layout]
  obtain ⟨_, mode, _, _, _, _⟩ := x
  cases mode <;> rfl

/-- The deadline that a rule's state holds (R73). -/
theorem ruleDeadline_eq (x : RuleRun) : ruleDeadline x = if x.state = .stepping then x.stepDeadline
    else if x.state = .cooldown then x.cooldownDeadline else none := by
  unfold ruleDeadline
  cases x.state <;> rfl

/-- A rule's runtime block (R193; logs 17 and 28). -/
theorem ruleRunBytes_eq_layout (now : Time) (e : RuleEngine) (x : Rule) :
    ruleRunBytes now e x = ruleRunLayout now e x := by
  unfold ruleRunBytes ruleRunLayout
  rw [← ruleDeadline_eq, presence_eq_flags, ruleStateCode_eq, funext fun t => termValueCode_eq (termValue e t)]
  cases ruleDeadline x.run <;> rfl

/-- GET_SCREEN's fields (R103, R183). -/
theorem screenFields_eq_layout (s : State) : screenFields s = screenLayout s := by
  have hdeadline : sourceDeadline s.sched = match s.sched.source.state with
      | .rotating => s.sched.source.rotationDeadline
      | .request => s.sched.source.shown.bind fun o => (requestOf o s.sched.requests).bind (·.dwellDeadline)
      | _ => none := by
    unfold sourceDeadline
    cases s.sched.source.state
    case request => cases s.sched.source.shown <;> rfl
    all_goals rfl
  have hrequest : requestBytes s.now = fun q => [originByte (some q.origin), BitVec.ofNat 8 q.view.val,
      BitVec.ofNat 8 q.priority] ++ be16 (owedDwell s.now q) ++ be32 (remainingTo q.lifetime s.now) :=
    funext fun q => by rw [requestBytes, originCode_eq_originByte]; rfl
  unfold screenFields screenLayout
  dsimp only
  rw [hdeadline, hrequest, sourceStateCode_eq, originCode_eq_originByte, timeOrNone_eq_remaining4,
    timeOrNone_eq_remaining4]
  simp only [List.append_assoc]
  rfl

/-- The level at a line's pin as GET_LINES gives it (R136). -/
theorem shownLevel_eq (ext : Level) (x : Line) : shownLevel ext x = match x.mode with
    | .unused => Level.low
    | .input => ext
    | .output => if x.asserted then x.activeLevel else otherLevel x.activeLevel := by
  unfold shownLevel pinLevel
  cases x.mode <;> rfl

/-- A line block of GET_LINES (R185). -/
theorem lineBytes_eq_layout (now : Time) (ext : Level) (x : Line) : lineBytes now ext x = lineLayout now ext x := by
  rw [lineBytes, shownLevel_eq, lineModeCode_eq, levelCode_eq, levelCode_eq, driveCode_eq, lineStateCode_eq,
    shortTimeOrNone_eq_remaining2, shortTimeOrNone_eq_remaining2, ruleBits, foldr_eq_sum_zipIdx]
  rfl

/-- The flags byte of a transaction (R186). -/
theorem transactionFlags_eq (inFlight : Bool) (x : Transaction) : transactionFlags inFlight x =
    flags [inFlight, x.cancelPending, x.tag.isSome, false, x.failure == some .noReply,
      x.failure == some .badReply] := by
  unfold transactionFlags
  generalize x.cancelPending = pending, x.tag.isSome = tagged, x.failure = failure
  rw [presence_eq_flags]
  rcases failure with _ | _ | _ <;> revert inFlight pending tagged <;> decide

/-- A transaction in GET_RELAYS' reply (R186). -/
theorem transactionBytes_eq_layout (inFlight : Bool) (x : Transaction) :
    transactionBytes inFlight x = transactionLayout inFlight x := by
  rw [transactionBytes, transactionFlags_eq, originCode_eq_originByte, transactionLayout]
  cases x.op <;> rfl

/-- The transactions of the queue behind its oldest are not in flight (R140). -/
theorem queueBytes_eq_layout (h : HeadLink) :
    queueBytes h = h.queue.zipIdx.flatMap fun p => transactionLayout (h.inFlight && p.2 == 0) p.1 := by
  have hbehind : ∀ (ts : List Transaction) (k : Nat), ts.flatMap (transactionBytes false) =
      (ts.zipIdx (k + 1)).flatMap fun p => transactionLayout (h.inFlight && p.2 == 0) p.1 := by
    intro ts
    induction ts with
    | nil => exact fun _ => rfl
    | cons t ts ih =>
      intro k
      rw [List.flatMap_cons, List.zipIdx_cons, List.flatMap_cons, ← ih (k + 1), transactionBytes_eq_layout]
      simp
  unfold queueBytes
  cases h.queue with
  | nil => rfl
  | cons t ts =>
    dsimp only
    rw [List.zipIdx_cons, List.flatMap_cons, ← hbehind ts 0, transactionBytes_eq_layout]
    simp

/-- GET_RELAYS' fields (R152, R186). -/
theorem relaysFields_eq_layout (s : State) : relaysFields s = relaysLayout s := by
  unfold relaysFields
  dsimp only
  rw [queueBytes_eq_layout, headRateCode_eq, linkStateCode_eq]
  rfl

/-- GET_PROFILE's fields (R187, R199). -/
theorem profileFields_eq_layout (x : ProfileStore) : profileFields x = profileLayout x := by
  unfold profileFields profileLayout startBytes
  rw [blockStateCode_eq]
  cases x.dirA <;> cases x.dirB <;> rcases x.startSource with _ | _ | _ <;> rfl

/-! ### The taking of a query -/

/-- A query is taken without effect, its answer what it makes of the state (R164, R175). -/
theorem takeKind_query_taken {α : Type} {kind : Byte} {f : Frame} {rest : List Frame} {s : State}
    {parse : List Byte → Except Turndown α} {answer : α → State → Answer} {x : α} {a : Answer}
    (hready : Ready kind f rest s) (hparse : parse f.payload = .ok x)
    (ha : answer x (s.setLink { s.link with commands := rest }) = a) :
    Taken f rest a.payload s s (takeKind kind (judged parse fun x s => (answer x s, s)) s) :=
  takeKind_judged_taken hready hparse (congrArg (Prod.mk · _) ha)

/-- A command that any session takes is taken whatever the session's state, when its judgement has no effect
(R164). -/
theorem takeWhen_any_taken {test : Byte → Bool} {f : Frame} {rest : List Frame} {s : State} {j : Judgement} {a : Answer}
    (holdest : s.link.commands = f :: rest) (hkind : test f.kind = true) (htake : takeable s.link = true)
    (hj : j f.payload (s.setLink { s.link with commands := rest }) =
      (a, s.setLink { s.link with commands := rest })) :
    Taken f rest a.payload s s (takeWhen test true j s) := by
  have htaken : takeWhen test true j s = ((s.setLink { s.link with commands := rest }).setLink
      (cacheReply f a { s.link with commands := rest })).kick := by
    simp [takeWhen, holdest, hkind, htake, takeFrame, hj]
  rw [htaken]
  obtain ⟨hrate, hreceiver, hgap, hbadStop, hcommands, hsession, hrestart, _⟩ := kick_link
    ((s.setLink { s.link with commands := rest }).setLink (cacheReply f a { s.link with commands := rest }))
  exact
    { commands := hcommands
      answer := kick_answered (cacheReply_answered f a _ _)
      session := hsession
      rate := hrate
      receiver := hreceiver
      gap := hgap
      badStop := hbadStop
      restart := hrestart
      beyond := by rw [kick_beyond]; rfl }

/-- HELLO is answered in any session (R164, R177). -/
theorem exec_hello_taken {f : Frame} {rest : List Frame} {s : State} (holdest : s.link.commands = f :: rest)
    (hkind : f.kind = 0x01) (htake : takeable s.link = true) (hnone : f.payload = []) :
    ∃ t, exec .hello s = .next t ∧ Taken f rest (0x00 :: helloFields s) s s t :=
  ⟨_, rfl, takeWhen_any_taken (a := answerOk (helloFields s)) holdest (by rw [hkind]; rfl) htake
    (judged_ok (parseNone_nil hnone))⟩

/-- PULL in PULL mode carries the oldest records (R118). -/
theorem exec_pull_taken {n : Byte} {f : Frame} {rest : List Frame} {s : State} (hready : Ready 0x39 f rest s)
    (hpayload : f.payload = [n]) (hmode : s.reports.delivery.mode = .pull) :
    ∃ t, exec .pull s = .next t ∧ Taken f rest (0x00 :: pullFields n.toNat s.reports) s s t :=
  ⟨_, rfl, takeKind_judged_taken (a := answerOk (pullFields n.toNat s.reports)) (x := n) hready (by rw [hpayload]; rfl)
    (if_neg (by simp [hmode]))⟩

/-- PULL is refused STATE in PUSH mode (R118). -/
theorem exec_pull_refused {n : Byte} {f : Frame} {rest : List Frame} {s : State} (hready : Ready 0x39 f rest s)
    (hpayload : f.payload = [n]) (hmode : s.reports.delivery.mode = .push) :
    ∃ t, exec .pull s = .next t ∧ Taken f rest [0x0A] s s t :=
  ⟨_, rfl, takeKind_judged_taken (a := answerRefused .state) (x := n) hready (by rw [hpayload]; rfl) (if_pos hmode)⟩

theorem exec_getZone_absent {z : ZoneId} {f : Frame} {rest : List Frame} {s : State} (hready : Ready 0x1B f rest s)
    (hparse : parseId 48 f.payload = .ok z) (hz : s.zoneEngine.table.get z = none) :
    ∃ t, exec .getZone s = .next t ∧ Taken f rest [0x05] s s t :=
  ⟨_, rfl, takeKind_judged_taken (a := answerRefused .absent) hready hparse
    (by simp only [State.setLink_zoneEngine, hz])⟩

/-- GET_ZONE tells a defined zone's record and runtime block (R26, R180, R192). -/
theorem exec_getZone_taken {z : ZoneId} {zone : Zone} {f : Frame} {rest : List Frame} {s : State}
    (hready : Ready 0x1B f rest s) (hparse : parseId 48 f.payload = .ok z)
    (hz : s.zoneEngine.table.get z = some zone) :
    ∃ t, exec .getZone s = .next t ∧ Taken f rest (0x00 :: (zoneBytes z zone.cfg ++ zoneRunBytes zone.run)) s s t :=
  ⟨_, rfl, takeKind_judged_taken (a := answerOk (zoneBytes z zone.cfg ++ zoneRunBytes zone.run)) hready hparse
    (by simp only [State.setLink_zoneEngine, hz])⟩

theorem exec_getRule_absent {r : RuleId} {f : Frame} {rest : List Frame} {s : State} (hready : Ready 0x23 f rest s)
    (hparse : parseId 24 f.payload = .ok r) (hr : s.ruleEngine.table.get r = none) :
    ∃ t, exec .getRule s = .next t ∧ Taken f rest [0x05] s s t :=
  ⟨_, rfl, takeKind_judged_taken (a := answerRefused .absent) hready hparse
    (by simp only [onRule, State.setLink_ruleEngine, hr])⟩

/-- GET_RULE tells a defined rule's record and runtime block (R73, R182, R193). -/
theorem exec_getRule_taken {r : RuleId} {rule : Rule} {f : Frame} {rest : List Frame} {s : State}
    (hready : Ready 0x23 f rest s) (hparse : parseId 24 f.payload = .ok r)
    (hr : s.ruleEngine.table.get r = some rule) :
    ∃ t, exec .getRule s = .next t ∧
      Taken f rest (0x00 :: (ruleBytes r rule.cfg ++ ruleRunBytes s.now s.ruleEngine rule)) s s t :=
  ⟨_, rfl, takeKind_judged_taken (a := answerOk (ruleBytes r rule.cfg ++ ruleRunBytes s.now s.ruleEngine rule)) hready
    hparse (by simp only [onRule, State.setLink_ruleEngine, State.setLink_now, hr])⟩

/-- HELLO's fields (R177), the start-up source by its codes (R189). -/
theorem helloFields_eq (s : State) : helloFields s =
    [0x4E, 0x43, 0x36, 0x41, 1, 1, 6, 48, 8, 24, 12, 16, 8, 32, 8, 8, 15, 240, 4, 4, 4,
      sessionStateCode s.link.session.state, hostRateCode s.link.rate, byte (slotCode s.store.startSource)]
      ++ be32 (s.store.startGen.getD 0).toNat ++ be32 s.now.toNat
      ++ [byte s.reports.records.length] ++ be16 s.reports.dropped := rfl

end Sys2Proof.Machine

namespace Sys2Proof.Queries

open Sys2Proof.Machine Sys2Proof.Safety

/-- Settles O48: each query is taken without effect, and the bytes it is answered with are its layout. -/
theorem queriesAnswered : Obligations.QueriesAnswered := by
  intro f rest s
  dsimp only
  refine ⟨fun hready hnone => ?ping, fun hready hnone => ?time, fun holdest hkind htake hnone => ?hello,
    fun n hready hpayload => ⟨exec_pull_taken hready hpayload, exec_pull_refused hready hpayload⟩,
    fun c hready hparse => ?camera, fun k hready hparse => ?cls,
    fun z hready hparse => ⟨exec_getZone_absent hready hparse, fun zone hz => ?zone⟩,
    fun r hready hparse => ⟨exec_getRule_absent hready hparse, fun rule hr => ?rule⟩,
    fun hready hnone => ?screen, fun hready hnone => ?lines, fun hready hnone => ?relays,
    fun hready hnone => ?profile⟩
  case ping => exact ⟨_, rfl, takeKind_query_taken (a := answerOk []) hready (parseNone_nil hnone) rfl⟩
  case time =>
    exact ⟨_, rfl, takeKind_query_taken (a := answerOk (be32 s.now.toNat)) hready (parseNone_nil hnone) rfl⟩
  case hello =>
    have htaken := exec_hello_taken holdest hkind htake hnone
    rw [helloFields_eq] at htaken
    rcases hsource : s.store.startSource with _ | _ | _ <;> rw [hsource] at htaken <;> exact htaken
  case camera =>
    rw [← cameraFields_eq_layout]
    exact ⟨_, rfl, takeKind_query_taken (a := answerOk (cameraFields c (s.cams.get c))) hready hparse rfl⟩
  case cls =>
    exact ⟨_, rfl, takeKind_query_taken (a := answerOk (classBytes k (s.zoneEngine.classes.get k))) hready hparse rfl⟩
  case zone =>
    rw [← zoneBytes_eq_layout, ← zoneRunBytes_eq_layout]
    exact exec_getZone_taken hready hparse hz
  case rule =>
    rw [← ruleBytes_eq_layout, ← ruleRunBytes_eq_layout]
    exact exec_getRule_taken hready hparse hr
  case screen =>
    rw [← screenFields_eq_layout]
    exact ⟨_, rfl, takeKind_query_taken (a := answerOk (screenFields s)) hready (parseNone_nil hnone) rfl⟩
  case lines =>
    simp only [← lineBytes_eq_layout]
    exact ⟨_, rfl, takeKind_query_taken (a := answerOk (linesFields s)) hready (parseNone_nil hnone) rfl⟩
  case relays =>
    rw [← relaysFields_eq_layout]
    exact ⟨_, rfl, takeKind_query_taken (a := answerOk (relaysFields s)) hready (parseNone_nil hnone) rfl⟩
  case profile =>
    rw [← profileFields_eq_layout]
    exact ⟨_, rfl, takeKind_query_taken (a := answerOk (profileFields s.store)) hready (parseNone_nil hnone) rfl⟩

end Sys2Proof.Queries
end

section
/-! The rule engine's term events (R39, R47–R66): the truth of terms and conditions, a run over the rules in ascending
order, the taking of a transition, and the two deadlines. -/

namespace Sys2Proof.Machine

open Sys2Proof.Safety

/-! ### Terms and conditions (R39, R48, R49) -/

/-- A term on a zone is true in ACTIVE, or in QUIET if negated (R39, R48). -/
theorem termTrue_zone_iff {e : RuleEngine} {z : ZoneId} {st : ZoneState} (negate : Bool)
    (hcopy : e.zoneCopy.get z = zoneValue st) :
    termTrue e ⟨.zone z, negate⟩ = true ↔ st = if negate then .quiet else .active := by
  simp only [termTrue, termValue, operandValue, hcopy]
  cases negate <;> cases st <;> simp [zoneValue, negateValue]

/-- A term on a line is true in ACTIVE, or in INACTIVE if negated (R48). -/
theorem termTrue_line_iff (e : RuleEngine) (l : LineId) (negate : Bool) :
    termTrue e ⟨.line l, negate⟩ = true ↔ e.lineCopy.get l = if negate then .inactive else .active := by
  simp only [termTrue, termValue, operandValue]
  generalize e.lineCopy.get l = st
  cases negate <;> cases st <;> simp [lineValue, negateValue]

theorem condition_any_iff {e : RuleEngine} {cfg : RuleConfig} (st : RuleState) (hmode : cfg.mode = .any) :
    condition e cfg st = true ↔ ∃ t ∈ cfg.terms, termTrue e t = true := by
  simp only [condition, hmode, decide_eq_true_eq]
  exact List.countP_pos_iff

theorem condition_all_iff {e : RuleEngine} {cfg : RuleConfig} (st : RuleState) (hmode : cfg.mode = .all) :
    condition e cfg st = true ↔ ∀ t ∈ cfg.terms, termTrue e t = true := by
  simp only [condition, hmode, trueTerms, beq_iff_eq]
  exact List.countP_eq_length

theorem condition_count_iff {e : RuleEngine} {cfg : RuleConfig} {n : Nat} (st : RuleState)
    (hmode : cfg.mode = .count n) :
    condition e cfg st = true ↔ n ≤ (cfg.terms.filter (termTrue e)).length := by
  simp only [condition, hmode, trueTerms, decide_eq_true_eq, List.countP_eq_length_filter]

theorem lastTermTrue_iff (e : RuleEngine) (terms : List Term) :
    lastTermTrue e terms = true ↔ ∃ t, terms.getLast? = some t ∧ termTrue e t = true := by
  unfold lastTermTrue
  cases terms.getLast? <;> simp

theorem condition_order_iff {e : RuleEngine} {cfg : RuleConfig} (st : RuleState) (hmode : cfg.mode = .order) :
    condition e cfg st = true ↔
      (st = .fired ∨ st = .cooldown) ∧ ∃ t, cfg.terms.getLast? = some t ∧ termTrue e t = true := by
  simp only [condition, hmode, Bool.and_eq_true, Bool.or_eq_true, beq_iff_eq, lastTermTrue_iff]

/-- An ORDER rule holds no condition in IDLE (R49). -/
theorem condition_order_idle {e : RuleEngine} {cfg : RuleConfig} (hmode : cfg.mode = .order) :
    condition e cfg .idle = false := by
  simp [condition, hmode]

/-! ### Copies of the same values

What a rule sends and whether its condition holds depend on the engine's term copies alone. -/

/-- Two rule engines hold the same term copies (R47). -/
def SameCopies (e e' : RuleEngine) : Prop := e.zoneCopy = e'.zoneCopy ∧ e.lineCopy = e'.lineCopy

theorem SameCopies.termValue_eq {e e' : RuleEngine} (h : SameCopies e e') : termValue e = termValue e' := by
  obtain ⟨hzones, hlines⟩ := h
  funext t
  simp only [termValue, operandValue, hzones, hlines]

theorem SameCopies.condition_eq {e e' : RuleEngine} (h : SameCopies e e') (cfg : RuleConfig) (st : RuleState) :
    condition e cfg st = condition e' cfg st := by
  have htrue : termTrue e = termTrue e' := funext fun t => by simp only [termTrue, h.termValue_eq]
  have hcount : trueTerms e = trueTerms e' := funext fun terms => by rw [trueTerms, htrue, trueTerms]
  have hlast : lastTermTrue e = lastTermTrue e' := funext fun terms => by rw [lastTermTrue, htrue, lastTermTrue]
  unfold condition
  rw [hcount, hlast]

theorem SameCopies.firingSends_eq {e e' : RuleEngine} (h : SameCopies e e') (now : Time) (r : RuleId)
    (cfg : RuleConfig) (fires : Nat) : firingSends e now r cfg fires = firingSends e' now r cfg fires := by
  simp only [firingSends, ruleTold, h.termValue_eq]

theorem SameCopies.releaseSends_eq {e e' : RuleEngine} (h : SameCopies e e') (now : Time) (r : RuleId)
    (cfg : RuleConfig) (fires : Nat) (cause : ClearCause) :
    releaseSends e now r cfg fires cause = releaseSends e' now r cfg fires cause := by
  simp only [releaseSends, ruleTold, h.termValue_eq]

theorem SameCopies.disarmSends_eq {e e' : RuleEngine} (h : SameCopies e e') (now : Time) (r : RuleId) (rule : Rule)
    (cause : ClearCause) : disarmSends e now r rule cause = disarmSends e' now r rule cause := by
  simp only [disarmSends, h.releaseSends_eq]

/-! ### A run over the rules in ascending order -/

/-- The rule engine has sent a batch and holds a table. -/
def ruling (x : Sent) (table : Vector (Option Rule) 24) (s : State) : State :=
  sending x (s.setRules { s.ruleEngine with table := table })

theorem sent_andThen_nothing (x : Sent) : x.andThen .nothing = x := by simp [Sent.andThen, Sent.nothing]

theorem ruling_nothing (s : State) : ruling .nothing s.ruleEngine.table s = s := by
  rw [ruling, sending_nothing]; rfl

/-- A rule replaced and a batch sent, behind what has been sent. -/
theorem sending_setRule_ruling (x y : Sent) (table : Vector (Option Rule) 24) (r : RuleId) (o : Option Rule)
    (s : State) : sending y ((ruling x table s).setRule r o) = ruling (x.andThen y) (upd table r o) s := by
  unfold ruling
  rw [← sending_setRule, sending_sending]
  rfl

/-- Entry after entry of a table replaced. -/
theorem foldl_upd_get {α : Type} {n : Nat} (f : Fin n → α) (l : List (Fin n)) : ∀ (v : Vector α n) (i : Fin n),
    (l.foldl (fun v j => upd v j (f j)) v).get i = if i ∈ l then f i else v.get i := by
  induction l with
  | nil => intro v i; simp
  | cons j l ih =>
    intro v i
    rw [List.foldl_cons, ih, upd_get]
    by_cases hi : i ∈ l
    · simp [hi]
    · by_cases hj : j = i
      · subst hj; simp
      · simp [hi, hj, Ne.symm hj]

theorem foldl_upd_allIds {α : Type} {n : Nat} (f : Fin n → α) (v : Vector α n) :
    (allIds n).foldl (fun v j => upd v j (f j)) v = Vector.ofFn f := by
  ext i hi
  have hget := foldl_upd_get f (allIds n) v ⟨i, hi⟩
  simpa [allIds, Vector.get_eq_getElem] using hget

/-- A run over rules, each of which sends a batch and has its own entry replaced, as its entry stood before the run. -/
theorem foldl_ruling {step : State → RuleId → State} {sends : RuleId → Sent} {entry : RuleId → Option Rule} {s : State}
    (hstep : ∀ r x table, table.get r = s.ruleEngine.table.get r →
      step (ruling x table s) r = ruling (x.andThen (sends r)) (upd table r (entry r)) s)
    (rs : List RuleId) : rs.Nodup → ∀ x table, (∀ r ∈ rs, table.get r = s.ruleEngine.table.get r) →
      rs.foldl step (ruling x table s) = ruling (rs.foldl (fun x r => x.andThen (sends r)) x)
        (rs.foldl (fun table r => upd table r (entry r)) table) s := by
  induction rs with
  | nil => intro _ x table _; rfl
  | cons r rs ih =>
    intro hnodup x table htable
    obtain ⟨hfresh, hnodup⟩ := List.nodup_cons.mp hnodup
    rw [List.foldl_cons, hstep r x table (htable r List.mem_cons_self), ih hnodup]
    · rfl
    · intro k hk
      rw [upd_get_other _ _ _ _ fun heq : r = k => hfresh (heq.symm ▸ hk)]
      exact htable k (List.mem_cons_of_mem _ hk)

/-- A run over all rules, what they send gathered by `gather`. -/
theorem foldl_allIds_ruling {step : State → RuleId → State} {gather : Sent → RuleId → Sent} {sends : RuleId → Sent}
    {entry : RuleId → Option Rule} {s : State} (hgather : ∀ x r, gather x r = x.andThen (sends r))
    (hstep : ∀ r x table, table.get r = s.ruleEngine.table.get r →
      step (ruling x table s) r = ruling (x.andThen (sends r)) (upd table r (entry r)) s) :
    (allIds 24).foldl step s = ruling ((List.finRange 24).foldl gather .nothing) (Vector.ofFn entry) s := by
  have hrun := foldl_ruling hstep (allIds 24) (List.nodup_finRange 24) .nothing s.ruleEngine.table fun _ _ => rfl
  rw [ruling_nothing, foldl_upd_allIds] at hrun
  rw [hrun, funext fun x => funext (hgather x)]
  rfl

/-- The defined entries of a table, each replaced by its own. -/
theorem ofFn_get_map {α β : Type} {n : Nat} (v : Vector (Option α) n) (f : α → β) :
    Vector.ofFn (fun i => (v.get i).map f) = v.map (Option.map f) := by
  ext i hi
  simp [Vector.get_eq_getElem]

/-! ### Term events (R50) -/

/-- One rule meets the change of the copies, by its outcome (R50; log 31). -/
theorem meetRule_ruling {e e' : RuleEngine} {s : State} (hcopies : SameCopies s.ruleEngine e')
    (htable : s.ruleEngine.table = e.table) (r : RuleId) (x : Sent) (table : Vector (Option Rule) 24)
    (hr : table.get r = s.ruleEngine.table.get r) :
    meetRule e e' (ruling x table s) r =
      ruling
        (x.andThen ((e.table.get r).elim .nothing fun rule => outcomeSends (ruleOutcome e e' rule) e' s.now r rule))
        (upd table r
          ((e.table.get r).map fun rule => ⟨rule.cfg, ruleRunAfter (ruleOutcome e e' rule) s.now rule⟩)) s := by
  rw [htable] at hr
  cases hrule : e.table.get r with
  | none =>
    have hnone : (ruling x table s).ruleEngine.table.get r = none := hr.trans hrule
    have hsame : upd table r none = table := by rw [← hrule, ← hr, upd_get_eq]
    simp only [meetRule, hnone, Option.elim_none, Option.map_none, sent_andThen_nothing, hsame]
  | some rule =>
    have hzones : (ruling x table s).ruleEngine.zoneCopy = e'.zoneCopy := hcopies.1
    have hlines : (ruling x table s).ruleEngine.lineCopy = e'.lineCopy := hcopies.2
    rw [meetRule_eq e e' r rule _ hzones hlines (hr.trans hrule), sending_setRule_ruling]
    rfl

/-- A change of the term copies at the rule engine: every rule takes its outcome (R50). -/
theorem takeCopies_eq_rulesMeet {e' : RuleEngine} {s : State} (htable : e'.table = s.ruleEngine.table) :
    takeCopies e' s = rulesMeet e' s := by
  unfold takeCopies rulesMeet allSends tableAfter
  rw [← ofFn_get_map]
  refine foldl_allIds_ruling (s := s.setRules e') (fun x r => ?_)
    (meetRule_ruling (e := s.ruleEngine) (e' := e') ⟨rfl, rfl⟩ htable)
  cases s.ruleEngine.table.get r with
  | none => exact (sent_andThen_nothing x).symm
  | some rule => rfl

theorem exec_zoneTransition_of_cons {t : ZoneTransition} {rest : List ZoneMessage} {s : State}
    (h : s.wires.zonesToRules = .transition t :: rest) : exec .zoneTransition s = .next (rulesMeet
      { s.ruleEngine with zoneCopy := upd s.ruleEngine.zoneCopy t.zone (zoneValue t.new) }
      (s.setWires { s.wires with zonesToRules := rest })) := by
  have hexec : exec .zoneTransition s = .next (takeZoneTransition t (dropZoneMessage s)) := by
    show execZoneTransition s = _
    simp only [execZoneTransition, h]
  rw [hexec, takeZoneTransition, takeCopies_eq_rulesMeet, dropZoneMessage, h]
  all_goals rfl

theorem exec_lineTransition_of_cons {l : LineId} {t : LineChange} {rest : List LineChange} {s : State}
    (h : s.wires.linesToRules.get l = t :: rest) : exec (.lineTransition l) s = .next (rulesMeet
      { s.ruleEngine with lineCopy := upd s.ruleEngine.lineCopy t.line t.new }
      (s.setWires { s.wires with linesToRules := upd s.wires.linesToRules l rest })) := by
  have hexec : exec (.lineTransition l) s = .next (takeLineTransition t (dropLineMessage l s)) := by
    show execLineTransition l s = _
    simp only [execLineTransition, h]
  rw [hexec, takeLineTransition, takeCopies_eq_rulesMeet, dropLineMessage, h]
  all_goals rfl

/-! ### The deadlines (R56, R60) -/

/-- A step deadline sends its rule to IDLE once reached (R60). -/
theorem expireStep_of_stepping {r : RuleId} {rule : Rule} {d : Time} {s : State}
    (hr : s.ruleEngine.table.get r = some rule) (hst : rule.run.state = .stepping)
    (hd : rule.run.stepDeadline = some d) :
    expireStep r s = if reached s.now d then
      s.setRule r (some ⟨rule.cfg, restingRun .idle rule.run.fireCount rule.run.lastFired⟩) else s := by
  simp only [expireStep, hr, hst, hd, due, true_and, settleRule_eq]

/-- A cooldown deadline sends its rule to IDLE with its release once reached (R56, R57). -/
theorem expireCooldown_of_cooldown {r : RuleId} {rule : Rule} {d : Time} {s : State}
    (hr : s.ruleEngine.table.get r = some rule) (hst : rule.run.state = .cooldown)
    (hd : rule.run.cooldownDeadline = some d) :
    expireCooldown r s = if reached s.now d then
      sending (releaseSends s.ruleEngine s.now r rule.cfg rule.run.fireCount .cooldownEnd)
        (s.setRule r (some ⟨rule.cfg, restingRun .idle rule.run.fireCount rule.run.lastFired⟩)) else s := by
  simp only [expireCooldown, hr, hst, hd, due, true_and, settleRule_eq, releaseRule_eq, sending_setRule]

end Sys2Proof.Machine

namespace Sys2Proof.TermEvents

open Sys2Proof.Machine Sys2Proof.Safety

/-- Settles O18, by the run over the rules: each meets the change with its entry as it stood before. -/
theorem rulesTakeTermEvents : Obligations.RulesTakeTermEvents :=
  ⟨fun _ _ _ h => exec_zoneTransition_of_cons h, fun _ _ _ _ h => exec_lineTransition_of_cons h⟩

/-- Settles O19, by the values of zones and lines, and the count of true terms by mode. -/
theorem termsAndConditions : Obligations.TermsAndConditions :=
  ⟨fun _ _ _ negate hcopy => termTrue_zone_iff negate hcopy, termTrue_line_iff, fun _ _ st =>
    ⟨condition_any_iff st, condition_all_iff st, fun _ => condition_count_iff st, condition_order_iff st⟩⟩

/-- Settles O20, by the two expiries of a rule that holds the deadline. -/
theorem ruleDeadlines : Obligations.RuleDeadlines := by
  intro r rule d s hr
  exact ⟨fun hst hd => congrArg Host.Outcome.next (expireStep_of_stepping hr hst hd),
    fun hst hd => congrArg Host.Outcome.next (expireCooldown_of_cooldown hr hst hd)⟩

end Sys2Proof.TermEvents
end

section
/-! The rule commands (R68–R72, R181, R182) and the restored rules (R74): arming and disarming, the references of a
record, the taking of each command, and the two events of a restored profile. -/

namespace Sys2Proof.Machine

open Sys2Proof.Safety

/-! ### Arming and disarming (R70, R71) -/

/-- An arming is the statements' `armedAs`: an ORDER rule holds no condition in IDLE (R49, R70). -/
theorem armRule_eq (r : RuleId) (rule : Rule) (s : State) : armRule r rule s =
    armedAs r { rule.cfg with armed := true } rule.run.fireCount rule.run.lastFired s := by
  have hcond : condition s.ruleEngine { rule.cfg with armed := true } .idle =
      condition s.ruleEngine rule.cfg .idle := rfl
  unfold armRule armedAs
  dsimp only
  rw [hcond]
  by_cases hmode : rule.cfg.mode = .order
  · simp only [hmode, condition_order_idle hmode, Bool.false_eq_true, ne_eq, not_true_eq_false, and_false, if_false,
      settleRule_eq]
  · simp only [hmode, ne_eq, not_false_eq_true, true_and, fireRule_eq, settleRule_eq, restingRun]

/-- A rule stored under a record, and armed where the record's armed field is yes (R69, R74). -/
theorem storeRule_eq (r : RuleId) (cfg : RuleConfig) (fires : Nat) (last : Option Time) (s : State) :
    storeRule r cfg (restingRun .disarmed fires last) s = if cfg.armed then armedAs r cfg fires last s
      else s.setRule r (some ⟨cfg, restingRun .disarmed fires last⟩) := by
  unfold storeRule
  split
  next harmed =>
    have hcfg : { cfg with armed := true } = cfg := by rw [← harmed]
    rw [armRule_eq, hcfg]
    rfl
  · rfl

/-- A disarming: the release of a rule in FIRED or COOLDOWN, and the rule at rest in DISARMED (R71). -/
theorem disarmRule_eq (r : RuleId) (rule : Rule) (cause : ClearCause) (s : State) : disarmRule r rule cause s =
    sending (disarmSends s.ruleEngine s.now r rule cause) (s.setRule r
      (some ⟨{ rule.cfg with armed := false }, restingRun .disarmed rule.run.fireCount rule.run.lastFired⟩)) := by
  unfold disarmRule disarmSends
  split
  · rw [releaseRule_eq]
    rfl
  · rw [sending_nothing]
    rfl

theorem setRule_setRule (s : State) (r : RuleId) (o o' : Option Rule) :
    (s.setRule r o).setRule r o' = s.setRule r o' := by
  simp only [State.setRule, State.setRules, upd_upd]

/-- An arming replaces the rule's entry and reads of the engine the term copies alone. -/
theorem armedAs_sending_setRule (r : RuleId) (cfg : RuleConfig) (fires : Nat) (last : Option Time) (x : Sent)
    (o : Option Rule) (s : State) :
    armedAs r cfg fires last (sending x (s.setRule r o)) = armedAs r cfg fires last (sending x s) := by
  have hcopies : SameCopies (sending x (s.setRule r o)).ruleEngine (sending x s).ruleEngine := ⟨rfl, rfl⟩
  have hset : ∀ o', (sending x (s.setRule r o)).setRule r o' = (sending x s).setRule r o' := fun o' => by
    rw [sending_setRule, setRule_setRule]
  unfold armedAs
  rw [hcopies.condition_eq, hcopies.firingSends_eq]
  simp only [hset]
  rfl

theorem armedAs_setLink (r : RuleId) (cfg : RuleConfig) (fires : Nat) (last : Option Time) (s : State) (l : HostLink) :
    armedAs r cfg fires last (s.setLink l) = (armedAs r cfg fires last s).setLink l := by
  unfold armedAs
  rw [State.setLink_ruleEngine]
  split <;> rfl

/-! ### PUT_RULE (R68, R69) -/

/-- The number of the status with which a reference that does not stand refuses a record (R68, R175). -/
def referenceStatus : Turndown → Nat
  | .absent => 0x05
  | _ => 0x0A

/-- The references of a record that do not stand, terms and then actions (R68). -/
def failedReferences (s : State) (cfg : RuleConfig) : List Turndown :=
  cfg.terms.filterMap (termReference s) ++ cfg.actions.filterMap (actionReference s)

/-- PUT_RULE is refused with the first reference that fails (R68). -/
theorem ruleReferences_eq_head? (s : State) (cfg : RuleConfig) :
    ruleReferences s cfg = (failedReferences s cfg).head? := by
  unfold ruleReferences failedReferences
  rw [← List.head?_filterMap, List.filterMap_append, List.filterMap_map, List.filterMap_map]
  rfl

/-- The status of a term's reference: ABSENT for its zone, STATE for its line (R68). -/
theorem termReference_status (s : State) (t : Term) : (termReference s t).map referenceStatus = match t.operand with
    | .zone z => if s.zoneEngine.table.get z = none then some 0x05 else none
    | .line l => if (s.lines.get l).mode = .input then none else some 0x0A := by
  obtain ⟨operand, negate⟩ := t
  cases operand with
  | zone z =>
    simp only [termReference]
    cases s.zoneEngine.table.get z <;> rfl
  | line l =>
    simp only [termReference]
    split <;> rfl

/-- The status of an action's reference: ABSENT for its view, STATE for its line (R68). -/
theorem actionReference_status (s : State) (a : Action) : (actionReference s a).map referenceStatus = match a with
    | .showView v _ _ _ _ => if s.sched.views.get v = none then some 0x05 else none
    | .line l _ => if (s.lines.get l).mode = .output then none else some 0x0A
    | _ => none := by
  cases a
  case showView v _ _ _ _ =>
    simp only [actionReference]
    cases s.sched.views.get v <;> rfl
  case line l _ =>
    simp only [actionReference]
    split <;> rfl
  all_goals rfl

/-- A reference fails as ABSENT or as STATE (R68). -/
theorem failedReferences_cases {s : State} {cfg : RuleConfig} {t : Turndown} (h : t ∈ failedReferences s cfg) :
    t = .absent ∨ t = .state := by
  simp only [failedReferences, List.mem_append, List.mem_filterMap] at h
  rcases h with ⟨⟨operand, _⟩, _, ht⟩ | ⟨a, _, ht⟩
  · cases operand <;> simp only [termReference] at ht <;> split at ht <;> simp_all
  · cases a <;> simp only [actionReference, reduceCtorEq] at ht <;> split at ht <;> simp_all

/-- The refusal by a reference carries its status alone (R175). -/
theorem turndownBytes_of_failedReference {s : State} {cfg : RuleConfig} {t : Turndown}
    (h : t ∈ failedReferences s cfg) : turndownBytes t = [(referenceStatus t : Byte)] := by
  rcases failedReferences_cases h with rfl | rfl <;> rfl

/-- The statuses of the references that do not stand, from the status of each term's and each action's. -/
theorem failedReferences_statuses {s : State} {ofTerm : Term → Option Nat} {ofAction : Action → Option Nat}
    (hterm : ∀ t, (termReference s t).map referenceStatus = ofTerm t)
    (haction : ∀ a, (actionReference s a).map referenceStatus = ofAction a) (cfg : RuleConfig) :
    (do let n ← cfg.terms.filterMap ofTerm ++ cfg.actions.filterMap ofAction; pure (n : Byte)) =
      (failedReferences s cfg).map fun t => (referenceStatus t : Byte) := by
  rw [← funext hterm, ← funext haction, ← List.map_filterMap, ← List.map_filterMap, ← List.map_append]
  simp only [List.bind_eq_flatMap, List.pure_def, ← List.map_eq_flatMap, List.map_map, failedReferences]
  rfl

theorem putRule_of_undefined {r : RuleId} {s : State} (cfg : RuleConfig) (hr : s.ruleEngine.table.get r = none) :
    putRule r cfg s = if cfg.armed then armedAs r cfg 0 none s
      else s.setRule r (some ⟨cfg, restingRun .disarmed 0 none⟩) := by
  simp only [putRule, hr]
  exact storeRule_eq r cfg 0 none s

/-- PUT_RULE over a defined rule: disarmed first with its release, its count and stamp kept (R69). -/
theorem putRule_of_defined {r : RuleId} {old : Rule} {s : State} (cfg : RuleConfig)
    (hr : s.ruleEngine.table.get r = some old) :
    putRule r cfg s =
      let replaced := sending (disarmSends s.ruleEngine s.now r old .replaced) s
      if cfg.armed then armedAs r cfg old.run.fireCount old.run.lastFired replaced
      else replaced.setRule r (some ⟨cfg, restingRun .disarmed old.run.fireCount old.run.lastFired⟩) := by
  have hstored := storeRule_eq r cfg old.run.fireCount old.run.lastFired (disarmRule r old .replaced s)
  simp only [putRule, hr]
  refine hstored.trans ?_
  rw [disarmRule_eq, armedAs_sending_setRule, sending_setRule, setRule_setRule]

theorem putRule_setLink (r : RuleId) (cfg : RuleConfig) (s : State) (l : HostLink) :
    putRule r cfg (s.setLink l) = (putRule r cfg s).setLink l := by
  cases hr : s.ruleEngine.table.get r with
  | none =>
    rw [putRule_of_undefined cfg hr, putRule_of_undefined cfg (s := s.setLink l) hr, armedAs_setLink]
    split <;> rfl
  | some old =>
    rw [putRule_of_defined cfg hr, putRule_of_defined cfg (s := s.setLink l) hr]
    dsimp only
    split
    · exact armedAs_setLink r cfg _ _ (sending (disarmSends s.ruleEngine s.now r old .replaced) s) l
    · rfl

theorem exec_putRule_refused {r : RuleId} {cfg : RuleConfig} {f : Frame} {rest : List Frame} {s : State}
    {t : Turndown} {others : List Turndown} (hready : Ready 0x20 f rest s) (hheld : Unheld s)
    (hparse : parseRule f.payload = .ok (r, cfg)) (hfailed : failedReferences s cfg = t :: others) :
    ∃ u, exec .putRule s = .next u ∧ Taken f rest [(referenceStatus t : Byte)] s s u := by
  have href : ruleReferences (s.setLink { s.link with commands := rest }) cfg = some t := by
    show ruleReferences s cfg = some t
    rw [ruleReferences_eq_head?, hfailed]; rfl
  have hbytes := turndownBytes_of_failedReference (hfailed ▸ List.mem_cons_self)
  rw [← hbytes]
  exact ⟨_, rfl, takeKind_configuration_taken (a := answerRefused t) hready hheld hparse (by simp only [href])⟩

theorem exec_putRule_taken {r : RuleId} {cfg : RuleConfig} {f : Frame} {rest : List Frame} {s : State}
    (hready : Ready 0x20 f rest s) (hheld : Unheld s) (hparse : parseRule f.payload = .ok (r, cfg))
    (hstands : failedReferences s cfg = []) :
    ∃ t, exec .putRule s = .next t ∧ Taken f rest [0x00] s (putRule r cfg s) t := by
  have href : ruleReferences (s.setLink { s.link with commands := rest }) cfg = none := by
    show ruleReferences s cfg = none
    rw [ruleReferences_eq_head?, hstands]; rfl
  exact ⟨_, rfl, takeKind_configuration_taken (a := answerOk []) hready hheld hparse
    (by simp only [href, putRule_setLink])⟩

/-! ### ARM_RULE and DROP_RULE (R70–R72) -/

/-- A rule that is armed already is left as it is (R70). -/
theorem setArmed_of_armed {r : RuleId} {rule : Rule} {s : State} (harmed : rule.cfg.armed = true) :
    setArmed r rule true s = s := by
  simp only [setArmed, harmed, if_true]

theorem setArmed_of_disarmed {r : RuleId} {rule : Rule} {s : State} (hno : rule.cfg.armed = false) :
    setArmed r rule true s = armedAs r { rule.cfg with armed := true } rule.run.fireCount rule.run.lastFired s := by
  simp only [setArmed, hno, Bool.false_eq_true, if_true, if_false, armRule_eq]

theorem setArmed_false (r : RuleId) (rule : Rule) (s : State) : setArmed r rule false s =
    sending (disarmSends s.ruleEngine s.now r rule .disarmed) (s.setRule r
      (some ⟨{ rule.cfg with armed := false }, restingRun .disarmed rule.run.fireCount rule.run.lastFired⟩)) := by
  simp only [setArmed, Bool.false_eq_true, if_false, disarmRule_eq]

theorem setArmed_setLink (r : RuleId) (rule : Rule) (armed : Bool) (s : State) (l : HostLink) :
    setArmed r rule armed (s.setLink l) = (setArmed r rule armed s).setLink l := by
  unfold setArmed
  split
  · split
    · rfl
    · rw [armRule_eq, armRule_eq, armedAs_setLink]
  · rw [disarmRule_eq, disarmRule_eq]
    rfl

theorem dropRule_eq (r : RuleId) (rule : Rule) (s : State) : dropRule r rule s =
    sending (disarmSends s.ruleEngine s.now r rule .dropped) (s.setRule r none) := by
  rw [dropRule, disarmRule_eq, ← sending_setRule, setRule_setRule]

theorem exec_armRule_absent {r : RuleId} {armed : Bool} {f : Frame} {rest : List Frame} {s : State}
    (hready : Ready 0x22 f rest s) (hheld : Unheld s) (hparse : parseArmRule f.payload = .ok (r, armed))
    (hr : s.ruleEngine.table.get r = none) : ∃ t, exec .armRule s = .next t ∧ Taken f rest [0x05] s s t :=
  ⟨_, rfl, takeKind_configuration_taken (a := answerRefused .absent) hready hheld hparse
    (by simp only [onRule, State.setLink_ruleEngine, hr])⟩

theorem exec_armRule_taken {r : RuleId} {rule : Rule} {armed : Bool} {f : Frame} {rest : List Frame} {s : State}
    (hready : Ready 0x22 f rest s) (hheld : Unheld s) (hparse : parseArmRule f.payload = .ok (r, armed))
    (hr : s.ruleEngine.table.get r = some rule) :
    ∃ t, exec .armRule s = .next t ∧ Taken f rest [0x00] s (setArmed r rule armed s) t :=
  ⟨_, rfl, takeKind_configuration_taken (a := answerOk []) hready hheld hparse
    (by simp only [onRule, State.setLink_ruleEngine, hr, setArmed_setLink])⟩

theorem exec_dropRule_absent {r : RuleId} {f : Frame} {rest : List Frame} {s : State}
    (hready : Ready 0x21 f rest s) (hheld : Unheld s) (hparse : parseId 24 f.payload = .ok r)
    (hr : s.ruleEngine.table.get r = none) : ∃ t, exec .dropRule s = .next t ∧ Taken f rest [0x05] s s t :=
  ⟨_, rfl, takeKind_configuration_taken (a := answerRefused .absent) hready hheld hparse
    (by simp only [onRule, State.setLink_ruleEngine, hr])⟩

theorem exec_dropRule_taken {r : RuleId} {rule : Rule} {f : Frame} {rest : List Frame} {s : State}
    (hready : Ready 0x21 f rest s) (hheld : Unheld s) (hparse : parseId 24 f.payload = .ok r)
    (hr : s.ruleEngine.table.get r = some rule) :
    ∃ t, exec .dropRule s = .next t ∧ Taken f rest [0x00] s
      (sending (disarmSends s.ruleEngine s.now r rule .dropped) (s.setRule r none)) t :=
  ⟨_, rfl, takeKind_configuration_taken (a := answerOk []) hready hheld hparse
    (by simp only [onRule, State.setLink_ruleEngine, hr, dropRule_eq]; rfl)⟩

/-! ### The restored rules (R74) -/

/-- An entry of the rule table left out of the table, with nothing sent. -/
theorem ruling_of_undefined (x : Sent) (table : Vector (Option Rule) 24) (r : RuleId) (s : State) :
    (ruling x table s).setRule r none = ruling (x.andThen .nothing) (upd table r none) s := by
  rw [← sending_setRule_ruling, sending_nothing]

/-- The table of a run over the rules replaced. -/
theorem ruling_setTable (x : Sent) (table table' : Vector (Option Rule) 24) (s : State) :
    (ruling x table s).setRules { (ruling x table s).ruleEngine with table := table' } =
      sending x (s.setRules { s.ruleEngine with table := table' }) := rfl

/-- One rule is displaced, in its turn (R74; log 40). -/
theorem displaceRule_ruling (s : State) (r : RuleId) (x : Sent) (table : Vector (Option Rule) 24)
    (hr : table.get r = s.ruleEngine.table.get r) :
    displaceRule (ruling x table s) r =
      ruling (x.andThen ((s.ruleEngine.table.get r).elim .nothing fun rule =>
          disarmSends s.ruleEngine s.now r rule .restored))
        (upd table r ((s.ruleEngine.table.get r).map fun rule =>
          ⟨{ rule.cfg with armed := false }, restingRun .disarmed rule.run.fireCount rule.run.lastFired⟩)) s := by
  have hcopies : SameCopies (ruling x table s).ruleEngine s.ruleEngine := ⟨rfl, rfl⟩
  cases hrule : s.ruleEngine.table.get r with
  | none =>
    have hnone : (ruling x table s).ruleEngine.table.get r = none := hr.trans hrule
    have hsame : upd table r none = table := by rw [← hrule, ← hr, upd_get_eq]
    simp only [displaceRule, hnone, Option.elim_none, Option.map_none, sent_andThen_nothing, hsame]
  | some rule =>
    have hsome : (ruling x table s).ruleEngine.table.get r = some rule := hr.trans hrule
    simp only [displaceRule, hsome, disarmRule_eq, sending_setRule_ruling, hcopies.disarmSends_eq, Option.elim_some,
      Option.map_some]
    rfl

/-- The first event: every rule is disarmed with its release, and the table is emptied (R74). -/
theorem removeRules_eq {s : State} {gather : Sent → RuleId → Sent}
    (hgather : ∀ x r, gather x r = x.andThen ((s.ruleEngine.table.get r).elim .nothing fun rule =>
      disarmSends s.ruleEngine s.now r rule .restored)) :
    removeRules s = sending ((List.finRange 24).foldl gather .nothing)
      (s.setRules { s.ruleEngine with table := Vector.replicate 24 none }) := by
  unfold removeRules
  rw [foldl_allIds_ruling hgather (displaceRule_ruling s)]
  exact ruling_setTable ..

/-- A restored rule fires at once: armed, of mode ANY, ALL or COUNT, its condition true (R70, R74). -/
abbrev firesRestored (e : RuleEngine) (cfg : RuleConfig) : Prop :=
  cfg.armed ∧ cfg.mode ≠ .order ∧ condition e cfg .idle = true

/-- A restored rule as the second event leaves it (R74). -/
def restoredRule (e : RuleEngine) (now : Time) (cfg : RuleConfig) : Rule :=
  ⟨cfg, if firesRestored e cfg then restingRun .fired 1 (some now)
    else restingRun (if cfg.armed then .idle else .disarmed) 0 none⟩

/-- What a restored rule sends at the second event (R74). -/
def restoredSends (e : RuleEngine) (now : Time) (r : RuleId) (cfg : RuleConfig) : Sent :=
  if firesRestored e cfg then firingSends e now r cfg 1 else .nothing

/-- A restored rule stored, and armed where its record says so. -/
theorem storeRule_restored (r : RuleId) (cfg : RuleConfig) (s : State) :
    storeRule r cfg (freshRun .disarmed) s =
      sending (restoredSends s.ruleEngine s.now r cfg)
        (s.setRule r (some (restoredRule s.ruleEngine s.now cfg))) := by
  refine (storeRule_eq r cfg 0 none s).trans ?_
  by_cases hfires : firesRestored s.ruleEngine cfg
  · obtain ⟨harmed, hcond⟩ := hfires
    rw [if_pos harmed, armedAs, if_pos hcond, restoredSends, if_pos ⟨harmed, hcond⟩, restoredRule,
      if_pos ⟨harmed, hcond⟩]
    rfl
  · rw [restoredSends, if_neg hfires, restoredRule, if_neg hfires, sending_nothing]
    by_cases harmed : cfg.armed = true
    · rw [if_pos harmed, armedAs, if_neg fun hcond => hfires ⟨harmed, hcond⟩, if_pos harmed]
    · rw [if_neg harmed, if_neg harmed]

/-- One restored rule is stored, in its turn (R74). -/
theorem restoreRule_ruling (p : Profile) (s : State) (r : RuleId) (x : Sent) (table : Vector (Option Rule) 24) :
    restoreRule p (ruling x table s) r =
      ruling (x.andThen ((p.rules.get r).elim .nothing (restoredSends s.ruleEngine s.now r)))
        (upd table r ((p.rules.get r).map (restoredRule s.ruleEngine s.now))) s := by
  have hcopies : SameCopies (ruling x table s).ruleEngine s.ruleEngine := ⟨rfl, rfl⟩
  unfold restoreRule
  cases p.rules.get r with
  | none => exact ruling_of_undefined x table r s
  | some cfg =>
    have hsends : restoredSends (ruling x table s).ruleEngine s.now r cfg =
        restoredSends s.ruleEngine s.now r cfg := by
      simp only [restoredSends, firesRestored, hcopies.condition_eq, hcopies.firingSends_eq]
    have hrule : restoredRule (ruling x table s).ruleEngine s.now cfg = restoredRule s.ruleEngine s.now cfg := by
      simp only [restoredRule, firesRestored, hcopies.condition_eq]
    show storeRule r cfg (freshRun .disarmed) (ruling x table s) = _
    rw [storeRule_restored, sending_setRule_ruling]
    show ruling (x.andThen (restoredSends (ruling x table s).ruleEngine s.now r cfg))
      (upd table r (some (restoredRule (ruling x table s).ruleEngine s.now cfg))) s = _
    rw [hsends, hrule]
    rfl

/-- The second event: the table holds the restored rules, each armed in ascending order (R74). -/
theorem restoreRules_eq {p : Profile} {s : State} {gather : Sent → RuleId → Sent}
    (hgather : ∀ x r, gather x r =
      x.andThen ((p.rules.get r).elim .nothing (restoredSends s.ruleEngine s.now r))) :
    restoreRules p s = sending ((List.finRange 24).foldl gather .nothing)
      (s.setRules { s.ruleEngine with table := p.rules.map (Option.map (restoredRule s.ruleEngine s.now)) }) := by
  unfold restoreRules
  rw [foldl_allIds_ruling hgather fun r x table _ => restoreRule_ruling p s r x table, ofFn_get_map]
  rfl

theorem exec_restoreRulesRemove_handed {p : Profile} {s : State} (h : Handed .rulesRemove p s) :
    exec .restoreRulesRemove s = .next (partTaken .rulesRemove (removeRules s)) := by
  obtain ⟨happlying, hhanded⟩ := h
  exact congrArg Host.Outcome.next (takePart_handed happlying hhanded)

theorem exec_restartNotice_of_cons {rest : List ZoneMessage} {s : State}
    (h : s.wires.zonesToRules = .restart :: rest) :
    exec .restartNotice s = .next ((s.setWires { s.wires with zonesToRules := rest }).setRules
      { s.ruleEngine with zoneCopy := Vector.replicate 48 .unknown }) := by
  show execRestartNotice s = _
  simp only [execRestartNotice, h, dropZoneMessage, takeRestart, List.tail_cons]
  rfl

/-- The second event is taken behind the zone engine's restart notice (R74). -/
theorem exec_restoreRulesArm_handed {p : Profile} {s : State} (h : Handed .rulesArm p s)
    (hbehind : .restart ∉ s.wires.zonesToRules) :
    exec .restoreRulesArm s = .next (partTaken .rulesArm (restoreRules p s)) := by
  obtain ⟨happlying, hhanded⟩ := h
  show execRestoreRulesArm s = _
  simp only [execRestoreRulesArm, hbehind, if_false]
  exact congrArg Host.Outcome.next (takePart_handed happlying hhanded)

end Sys2Proof.Machine

namespace Sys2Proof.RuleEdits

open Sys2Proof.Machine Sys2Proof.Safety

/-- Settles O21, by the answer of each command: refused by a reference, absent, or applied. -/
theorem ruleCommands : Obligations.RuleCommands := by
  intro r f rest s
  refine ⟨fun cfg hready hheld hparse => ?put, fun hr => ⟨fun armed hready hheld hparse => ?armAbsent,
    fun hready hheld hparse => ?dropAbsent⟩, fun rule hr => ⟨fun armed hready hheld hparse => ?arm,
    fun hready hheld hparse => ?drop⟩⟩
  case put =>
    have hstatuses := failedReferences_statuses (termReference_status s) (actionReference_status s) cfg
    refine ⟨fun status others hfailed => ?_, fun hstands => ?_⟩
    · obtain ⟨t, ts, hcons, rfl, _⟩ := List.map_eq_cons_iff.mp (hstatuses.symm.trans hfailed)
      exact exec_putRule_refused hready hheld hparse hcons
    · have hnone := List.map_eq_nil_iff.mp (hstatuses.symm.trans hstands)
      obtain ⟨t, hexec, htaken⟩ := exec_putRule_taken hready hheld hparse hnone
      exact ⟨t, _, hexec, htaken, putRule_of_undefined cfg, fun old hr => putRule_of_defined cfg hr⟩
  case armAbsent => exact exec_armRule_absent hready hheld hparse hr
  case dropAbsent => exact exec_dropRule_absent hready hheld hparse hr
  case arm =>
    obtain ⟨t, hexec, htaken⟩ := exec_armRule_taken hready hheld hparse hr
    refine ⟨t, _, hexec, htaken, ?_, ?_, ?_⟩
    · rintro rfl harmed
      exact setArmed_of_armed harmed
    · rintro rfl hno
      exact setArmed_of_disarmed hno
    · rintro rfl
      exact setArmed_false r rule s
  case drop => exact exec_dropRule_taken hready hheld hparse hr

/-- Settles O22, by the two runs over the rules, each with the copies as they stand at its event. -/
theorem rulesRestored : Obligations.RulesRestored := by
  refine ⟨fun p s hhanded => ?_, fun rest s h => exec_restartNotice_of_cons h, fun p s hhanded hbehind => ?_⟩
  · rw [exec_restoreRulesRemove_handed hhanded]
    refine congrArg (fun u => Host.Outcome.next (partTaken .rulesRemove u)) (removeRules_eq fun x r => ?_)
    cases s.ruleEngine.table.get r with
    | none => exact (sent_andThen_nothing x).symm
    | some rule => rfl
  · dsimp only
    rw [exec_restoreRulesArm_handed hhanded hbehind]
    refine congrArg (fun u => Host.Outcome.next (partTaken .rulesArm u)) (restoreRules_eq fun x r => ?_)
    cases p.rules.get r with
    | none => exact (sent_andThen_nothing x).symm
    | some cfg =>
      simp only [Option.elim_some, restoredSends]
      split
      · rfl
      · exact (sent_andThen_nothing x).symm

end Sys2Proof.RuleEdits
end

section
/-! The layout of a rule record read back (R46, R67, R181, R193): each field of a record in range from its bytes, the
terms and actions one after another, and the shape and range tests of PUT_RULE. -/

namespace Sys2Proof.Machine

open Sys2Proof.Safety

/-! ### Fields read back from their bytes -/

theorem byte_toNat {n : Nat} (h : n < 256) : (byte n).toNat = n := by
  simp only [byte, BitVec.toNat_ofNat]
  exact Nat.mod_eq_of_lt h

/-- A 16-bit number read back from its two bytes. -/
theorem word16_byte {n : Nat} (h : n ≤ 65535) : word16 (byte (n / 256)) (byte n) = n := by
  simp only [word16, byte, BitVec.toNat_ofNat]
  omega

theorem idField_byte {n : Nat} (x : Fin n) (hn : n ≤ 256) (i : Nat) : idField n (byte x.val) i = .ok x := by
  have hx : (byte x.val).toNat = x.val := byte_toNat (by omega)
  simp [idField, hx]

theorem numberField_byte {n : Nat} (x : Fin n) (hn : n < 256) (i : Nat) :
    numberField n (byte (x.val + 1)) i = .ok x := by
  have hx : (byte (x.val + 1)).toNat = x.val + 1 := byte_toNat (by omega)
  simp [numberField, hx, Nat.succ_le_of_lt x.isLt]

theorem natField_ok {lo hi v : Nat} (hlo : lo ≤ v) (hhi : v ≤ hi) (i : Nat) : natField lo hi v i = .ok v :=
  if_pos ⟨hlo, hhi⟩

theorem yesNoField_yesNo (b : Bool) (i : Nat) : yesNoField (yesNo b) i = .ok b := by cases b <;> rfl

/-! ### Terms -/

/-- The type byte and the operand byte of a term (R189, R193). -/
def rawTerm (t : Term) : Byte × Byte :=
  match t.operand with
  | .zone z => (if t.negate then 0x81 else 0x01, byte z.val)
  | .line l => (if t.negate then 0x82 else 0x02, byte (l.val + 1))

theorem termBytes_eq_rawTerm (t : Term) : termBytes t = [(rawTerm t).1, (rawTerm t).2] := by
  obtain ⟨_ | _, _⟩ := t <;> rfl

/-- The type of a term's bytes is ZONE or LINE (R189). -/
theorem termType_rawTerm (t : Term) : termType (rawTerm t).1 = match t.operand with
    | .zone _ => 1
    | .line _ => 2 := by
  obtain ⟨_ | _, negate⟩ := t <;> cases negate <;> simp [rawTerm, termType]

theorem readTerms_termBytes (terms : List Term) (rest : List Byte) :
    readTerms terms.length (terms.flatMap termBytes ++ rest) = some (terms.map rawTerm, rest) := by
  induction terms with
  | nil => simp [readTerms]
  | cons t terms ih =>
    have htype : (termType (rawTerm t).1 == 1 || termType (rawTerm t).1 == 2) = true := by
      rw [termType_rawTerm]
      cases t.operand <;> rfl
    simp [termBytes_eq_rawTerm, readTerms, htype, ih]

theorem termField_rawTerm (t : Term) (i : Nat) : termField (rawTerm t).1 (rawTerm t).2 i = .ok t := by
  obtain ⟨operand, negate⟩ := t
  cases operand with
  | zone z =>
    have hid : idField 48 (byte z.val) (i + 1) = .ok z := idField_byte z (by decide) _
    cases negate <;> simp [rawTerm, termField, termType, hid]
  | line l =>
    have hid : numberField 8 (byte (l.val + 1)) (i + 1) = .ok l := numberField_byte l (by decide) _
    cases negate <;> simp [rawTerm, termField, termType, hid]

theorem termFields_rawTerm (terms : List Term) : ∀ i, termFields (terms.map rawTerm) i = .ok terms := by
  induction terms with
  | nil => exact fun _ => rfl
  | cons t terms ih =>
    intro i
    simp only [List.map_cons, termFields, termField_rawTerm, ih]
    rfl

/-! ### Actions -/

/-- An action as its bytes stand (R193). -/
def rawAction : Action → RawAction
  | .report p c => .report (byte p) (yesNo c)
  | .showView v p d l w => .showView (byte v.val) (byte p) (byte d) (word16 (byte (l / 256)) (byte l)) (yesNo w)
  | .line l (.pulse n) => .line (byte (l.val + 1)) 0 (byte n)
  | .line l .latch => .line (byte (l.val + 1)) 1 0
  | .recall h p => .recall (byte h.val) (byte p.val)

/-- The fields of an action lie in their ranges (R46). -/
def actionRanged : Action → Prop
  | .report p _ => p ≤ 3
  | .showView _ p d l _ => 1 ≤ p ∧ p ≤ 7 ∧ 1 ≤ d ∧ d ≤ 255 ∧ d ≤ l ∧ l ≤ 3600
  | .line _ (.pulse n) => 1 ≤ n ∧ n ≤ 255
  | .line _ .latch => True
  | .recall _ _ => True

theorem readAction_actionBytes (a : Action) (rest : List Byte) :
    readAction (actionBytes a ++ rest) = some (rawAction a, rest) := by
  rcases a with _ | _ | ⟨_, _ | _⟩ | _ <;> rfl

theorem readActions_actionBytes (actions : List Action) (rest : List Byte) :
    readActions actions.length (actions.flatMap actionBytes ++ rest) = some (actions.map rawAction, rest) := by
  induction actions with
  | nil => rfl
  | cons a actions ih =>
    simp [readActions, readAction_actionBytes, ih]

theorem actionField_rawAction {a : Action} (h : actionRanged a) (i : Nat) : actionField (rawAction a) i = .ok a := by
  rcases a with ⟨p, c⟩ | ⟨v, p, d, l, w⟩ | ⟨l, n | _⟩ | ⟨head, preset⟩
  · have hp : (byte p).toNat = p := byte_toNat (Nat.lt_of_le_of_lt h (by decide))
    simp only [rawAction, actionField, hp, natField_ok (Nat.zero_le p) h, yesNoField_yesNo]
    rfl
  · obtain ⟨hp1, hp7, hd1, hd255, hdl, hl⟩ := h
    have hp : (byte p).toNat = p := byte_toNat (by omega)
    have hd : (byte d).toNat = d := byte_toNat (by omega)
    simp only [rawAction, actionField, hp, hd, word16_byte (Nat.le_trans hl (by decide)),
      idField_byte v (by decide), natField_ok hp1 hp7, natField_ok hd1 hd255, yesNoField_yesNo, bind, Except.bind]
    rw [natField_ok hdl hl]
    rfl
  · obtain ⟨hn1, hn255⟩ := h
    have hn : (byte n).toNat = n := byte_toNat (by omega)
    simp only [rawAction, actionField, numberField_byte l (by decide), hn, natField_ok hn1 hn255]
    rfl
  · simp only [rawAction, actionField, numberField_byte l (by decide)]
    rfl
  · simp only [rawAction, actionField, idField_byte head (by decide), idField_byte preset (by decide)]
    rfl

theorem actionFields_rawAction {actions : List Action} (h : ∀ a ∈ actions, actionRanged a) :
    ∀ i, actionFields (actions.map rawAction) i = .ok actions := by
  induction actions with
  | nil => exact fun _ => rfl
  | cons a actions ih =>
    obtain ⟨ha, hactions⟩ := List.forall_mem_cons.mp h
    intro i
    simp only [List.map_cons, actionFields, actionField_rawAction ha, ih hactions]
    rfl

/-- A count over the actions as their bytes stand. -/
theorem countP_rawAction {p : RawAction → Bool} {q : Action → Bool} (hpq : ∀ a, p (rawAction a) = q a)
    (actions : List Action) : (actions.map rawAction).countP p = (actions.filter q).length := by
  rw [List.countP_map, List.countP_eq_length_filter]
  congr 2
  exact funext hpq

/-! ### The record -/

/-- The mode and the count of a record in range (R46). -/
def modeRanged (mode : Mode) (terms : Nat) : Prop :=
  (∀ n, mode = .count n → 1 ≤ n ∧ n ≤ terms) ∧ (mode = .order → 2 ≤ terms)

theorem modeField_modeCode {mode : Mode} {terms : Nat} (h : modeRanged mode terms) (hterms : terms ≤ 4) :
    modeField (modeCode mode) (byte (modeCount mode)) terms = .ok mode := by
  obtain ⟨hcount, horder⟩ := h
  cases mode with
  | any => rfl
  | all => rfl
  | count n =>
    obtain ⟨hn1, hn⟩ := hcount n rfl
    have hbyte : (byte n).toNat = n := byte_toNat (by omega)
    have hrange : 1 ≤ (byte n).toNat ∧ (byte n).toNat ≤ terms := hbyte.symm ▸ ⟨hn1, hn⟩
    exact (if_pos hrange).trans (congrArg (fun k => Except.ok (Mode.count k)) hbyte)
  | order => exact if_pos (horder rfl)

/-- The count byte is 0 exactly outside COUNT mode (R181). -/
theorem countByte_good {mode : Mode} {terms : Nat} (h : modeRanged mode terms) (hterms : terms ≤ 4) :
    if (modeCode mode).toNat = 2 then (byte (modeCount mode)).toNat ≠ 0 else (byte (modeCount mode)).toNat = 0 := by
  cases mode with
  | count n =>
    obtain ⟨hn1, hn⟩ := h.1 n rfl
    have hbyte : (byte n).toNat = n := byte_toNat (by omega)
    show (byte n).toNat ≠ 0
    omega
  | any => rfl
  | all => rfl
  | order => rfl

/-- A rule record as its bytes stand. -/
def rawRule (r : RuleId) (cfg : RuleConfig) : RawRule where
  rule := byte r.val
  armed := yesNo cfg.armed
  mode := modeCode cfg.mode
  count := byte (modeCount cfg.mode)
  terms := cfg.terms.map rawTerm
  window := word16 (byte (cfg.window / 256)) (byte cfg.window)
  cooldown := word16 (byte (cfg.cooldown / 256)) (byte cfg.cooldown)
  actions := cfg.actions.map rawAction

/-- The shape tests of PUT_RULE read a record's layout as its bytes stand (R67, R181). -/
theorem shapeRule_ruleBytes {r : RuleId} {cfg : RuleConfig} (hterms1 : 1 ≤ cfg.terms.length)
    (hterms4 : cfg.terms.length ≤ 4) (hactions : cfg.actions.length ≤ 3) (hmode : modeRanged cfg.mode cfg.terms.length)
    (hreports : (cfg.actions.map rawAction).countP isReport ≤ 1)
    (hshows : (cfg.actions.map rawAction).countP isShow ≤ 1) :
    shapeRule (ruleBytes r cfg) = some (rawRule r cfg) := by
  have hbytes : ruleBytes r cfg = byte r.val :: yesNo cfg.armed :: modeCode cfg.mode :: byte (modeCount cfg.mode) ::
      byte cfg.terms.length :: (cfg.terms.flatMap termBytes ++ (byte (cfg.window / 256) :: byte cfg.window ::
        byte (cfg.cooldown / 256) :: byte cfg.cooldown :: byte cfg.actions.length ::
          (cfg.actions.flatMap actionBytes ++ []))) := by
    simp [ruleBytes, be16]
  have hn : (byte cfg.terms.length).toNat = cfg.terms.length := byte_toNat (by omega)
  have hm : (byte cfg.actions.length).toNat = cfg.actions.length := byte_toNat (by omega)
  have hcount := countByte_good hmode hterms4
  rw [hbytes]
  simp only [shapeRule, hn, readTerms_termBytes, guard, hterms1, hterms4, and_self, if_true, Option.pure_def,
    Option.bind_eq_bind, Option.bind_some, hm, hactions, readActions_actionBytes, List.isEmpty_nil, hreports, hshows,
    if_pos hcount]
  rfl

/-- The range tests of PUT_RULE read the fields of a record in range back (R67, R181). -/
theorem rangeRule_rawRule {r : RuleId} {cfg : RuleConfig} (hterms4 : cfg.terms.length ≤ 4)
    (hmode : modeRanged cfg.mode cfg.terms.length) (hwindow1 : 1 ≤ cfg.window) (hwindow : cfg.window ≤ 65535)
    (hcooldown : cfg.cooldown ≤ 65535) (hactions : ∀ a ∈ cfg.actions, actionRanged a) :
    rangeRule (rawRule r cfg) = .ok (r, cfg) := by
  simp only [rangeRule, rawRule, List.length_map, idField_byte r (by decide), yesNoField_yesNo,
    modeField_modeCode hmode hterms4, termFields_rawTerm, word16_byte hwindow, word16_byte hcooldown,
    natField_ok hwindow1 hwindow, actionFields_rawAction hactions]
  rfl

end Sys2Proof.Machine

namespace Sys2Proof.RuleLayouts

open Sys2Proof.Machine

/-- Settles O53, by the shape tests over the layout and then the range tests field by field. -/
theorem rulesInRangeAccepted : Obligations.RulesInRangeAccepted := by
  intro r cfg hterms1 hterms4 hactions hwindow1 hwindow hcooldown hcount horder hreports hshows hreport hshow hpulse
  have hmode : modeRanged cfg.mode cfg.terms.length := ⟨hcount, horder⟩
  have hranged : ∀ a ∈ cfg.actions, actionRanged a := by
    intro a ha
    rcases a with ⟨p, c⟩ | ⟨v, p, d, l, w⟩ | ⟨l, n | _⟩ | _
    · exact hreport p c ha
    · exact hshow v p d l w ha
    · exact hpulse l n ha
    · trivial
    · trivial
  rw [← countP_rawAction (p := isReport) fun a => by rcases a with _ | _ | ⟨_, _ | _⟩ | _ <;> rfl] at hreports
  rw [← countP_rawAction (p := isShow) fun a => by rcases a with _ | _ | ⟨_, _ | _⟩ | _ <;> rfl] at hshows
  rw [parseRule, shapeRule_ruleBytes hterms1 hterms4 hactions hmode hreports hshows]
  exact rangeRule_rawRule hterms4 hmode hwindow1 hwindow hcooldown hranged

end Sys2Proof.RuleLayouts
end

section
/-! What the rows of the cameras, the head link, the compositor, the sessions, the scheduler and the host commands keep
of a property that their block's fields do not enter: one structure per block, one lemma per operation. -/

namespace Sys2Proof.Machine

open Sys2Proof.Safety

variable {P : State → Prop}

/-! ### Cameras (chapter 01) -/

/-- A property that no change of the cameras, of the paths or of the free values' counter can break. -/
structure CameraBlind (P : State → Prop) : Prop where
  cams : ∀ s x, P s → P (s.setCams x)
  wires : ∀ s x, P s → P (s.setWires x)
  fresh : ∀ s x, P s → P (s.setFresh x)

theorem CameraBlind.sendTransition (hP : CameraBlind P) (m : CameraNotice → CameraMessage) (c : CameraId) (new : Camera)
    (changed : Bool) {s : State} (h : P s) : P (sendTransition m c new changed s) :=
  hP.wires _ _ (hP.wires _ _ (hP.wires _ _ (hP.cams _ _ h)))

theorem CameraBlind.searchField (hP : CameraBlind P) (c : CameraId) (f : FieldInfo) {s : State} (h : P s) :
    P (searchField c f s) := by
  unfold Machine.searchField
  dsimp only
  split
  · exact hP.cams _ _ h
  · split
    · exact hP.fresh _ _ (hP.sendTransition _ _ _ _ h)
    · exact hP.fresh _ _ (hP.cams _ _ h)

theorem CameraBlind.lockedField (hP : CameraBlind P) (c : CameraId) (st : Standard) (f : FieldInfo) {s : State}
    (h : P s) : P (lockedField c st f s) := by
  unfold Machine.lockedField
  dsimp only
  split
  · exact hP.wires _ _ (hP.fresh _ _ (hP.cams _ _ h))
  · exact hP.fresh _ _ (hP.cams _ _ h)

theorem CameraBlind.takeFieldEnd (hP : CameraBlind P) (c : CameraId) (f : FieldInfo) {s : State} (h : P s) :
    P (takeFieldEnd c f s) := by
  unfold Machine.takeFieldEnd
  dsimp only
  split
  · exact h
  · exact hP.searchField c f h
  · exact hP.searchField c f h
  · split
    · exact hP.cams _ _ h
    · split
      · exact hP.lockedField _ _ _ h
      · exact hP.fresh _ _ (hP.sendTransition _ _ _ _ h)

theorem CameraBlind.expireRun (hP : CameraBlind P) (c : CameraId) {s : State} (h : P s) : P (expireRun c s) := by
  unfold Machine.expireRun
  split
  · exact hP.cams _ _ h
  · exact h

theorem CameraBlind.expireLoss (hP : CameraBlind P) (c : CameraId) {s : State} (h : P s) : P (expireLoss c s) := by
  unfold Machine.expireLoss
  dsimp only
  split
  · exact hP.sendTransition _ _ _ _ h
  · exact h

theorem CameraBlind.expireLost (hP : CameraBlind P) (c : CameraId) {s : State} (h : P s) : P (expireLost c s) := by
  unfold Machine.expireLost
  dsimp only
  split
  · exact hP.sendTransition _ _ _ _ h
  · exact h

theorem CameraBlind.takeFirstLine (hP : CameraBlind P) (c : CameraId) {s : State} (h : P s) :
    P (takeFirstLine c s) := by
  unfold Machine.takeFirstLine
  dsimp only
  split
  · exact hP.cams _ _ h
  · exact h

theorem CameraBlind.writeCamera (hP : CameraBlind P) (m : CameraNotice → CameraMessage) (c : CameraId)
    (cfg : CameraConfig) {s : State} (h : P s) : P (writeCamera m c cfg s) := by
  unfold Machine.writeCamera
  dsimp only
  split
  · exact hP.sendTransition _ _ _ _ h
  · split
    · exact hP.sendTransition _ _ _ _ h
    · exact hP.cams _ _ h

/-! ### The head link (chapter 07) -/

/-- A property that no change of the head link, of the paths or of the free values' counter can break. -/
structure HeadBlind (P : State → Prop) : Prop where
  head : ∀ s x, P s → P (s.setHead x)
  wires : ∀ s x, P s → P (s.setWires x)
  fresh : ∀ s x, P s → P (s.setFresh x)

theorem HeadBlind.endInFlight (hP : HeadBlind P) (t : Transaction) (r : RelayResult) {s : State} (h : P s) :
    P (endInFlight t r s) :=
  hP.wires _ _ (hP.head _ _ h)

theorem HeadBlind.failAttempt (hP : HeadBlind P) (t : Transaction) (f : Failure) {s : State} (h : P s) :
    P (failAttempt t f s) := by
  unfold Machine.failAttempt
  split
  · exact hP.endInFlight _ _ h
  · split
    · exact hP.head _ _ h
    · exact hP.endInFlight _ _ h

theorem HeadBlind.completeRequest (hP : HeadBlind P) {s : State} (h : P s) : P (completeRequest s) := by
  unfold Machine.completeRequest
  split
  · split
    · exact hP.endInFlight _ _ h
    · exact hP.head _ _ h
  · exact h

theorem HeadBlind.judgeReply (hP : HeadBlind P) (addr tag status : Byte) (crc : Half) (t : Transaction) {s : State}
    (h : P s) : P (judgeReply addr tag status crc t s) := by
  unfold Machine.judgeReply
  split
  · exact hP.failAttempt _ _ h
  · split
    · exact hP.endInFlight _ _ h
    · exact hP.head _ _ h

theorem HeadBlind.headByte (hP : HeadBlind P) (s : State) (b : Byte) (h : P s) : P (headByte s b) := by
  unfold Machine.headByte
  split
  · split
    · exact hP.judgeReply _ _ _ _ _ h
    · exact hP.head _ _ h
  · exact h

theorem HeadBlind.takeReply (hP : HeadBlind P) (rate : HeadRate) (good : Bool) (sent : List Byte) {s : State}
    (h : P s) : P (takeReply rate good sent s) := by
  unfold Machine.takeReply
  split
  · split
    · exact foldl_keeps hP.headByte _ _ h
    · exact foldl_keeps hP.headByte _ _ (hP.fresh _ _ h)
  · exact h

theorem HeadBlind.expireReply (hP : HeadBlind P) {s : State} (h : P s) : P (expireReply s) := by
  unfold Machine.expireReply
  split
  · split
    · exact hP.failAttempt _ _ h
    · exact h
  · exact h

theorem HeadBlind.takeRecall (hP : HeadBlind P) (r : Recall) {s : State} (h : P s) : P (takeRecall r s) := by
  unfold Machine.takeRecall
  split
  · exact hP.wires _ _ (hP.head _ _ h)
  · split
    · exact hP.head _ _ h
    · exact hP.wires _ _ h

theorem HeadBlind.execRecall (hP : HeadBlind P) {s : State} (h : P s) : ∃ t, execRecall s = .next t ∧ P t := by
  refine ⟨_, rfl, ?_⟩
  split
  · exact hP.takeRecall _ (hP.wires _ _ h)
  · exact h

theorem HeadBlind.execTurnaroundGapEnd (hP : HeadBlind P) {s : State} (h : P s) :
    ∃ t, execTurnaroundGapEnd s = .next t ∧ P t := by
  refine ⟨_, rfl, ?_⟩
  split
  · exact hP.head _ _ h
  · exact h

theorem HeadBlind.judgeRelay (hP : HeadBlind P) : JudgementKeeps P judgeRelay := by
  refine judged_keeps fun x s h => ?_
  dsimp only
  split
  · exact hP.head _ _ h
  · exact h

theorem HeadBlind.judgeCancelRelay (hP : HeadBlind P) : JudgementKeeps P judgeCancelRelay := by
  refine judged_keeps fun tid s h => ?_
  split
  · unfold cancelInFlight
    split
    · exact hP.wires _ _ (hP.head _ _ h)
    · exact hP.head _ _ h
  · split
    · exact hP.wires _ _ (hP.head _ _ h)
    · exact h

/-! ### The compositor (chapter 04) -/

/-- A property that no change of the compositor, of the paths or of the free values' counter can break. -/
structure CompositorBlind (P : State → Prop) : Prop where
  comp : ∀ s x, P s → P (s.setComp x)
  wires : ∀ s x, P s → P (s.setWires x)
  fresh : ∀ s x, P s → P (s.setFresh x)

theorem CompositorBlind.composeFrame (hP : CompositorBlind P) {s : State} (h : P s) : P (composeFrame s) := by
  unfold Machine.composeFrame
  split
  · exact hP.comp _ _ h
  · split
    · exact hP.comp _ _ h
    · exact hP.fresh _ _ (hP.comp _ _ h)

theorem CompositorBlind.startFrame (hP : CompositorBlind P) {s : State} (h : P s) : P (startFrame s) := by
  unfold Machine.startFrame
  split
  · exact hP.composeFrame h
  · exact hP.composeFrame (hP.wires _ _ (hP.comp _ _ h))

theorem CompositorBlind.execPresentation (hP : CompositorBlind P) {s : State} (h : P s) :
    ∃ t, execPresentation s = .next t ∧ P t := by
  refine ⟨_, rfl, ?_⟩
  split
  · exact hP.comp _ _ (hP.wires _ _ h)
  · exact h

/-! ### Sessions and the report queue (chapters 05 and 08) -/

/-- A property that no change of the host link controller, of the report queue or of the paths can break. -/
structure SessionBlind (P : State → Prop) : Prop extends LinkBlind P where
  wires : ∀ s x, P s → P (s.setWires x)

theorem SessionBlind.closeLink (hP : SessionBlind P) {s : State} (h : P s) : P (closeLink s) :=
  hP.wires _ _ (hP.reports _ _ (hP.link _ _ h))

theorem SessionBlind.openSession (hP : SessionBlind P) (q : OpenRequest) {s : State} (h : P s) : P (openSession q s) :=
  hP.wires _ _ (hP.reports _ _ (hP.link _ _ h))

theorem SessionBlind.closeWith (hP : SessionBlind P) (reason : SessionReason) {s : State} (h : P s) :
    P (closeWith reason s) :=
  hP.wires _ _ (hP.closeLink h)

theorem SessionBlind.expireSilence (hP : SessionBlind P) {s : State} (h : P s) : P (expireSilence s) := by
  unfold Machine.expireSilence
  split
  · exact hP.closeWith _ h
  · exact h

theorem SessionBlind.expireRetransmit (hP : SessionBlind P) {s : State} (h : P s) : P (expireRetransmit s) := by
  unfold Machine.expireRetransmit
  split
  · split
    · exact hP.toLinkBlind.kick (hP.reports _ _ h)
    · exact hP.wires _ _ (hP.reports _ _ h)
  · exact h

theorem SessionBlind.execReportOffer (hP : SessionBlind P) (k : ReportKind) {s : State} (h : P s) :
    ∃ t, execReportOffer k s = .next t ∧ P t := by
  refine ⟨_, rfl, ?_⟩
  split
  · exact hP.toLinkBlind.kick (hP.reports _ _ (hP.wires _ _ h))
  · exact h

theorem SessionBlind.execPushStallNotice (hP : SessionBlind P) {s : State} (h : P s) :
    ∃ t, execPushStallNotice s = .next t ∧ P t := by
  refine ⟨_, rfl, ?_⟩
  split
  · exact hP.closeWith _ h
  · exact h

theorem SessionBlind.judgePull : JudgementKeeps P judgePull := by
  refine judged_keeps fun n s h => ?_
  split <;> exact h

theorem SessionBlind.judgeAck (hP : SessionBlind P) : JudgementKeeps P judgeAck := by
  refine judged_keeps fun seq s h => ?_
  split
  · exact h
  · exact hP.reports _ _ h

/-! ### The scheduler (chapter 04) -/

/-- A property that survives every change of the paths, and every change of the scheduler that keeps its views, its
rotation list and its hold, and enters no view into the request set. -/
structure SourceBlind (P : State → Prop) : Prop where
  wires : ∀ s x, P s → P (s.setWires x)
  sched : ∀ (s : State) (x : Scheduler), x.views = s.sched.views → x.rotation = s.sched.rotation →
    x.hold = s.sched.hold → (∀ q ∈ x.requests, ∃ q' ∈ s.sched.requests, q'.view = q.view) → P s → P (s.setSched x)

/-- The requests under a newly selected source are of the views they were of (R86, R89). -/
theorem view_of_mem_requestsUnder {now : Time} {c : SourceChoice} {rs : List Request} {q : Request}
    (hq : q ∈ requestsUnder now c rs) : ∃ q' ∈ rs, q'.view = q.view := by
  have hpaused : ∀ x, (pauseRequest now x).view = x.view := fun x => by unfold pauseRequest; split <;> rfl
  have hshown : ∀ o x, (showRequest now o x).view = x.view := fun o x => by unfold showRequest; split <;> rfl
  cases c
  case request q₀ =>
    simp only [requestsUnder, List.mem_map, exists_exists_and_eq_and] at hq
    obtain ⟨x, hx, rfl⟩ := hq
    exact ⟨x, hx, by rw [hshown, hpaused]⟩
  all_goals
    obtain ⟨x, hx, rfl⟩ := List.mem_map.mp hq
    exact ⟨x, hx, (hpaused x).symm⟩

/-- A change of the source, the copies or the minimum show alone. -/
theorem SourceBlind.schedOnly (hP : SourceBlind P) {s : State} {x : Scheduler} (hviews : x.views = s.sched.views)
    (hrotation : x.rotation = s.sched.rotation) (hhold : x.hold = s.sched.hold)
    (hrequests : x.requests = s.sched.requests) (h : P s) : P (s.setSched x) :=
  hP.sched s x hviews hrotation hhold (fun q hq => ⟨q, hrequests ▸ hq, rfl⟩) h

theorem SourceBlind.selectSource (hP : SourceBlind P) (c : SourceChoice) {s : State} (h : P s) :
    P (selectSource c s) :=
  hP.wires _ _ (hP.sched _ _ rfl rfl rfl (fun _ hq => view_of_mem_requestsUnder hq) h)

theorem SourceBlind.chooseSource (hP : SourceBlind P) {s : State} (h : P s) : P (chooseSource s) := by
  unfold Machine.chooseSource
  dsimp only
  split
  · exact h
  · exact hP.selectSource _ h

theorem SourceBlind.endRequest (hP : SourceBlind P) (q : Request) (o : RequestOutcome) {s : State} (h : P s) :
    P (endRequest q o s) :=
  hP.wires _ _ (hP.sched _ _ rfl rfl rfl (fun x hx => ⟨x, List.mem_of_mem_filter hx, rfl⟩) h)

theorem SourceBlind.endAndChoose (hP : SourceBlind P) (q : Request) (o : RequestOutcome) {s : State} (h : P s) :
    P (endAndChoose q o s) := by
  unfold Machine.endAndChoose
  split
  · exact hP.chooseSource (hP.endRequest q o h)
  · exact hP.endRequest q o h

theorem SourceBlind.expireDwell (hP : SourceBlind P) {s : State} (h : P s) : P (expireDwell s) := by
  unfold Machine.expireDwell
  split
  · exact h
  · split
    · exact h
    · split
      · exact hP.endAndChoose _ _ h
      · exact h

theorem SourceBlind.expireLifetime (hP : SourceBlind P) (o : Origin) {s : State} (h : P s) :
    P (expireLifetime o s) := by
  unfold Machine.expireLifetime
  split
  · exact h
  · split
    · exact hP.endAndChoose _ _ h
    · exact h

theorem SourceBlind.takeWithdrawal (hP : SourceBlind P) (o : Origin) {s : State} (h : P s) :
    P (takeWithdrawal o s) := by
  unfold Machine.takeWithdrawal
  split
  · exact h
  · exact hP.endAndChoose _ _ h

theorem SourceBlind.preempt (hP : SourceBlind P) {s : State} (h : P s) : P (preempt s) := by
  unfold Machine.preempt
  split
  · exact hP.chooseSource h
  · exact hP.schedOnly rfl rfl rfl rfl h

theorem SourceBlind.judgeEntry (hP : SourceBlind P) (o : Origin) {s : State} (h : P s) : P (judgeEntry o s) := by
  unfold Machine.judgeEntry
  split
  · exact h
  · exact hP.chooseSource h
  · exact hP.preempt h
  · split
    · exact hP.preempt h
    · exact h

theorem SourceBlind.elapseDeferral (hP : SourceBlind P) {s : State} (h : P s) : P (elapseDeferral s) := by
  have hdiscarded : P (s.setSched { s.sched with source := { s.sched.source with deferral := none } }) :=
    hP.schedOnly rfl rfl rfl rfl h
  unfold Machine.elapseDeferral
  dsimp only
  split
  · exact hP.chooseSource hdiscarded
  · split
    · exact hdiscarded
    · exact hP.chooseSource hdiscarded
  · exact hdiscarded

theorem SourceBlind.expireDeferral (hP : SourceBlind P) {s : State} (h : P s) : P (expireDeferral s) := by
  unfold Machine.expireDeferral
  split
  · exact hP.elapseDeferral h
  · exact h

theorem SourceBlind.advance (hP : SourceBlind P) {s : State} (h : P s) : P (advance s) :=
  hP.chooseSource (hP.schedOnly rfl rfl rfl rfl h)

theorem SourceBlind.expireRotation (hP : SourceBlind P) {s : State} (h : P s) : P (expireRotation s) := by
  unfold Machine.expireRotation
  split
  · exact hP.advance h
  · exact h

theorem SourceBlind.advanceUnshowable (hP : SourceBlind P) {s : State} (h : P s) : P (advanceUnshowable s) := by
  unfold Machine.advanceUnshowable
  split
  · exact h
  · exact hP.advance h

theorem SourceBlind.takeSchedNotice (hP : SourceBlind P) (c : CameraId) (n : CameraNotice) {s : State} (h : P s) :
    P (takeSchedNotice c n s) := by
  have hcopied : P (s.setSched { s.sched with camCopy := upd s.sched.camCopy c n.new }) :=
    hP.schedOnly rfl rfl rfl rfl h
  unfold Machine.takeSchedNotice
  dsimp only
  split
  · exact hP.advanceUnshowable hcopied
  · split
    · exact hP.chooseSource hcopied
    · exact hcopied
  · exact hcopied

theorem SourceBlind.setMinShow (hP : SourceBlind P) (m : Nat) {s : State} (h : P s) : P (setMinShow m s) := by
  have hwritten : P (s.setSched { s.sched with minShow := m }) := hP.schedOnly rfl rfl rfl rfl h
  unfold Machine.setMinShow
  dsimp only
  split
  · exact hwritten
  · split
    · exact hP.elapseDeferral hwritten
    · exact hP.schedOnly rfl rfl rfl rfl hwritten

theorem SourceBlind.execWithdrawal (hP : SourceBlind P) {s : State} (h : P s) :
    ∃ t, execWithdrawal s = .next t ∧ P t := by
  refine ⟨_, rfl, ?_⟩
  split
  · exact hP.takeWithdrawal _ (hP.wires _ _ h)
  · exact h

theorem SourceBlind.execCameraNoticeAtScheduler (hP : SourceBlind P) (c : CameraId) {s : State} (h : P s) :
    ∃ t, execCameraNoticeAtScheduler c s = .next t ∧ P t := by
  refine ⟨_, rfl, ?_⟩
  split
  · exact hP.takeSchedNotice _ _ (hP.wires _ _ h)
  · exact h

theorem SourceBlind.judgeWithdraw (hP : SourceBlind P) : JudgementKeeps P judgeWithdraw := by
  refine judged_keeps fun _ s h => ?_
  split
  · exact h
  · exact hP.takeWithdrawal _ h

/-! ### The rows of the host commands (R164) -/

/-- The row of a host command takes the command of its kind. -/
theorem exec_hostKind {i : Instr} {kind : Byte} (hi : hostKind i = some kind) (s : State) :
    ∃ test any, exec i s = .next (takeWhen test any (hostCommand kind).2 s) := by
  cases i <;> simp only [hostKind, Option.some.injEq, reduceCtorEq] at hi <;> subst hi <;> exact ⟨_, _, rfl⟩

/-- The row of a host command keeps a property that every judgement keeps. -/
theorem LinkBlind.exec_hostKind (hP : LinkBlind P) (hj : ∀ kind, JudgementKeeps P (hostCommand kind).2) {i : Instr}
    {kind : Byte} (hi : hostKind i = some kind) {s : State} (h : P s) : ∃ t, exec i s = .next t ∧ P t := by
  obtain ⟨test, any, hexec⟩ := Machine.exec_hostKind hi s
  exact ⟨_, hexec, hP.takeWhen (hj kind) test any h⟩

end Sys2Proof.Machine
end

section
/-! The laws on rule references and on the application of a restored profile (R68, R203, R204): the changes that keep
them, and the operations of the blocks as such changes. -/

namespace Sys2Proof.Machine

open Sys2Proof.Safety

/-! ### The two laws -/

/-- The law on rule references and the law on how far an application has come (R68, R204). -/
structure ReferencesHold (s : State) : Prop where
  references : ReferencesLaw s
  applying : ApplyingLaw s

/-- The references that a rule record makes stand in a state (R68). -/
structure ReferencesStand (cfg : RuleConfig) (s : State) : Prop where
  zones : ∀ z n, ⟨.zone z, n⟩ ∈ cfg.terms → (s.zoneEngine.table.get z).isSome
  inputs : ∀ l n, ⟨.line l, n⟩ ∈ cfg.terms → (s.lines.get l).mode = .input
  views : ∀ v a b c d, .showView v a b c d ∈ cfg.actions → (s.sched.views.get v).isSome
  outputs : ∀ l form, .line l form ∈ cfg.actions → (s.lines.get l).mode = .output

/-- The references of a defined rule stand. -/
theorem ReferencesHold.stand {s : State} (h : ReferencesHold s) {r : RuleId} {rule : Rule}
    (hr : s.ruleEngine.table.get r = some rule) : ReferencesStand rule.cfg s :=
  have href := h.references
  ⟨href.zones r rule hr, href.inputs r rule hr, href.views r rule hr, href.outputs r rule hr⟩

/-- The references of a record are those of its terms and actions. -/
theorem ReferencesStand.of_same {cfg cfg' : RuleConfig} {s : State} (h : ReferencesStand cfg s)
    (hterms : cfg'.terms = cfg.terms) (hactions : cfg'.actions = cfg.actions) : ReferencesStand cfg' s :=
  ⟨by rw [hterms]; exact h.zones, by rw [hterms]; exact h.inputs, by rw [hactions]; exact h.views,
    by rw [hactions]; exact h.outputs⟩

/-- The law from the references of every rule, and the views that the scheduler names (R68). -/
theorem referencesLaw_of_stand {s : State}
    (hrules : ∀ r rule, s.ruleEngine.table.get r = some rule → ReferencesStand rule.cfg s)
    (hrotation : ∀ e ∈ s.sched.rotation, (s.sched.views.get e.view).isSome)
    (hrequests : ∀ q ∈ s.sched.requests, (s.sched.views.get q.view).isSome)
    (hheld : ∀ v, s.sched.hold = some v → (s.sched.views.get v).isSome) : ReferencesLaw s where
  zones r rule hr := (hrules r rule hr).zones
  inputs r rule hr := (hrules r rule hr).inputs
  views r rule hr := (hrules r rule hr).views
  outputs r rule hr := (hrules r rule hr).outputs
  rotation := hrotation
  requests := hrequests
  held := hheld

/-- Without an application in progress the law on it holds (R204). -/
theorem applyingLaw_of_none {s : State} (happlying : s.store.applying = none) (hhanded : s.store.handed = [])
    (hnotices : s.store.notices = []) (htaken : s.store.taken = []) : ApplyingLaw s := by
  have hdone : ∀ part, ¬ partDone part s := fun part => by simp [partDone, hnotices, htaken]
  exact
    { idle := fun _ => ⟨hhanded, hnotices, htaken⟩
      restoring := by simp [happlying]
      profile := by simp [happlying]
      once := by simp [hhanded, hnotices, htaken]
      second := fun x _ hx => by simp [hhanded, hdone] at hx
      third := fun x _ hx => by simp [hhanded, hdone] at hx
      last := fun hx => by simp [hhanded, hdone] at hx
      zones := by simp [happlying]
      lines := by simp [happlying]
      schedule := by simp [happlying]
      between := fun hx => absurd hx (hdone _) }

/-- A change of a state without an application in progress leaves the law on it. -/
theorem ReferencesHold.applying_of_none {s t : State} (h : ReferencesHold s) (hnone : s.store.applying = none)
    (happlying : t.store.applying = none) (hhanded : t.store.handed = s.store.handed)
    (hnotices : t.store.notices = s.store.notices) (htaken : t.store.taken = s.store.taken) : ApplyingLaw t := by
  obtain ⟨hh, hn, ht⟩ := h.applying.idle hnone
  exact applyingLaw_of_none happlying (hhanded.trans hh) (hnotices.trans hn) (htaken.trans ht)

/-- While the store is not RESTORING no profile is applied (R204). -/
theorem ReferencesHold.applying_none {s : State} (h : ReferencesHold s) (hblock : s.store.block ≠ .restoring) :
    s.store.applying = none := by
  cases happlying : s.store.applying with
  | none => rfl
  | some p => exact absurd (h.applying.restoring (by rw [happlying]; rfl)) hblock

/-! ### Changes that keep what is named and what names it -/

/-- The two states define the same zones, give the lines the same modes, and hold the same schedule and store; every
rule of the second has the terms and actions of its entry in the first. -/
structure SameReferents (s t : State) : Prop where
  zones : ∀ z, (t.zoneEngine.table.get z).isSome = (s.zoneEngine.table.get z).isSome
  rules : ∀ r rule, t.ruleEngine.table.get r = some rule → ∃ old, s.ruleEngine.table.get r = some old ∧
    rule.cfg.terms = old.cfg.terms ∧ rule.cfg.actions = old.cfg.actions
  lines : ∀ l, (t.lines.get l).mode = (s.lines.get l).mode
  sched : t.sched = s.sched
  store : t.store = s.store

/-- A change beyond the zones, rules, lines, schedule and store. -/
theorem sameReferents_of_records_eq {s t : State} (hrecords : records t = records s) (hsched : t.sched = s.sched)
    (hstore : t.store = s.store) : SameReferents s t := by
  simp only [records, Prod.mk.injEq] at hrecords
  obtain ⟨hzones, hrules, hlines⟩ := hrecords
  exact ⟨fun _ => by rw [hzones], fun r rule hr => ⟨rule, hrules ▸ hr, rfl, rfl⟩, fun _ => by rw [hlines], hsched,
    hstore⟩

theorem SameReferents.rule_none {s t : State} (h : SameReferents s t) {r : RuleId}
    (hnone : s.ruleEngine.table.get r = none) : t.ruleEngine.table.get r = none := by
  cases hr : t.ruleEngine.table.get r with
  | none => rfl
  | some rule =>
    obtain ⟨old, hold, _⟩ := h.rules r rule hr
    cases hnone.symm.trans hold

theorem SameReferents.stand {s t : State} (h : SameReferents s t) {cfg : RuleConfig} (hstand : ReferencesStand cfg s) :
    ReferencesStand cfg t where
  zones z n hmem := (h.zones z).trans (hstand.zones z n hmem)
  inputs l n hmem := (h.lines l).trans (hstand.inputs l n hmem)
  views v a b c d hmem := by rw [h.sched]; exact hstand.views v a b c d hmem
  outputs l form hmem := (h.lines l).trans (hstand.outputs l form hmem)

theorem ReferencesHold.of_same {s t : State} (hs : ReferencesHold s) (h : SameReferents s t) : ReferencesHold t := by
  have hdone : ∀ part, partDone part t → partDone part s := fun part hpart => by rwa [partDone, h.store] at hpart
  refine ⟨referencesLaw_of_stand (fun r rule hr => ?_) ?_ ?_ ?_, ?_⟩
  · obtain ⟨old, hold, hterms, hactions⟩ := h.rules r rule hr
    exact (h.stand (hs.stand hold)).of_same hterms hactions
  · rw [h.sched]; exact hs.references.rotation
  · rw [h.sched]; exact hs.references.requests
  · rw [h.sched]; exact hs.references.held
  · have hs := hs.applying
    exact
      { idle := by rw [h.store]; exact hs.idle
        restoring := by rw [h.store]; exact hs.restoring
        profile := by rw [h.store]; exact hs.profile
        once := by rw [h.store]; exact hs.once
        second := by unfold partDone; rw [h.store]; exact hs.second
        third := by unfold partDone; rw [h.store]; exact hs.third
        last := by unfold partDone; rw [h.store]; exact hs.last
        zones := fun p hp hpart z => (h.zones z).trans (hs.zones p (h.store ▸ hp) (hdone _ hpart) z)
        lines := fun p hp hpart l => (h.lines l).trans (hs.lines p (h.store ▸ hp) (hdone _ hpart) l)
        schedule := fun p hp hpart => by rw [h.sched]; exact hs.schedule p (h.store ▸ hp) (hdone _ hpart)
        between := fun hremoved harmed r =>
          h.rule_none (hs.between (hdone _ hremoved) (fun hx => harmed (by rwa [partDone, h.store])) r) }

/-- No change of the cameras and the paths changes what is named and what names it. -/
theorem sameReferents_cameraBlind (s : State) : CameraBlind (SameReferents s) where
  cams _ _ h := ⟨h.zones, h.rules, h.lines, h.sched, h.store⟩
  wires _ _ h := ⟨h.zones, h.rules, h.lines, h.sched, h.store⟩
  fresh _ _ h := ⟨h.zones, h.rules, h.lines, h.sched, h.store⟩

theorem referencesHold_cameraBlind : CameraBlind ReferencesHold where
  cams _ _ h := h.of_same (sameReferents_of_records_eq rfl rfl rfl)
  wires _ _ h := h.of_same (sameReferents_of_records_eq rfl rfl rfl)
  fresh _ _ h := h.of_same (sameReferents_of_records_eq rfl rfl rfl)

theorem ReferencesHold.setWires {s : State} (h : ReferencesHold s) (x : Wires) : ReferencesHold (s.setWires x) :=
  referencesHold_cameraBlind.wires s x h

theorem referencesHold_headBlind : HeadBlind ReferencesHold where
  head _ _ h := h.of_same (sameReferents_of_records_eq rfl rfl rfl)
  wires _ x h := h.setWires x
  fresh _ _ h := h.of_same (sameReferents_of_records_eq rfl rfl rfl)

theorem referencesHold_compositorBlind : CompositorBlind ReferencesHold where
  comp _ _ h := h.of_same (sameReferents_of_records_eq rfl rfl rfl)
  wires _ x h := h.setWires x
  fresh _ _ h := h.of_same (sameReferents_of_records_eq rfl rfl rfl)

theorem referencesHold_sessionBlind : SessionBlind ReferencesHold where
  link _ _ h := h.of_same (sameReferents_of_records_eq rfl rfl rfl)
  reports _ _ h := h.of_same (sameReferents_of_records_eq rfl rfl rfl)
  wires _ x h := h.setWires x

/-! ### The schedule (chapter 04) -/

/-- A new schedule of the same views keeps the laws when the views it names are defined (R68). -/
theorem ReferencesHold.setSched {s : State} (h : ReferencesHold s) {x : Scheduler} (hviews : x.views = s.sched.views)
    (hrotation : ∀ e ∈ x.rotation, (s.sched.views.get e.view).isSome)
    (hrequests : ∀ q ∈ x.requests, (s.sched.views.get q.view).isSome)
    (hheld : ∀ v, x.hold = some v → (s.sched.views.get v).isSome) : ReferencesHold (s.setSched x) where
  references := referencesLaw_of_stand
    (fun r _ hr =>
      let hstand := h.stand (r := r) hr
      ⟨hstand.zones, hstand.inputs, hviews ▸ hstand.views, hstand.outputs⟩)
    (hviews ▸ hrotation) (hviews ▸ hrequests) (hviews ▸ hheld)
  applying := { h.applying with schedule := fun p hp hpart => hviews.trans (h.applying.schedule p hp hpart) }

theorem referencesHold_sourceBlind : SourceBlind ReferencesHold where
  wires _ x h := h.setWires x
  sched s x hviews hrotation hhold hrequests h := by
    refine h.setSched hviews (hrotation ▸ h.references.rotation) (fun q hq => ?_) (hhold ▸ h.references.held)
    obtain ⟨q', hq', hview⟩ := hrequests q hq
    exact hview ▸ h.references.requests q' hq'

/-- A request of a defined view enters the set (R85). -/
theorem referencesHold_enterRequest {q : ViewRequest} {s : State} (h : ReferencesHold s)
    (hdefined : (s.sched.views.get q.view).isSome) : ReferencesHold (enterRequest q s) := by
  refine h.setSched rfl h.references.rotation (fun x hx => ?_) h.references.held
  rcases List.mem_append.mp hx with hx | hx
  · exact h.references.requests x hx
  · rw [List.mem_singleton.mp hx]
    exact hdefined

theorem referencesHold_enterOver {old : Request} {o : RequestOutcome} {q : ViewRequest} {s : State}
    (h : ReferencesHold s) (hdefined : (s.sched.views.get q.view).isSome) : ReferencesHold (enterOver old o q s) := by
  have hentered : ReferencesHold (enterRequest q (endRequest old o s)) :=
    referencesHold_enterRequest (referencesHold_sourceBlind.endRequest old o h) hdefined
  unfold enterOver
  dsimp only
  split
  · exact referencesHold_sourceBlind.chooseSource hentered
  · exact referencesHold_sourceBlind.judgeEntry _ hentered

theorem referencesHold_takeRequest (q : ViewRequest) {s : State} (h : ReferencesHold s) :
    ReferencesHold (takeRequest q s).2 := by
  unfold takeRequest
  split
  · exact h.setWires _
  next hview =>
    have hdefined : (s.sched.views.get q.view).isSome := by
      simpa [Option.isSome_iff_ne_none] using hview
    split
    · exact referencesHold_enterOver h hdefined
    · split
      · exact referencesHold_sourceBlind.judgeEntry _ (referencesHold_enterRequest h hdefined)
      · split
        · split
          · exact referencesHold_enterOver h hdefined
          · exact h.setWires _
        · exact h

theorem referencesHold_setRotation {es : List RotationEntry} {s : State} (h : ReferencesHold s)
    (hdefined : ∀ e ∈ es, (s.sched.views.get e.view).isSome) : ReferencesHold (setRotation es s) := by
  have hwritten : ReferencesHold
      (s.setSched { s.sched with rotation := es, source := { s.sched.source with index := 0 } }) :=
    h.setSched rfl hdefined h.references.requests h.references.held
  unfold setRotation
  dsimp only
  split
  · exact referencesHold_sourceBlind.chooseSource hwritten
  · exact referencesHold_sourceBlind.chooseSource hwritten
  · exact hwritten

theorem referencesHold_setHold {v : ViewId} {s : State} (h : ReferencesHold s)
    (hdefined : (s.sched.views.get v).isSome) : ReferencesHold (setHold v s) := by
  have hheld : ReferencesHold (s.setSched { s.sched with hold := some v }) :=
    h.setSched rfl h.references.rotation h.references.requests fun _ heq => Option.some.inj heq ▸ hdefined
  unfold setHold
  split
  · exact h
  · exact referencesHold_sourceBlind.selectSource _ hheld

theorem referencesHold_releaseHold {s : State} (h : ReferencesHold s) : ReferencesHold (releaseHold s) := by
  unfold releaseHold
  split
  · exact h
  · exact referencesHold_sourceBlind.chooseSource
      (h.setSched rfl h.references.rotation h.references.requests (by simp))

/-! ### The view table (R77, R78) -/

theorem showsView_iff (cfg : RuleConfig) (v : ViewId) :
    showsView cfg v = true ↔ ∃ a b c d, .showView v a b c d ∈ cfg.actions := by
  simp only [showsView, List.any_eq_true]
  constructor
  · rintro ⟨a, hmem, ha⟩
    split at ha
    next w p d l x =>
      rw [beq_iff_eq] at ha
      exact ⟨p, d, l, x, ha ▸ hmem⟩
    · cases ha
  · rintro ⟨a, b, c, d, hmem⟩
    exact ⟨_, hmem, beq_self_eq_true v⟩

/-- A view is in use exactly when the rotation list, a SHOW action, a request or the hold names it (R78). -/
theorem viewInUse_iff (v : ViewId) (s : State) : viewInUse v s = true ↔
    (∃ e ∈ s.sched.rotation, e.view = v) ∨
    (∃ r rule, s.ruleEngine.table.get r = some rule ∧ ∃ a b c d, .showView v a b c d ∈ rule.cfg.actions) ∨
    (∃ q ∈ s.sched.requests, q.view = v) ∨ s.sched.hold = some v := by
  simp only [viewInUse, Bool.or_eq_true, List.any_eq_true, beq_iff_eq, anyRule_iff, showsView_iff, or_assoc]

/-- A view table that defines every view in use keeps the laws, while no profile is applied (R78). -/
theorem referencesHold_setViews {views : Vector (Option ViewConfig) 12} {s : State} (h : ReferencesHold s)
    (hnone : s.store.applying = none)
    (hdefined : ∀ v, viewInUse v s = true → (s.sched.views.get v).isSome → (views.get v).isSome) :
    ReferencesHold (s.setSched { s.sched with views := views }) := by
  have hnamed : ∀ v, (s.sched.views.get v).isSome → _ → (views.get v).isSome := fun v hsome huse =>
    hdefined v ((viewInUse_iff v s).mpr huse) hsome
  have href := h.references
  refine ⟨referencesLaw_of_stand (fun r rule hr => ?_) (fun e he => ?_) (fun q hq => ?_) (fun v hv => ?_),
    h.applying_of_none hnone hnone rfl rfl rfl⟩
  · have hstand := h.stand (r := r) hr
    exact ⟨hstand.zones, hstand.inputs, fun v a b c d hmem => hnamed v (hstand.views v a b c d hmem)
      (.inr (.inl ⟨r, rule, hr, a, b, c, d, hmem⟩)), hstand.outputs⟩
  · exact hnamed _ (href.rotation e he) (.inl ⟨e, he, rfl⟩)
  · exact hnamed _ (href.requests q hq) (.inr (.inr (.inl ⟨q, hq, rfl⟩)))
  · exact hnamed _ (href.held v hv) (.inr (.inr (.inr hv)))

theorem referencesHold_putView (v : ViewId) (cfg : ViewConfig) {s : State} (h : ReferencesHold s)
    (hnone : s.store.applying = none) : ReferencesHold (putView v cfg s) := by
  have hwritten : ReferencesHold (s.setSched { s.sched with views := upd s.sched.views v (some cfg) }) := by
    refine referencesHold_setViews h hnone fun w _ hsome => ?_
    rw [upd_get]
    split
    · rfl
    · exact hsome
  unfold putView
  dsimp only
  split
  · exact referencesHold_sourceBlind.advanceUnshowable hwritten
  · exact referencesHold_sourceBlind.chooseSource hwritten
  · exact hwritten

/-- A view that is not in use is dropped (R78). -/
theorem referencesHold_dropView {v : ViewId} {s : State} (h : ReferencesHold s) (hnone : s.store.applying = none)
    (hfree : ¬ viewInUse v s = true) :
    ReferencesHold (s.setSched { s.sched with views := upd s.sched.views v none }) := by
  refine referencesHold_setViews h hnone fun w huse hsome => ?_
  rw [upd_get_other _ _ _ _ fun heq : v = w => hfree (heq ▸ huse)]
  exact hsome

/-! ### Zones (chapter 02) -/

/-- A zone written where one is defined, or while no profile is applied, keeps the laws. -/
theorem referencesHold_setZone {z : ZoneId} {zone : Zone} {s : State} (h : ReferencesHold s)
    (hwhere : (s.zoneEngine.table.get z).isSome ∨ s.store.applying = none) :
    ReferencesHold (s.setZone z (some zone)) := by
  rcases hwhere with hdefined | hnone
  · refine h.of_same ⟨fun k => ?_, fun r rule hr => ⟨rule, hr, rfl, rfl⟩, fun _ => rfl, rfl, rfl⟩
    show ((upd s.zoneEngine.table z (some zone)).get k).isSome = _
    rw [upd_get]
    split
    next heq => rw [← heq, hdefined]; rfl
    · rfl
  · have href := h.references
    refine ⟨{ href with zones := fun r rule hr k n hmem => ?_ }, h.applying_of_none hnone hnone rfl rfl rfl⟩
    show ((upd s.zoneEngine.table z (some zone)).get k).isSome = true
    rw [upd_get]
    split
    · rfl
    · exact href.zones r rule hr k n hmem

theorem referencesHold_zoneTransition {z : ZoneId} {zone : Zone} {st : ZoneState} {cause : ZoneCause} {stamp : Time}
    {s : State} (h : ReferencesHold s) (hwhere : (s.zoneEngine.table.get z).isSome ∨ s.store.applying = none) :
    ReferencesHold (zoneTransition z zone st cause stamp s) := by
  have hwritten := referencesHold_setZone (zone := { zone with run := enterZoneState zone.run st cause stamp }) h hwhere
  unfold zoneTransition
  dsimp only
  split
  · exact (hwritten.setWires _).setWires _
  · exact hwritten.setWires _

theorem referencesHold_takeEntry (stamp : Time) (s : State) (entry : ZoneId × Nat) (h : ReferencesHold s) :
    ReferencesHold (takeEntry stamp s entry) := by
  unfold takeEntry
  split
  · exact h
  next zone hzone =>
    have hdefined : (s.zoneEngine.table.get entry.1).isSome ∨ s.store.applying = none := .inl (by rw [hzone]; rfl)
    dsimp only
    split
    · exact h
    · exact h
    · unfold learnField
      dsimp only
      split
      · exact referencesHold_zoneTransition h hdefined
      · exact referencesHold_setZone h hdefined
    · unfold quietField
      dsimp only
      split
      · exact referencesHold_zoneTransition h hdefined
      · exact referencesHold_setZone h hdefined
    · unfold activeField
      dsimp only
      split
      · exact referencesHold_zoneTransition h hdefined
      · split
        · exact referencesHold_zoneTransition h hdefined
        · exact referencesHold_setZone h hdefined

theorem referencesHold_noticeZone (n : CameraNotice) (c : CameraId) (s : State) (z : ZoneId) (h : ReferencesHold s) :
    ReferencesHold (noticeZone n c s z) := by
  unfold noticeZone
  split
  · exact h
  next zone hzone =>
    have hdefined : (s.zoneEngine.table.get z).isSome ∨ s.store.applying = none := .inl (by rw [hzone]; rfl)
    split
    · split
      · split
        · exact h
        · exact h
        · exact referencesHold_zoneTransition h hdefined
      · split
        · split
          · exact referencesHold_zoneTransition h hdefined
          · exact referencesHold_zoneTransition h hdefined
        · exact h
    · exact h

theorem referencesHold_takeZoneNotice (c : CameraId) (n : CameraNotice) {s : State} (h : ReferencesHold s) :
    ReferencesHold (takeZoneNotice c n s) :=
  foldl_keeps (referencesHold_noticeZone n c) _ _ (h.of_same (sameReferents_of_records_eq rfl rfl rfl))

/-- The discarding of a zone's entries and fields in progress (R16, R32). -/
theorem referencesHold_zonesGone (gone : ZoneId → Bool) {s : State} (h : ReferencesHold s) :
    ReferencesHold (disqualify gone (purgeSummaries gone s)) :=
  referencesHold_cameraBlind.cams _ _ (h.setWires _)

theorem referencesHold_putZone (z : ZoneId) (cfg : ZoneConfig) {s : State} (h : ReferencesHold s)
    (hnone : s.store.applying = none) : ReferencesHold (putZone z cfg s) := by
  have hgone := referencesHold_zonesGone (· == z) h
  unfold putZone
  split
  · split
    · exact referencesHold_zoneTransition h (.inr hnone)
    · exact referencesHold_setZone h (.inr hnone)
  · dsimp only
    split
    · exact referencesHold_setZone h (.inr hnone)
    · exact referencesHold_zoneTransition h (.inr hnone)
    · exact referencesHold_zoneTransition hgone (.inr hnone)
    · split
      · exact referencesHold_zoneTransition hgone (.inr hnone)
      · exact referencesHold_setZone h (.inr hnone)

/-- A zone that no rule names is dropped (R24). -/
theorem referencesHold_removeZone {z : ZoneId} {s : State} (h : ReferencesHold s) (hnone : s.store.applying = none)
    (hfree : ¬ anyRule s.ruleEngine.table (namesZone · z) = true) : ReferencesHold (s.setZone z none) := by
  have href := h.references
  refine ⟨{ href with zones := fun r rule hr k n hmem => ?_ }, h.applying_of_none hnone hnone rfl rfl rfl⟩
  have hother : z ≠ k := fun heq => hfree ((zoneInUse_iff _ z).mpr ⟨r, rule, n, hr, heq ▸ hmem⟩)
  show ((upd s.zoneEngine.table z none).get k).isSome = true
  rw [upd_get_other _ _ _ _ hother]
  exact href.zones r rule hr k n hmem

theorem referencesHold_dropZone {z : ZoneId} (zone : Zone) {s : State} (h : ReferencesHold s)
    (hnone : s.store.applying = none) (hfree : ¬ anyRule s.ruleEngine.table (namesZone · z) = true) :
    ReferencesHold (dropZone z zone s) := by
  have hgone := referencesHold_zonesGone (· == z) h
  unfold dropZone
  dsimp only
  split
  · exact referencesHold_removeZone hgone hnone hfree
  · have hmoved := referencesHold_zoneTransition (zone := zone) (st := .off) (cause := .disabled) (stamp := s.now) hgone
      (z := z) (.inr hnone)
    have hrules : ∀ t : State, (zoneTransition z zone .off .disabled s.now t).ruleEngine = t.ruleEngine ∧
        (zoneTransition z zone .off .disabled s.now t).store = t.store := fun t => by
      unfold zoneTransition
      dsimp only
      split <;> exact ⟨rfl, rfl⟩
    obtain ⟨hengine, hstore⟩ := hrules (disqualify (· == z) (purgeSummaries (· == z) s))
    exact referencesHold_removeZone hmoved (by rw [hstore]; exact hnone) (by rw [hengine]; exact hfree)

/-! ### Rules (chapter 03) -/

/-- What a rule sends makes no reference. -/
theorem ReferencesHold.sending {s : State} (h : ReferencesHold s) (x : Sent) : ReferencesHold (sending x s) :=
  h.setWires _

/-- A rule whose references stand is written where one is defined, or while no profile is applied (R68). -/
theorem referencesHold_setRule {r : RuleId} {rule : Rule} {s : State} (h : ReferencesHold s)
    (hstand : ReferencesStand rule.cfg s)
    (hwhere : (s.ruleEngine.table.get r).isSome ∨ s.store.applying = none) :
    ReferencesHold (s.setRule r (some rule)) := by
  have href := h.references
  refine ⟨referencesLaw_of_stand (fun k other hk => ?_) href.rotation href.requests href.held, ?_⟩
  · have hk : (upd s.ruleEngine.table r (some rule)).get k = some other := hk
    rw [upd_get] at hk
    have hother : ReferencesStand other.cfg s := by
      split at hk
      · exact Option.some.inj hk ▸ hstand
      · exact h.stand hk
    exact ⟨hother.zones, hother.inputs, hother.views, hother.outputs⟩
  · rcases hwhere with hdefined | hnone
    · refine { h.applying with between := fun hremoved harmed k => ?_ }
      have hnone := h.applying.between hremoved harmed r
      rw [hnone] at hdefined
      cases hdefined
    · exact h.applying_of_none hnone hnone rfl rfl rfl

/-- A rule that keeps its terms and actions is written in its place. -/
theorem referencesHold_setRule_same {r : RuleId} {old rule : Rule} {s : State} (h : ReferencesHold s)
    (hr : s.ruleEngine.table.get r = some old) (hterms : rule.cfg.terms = old.cfg.terms)
    (hactions : rule.cfg.actions = old.cfg.actions) : ReferencesHold (s.setRule r (some rule)) :=
  referencesHold_setRule h ((h.stand hr).of_same hterms hactions) (.inl (by rw [hr]; rfl))

theorem referencesHold_removeRule (r : RuleId) {s : State} (h : ReferencesHold s) :
    ReferencesHold (s.setRule r none) := by
  refine h.of_same ⟨fun _ => rfl, fun k rule hk => ?_, fun _ => rfl, rfl, rfl⟩
  have hk : (upd s.ruleEngine.table r none).get k = some rule := hk
  rw [upd_get] at hk
  split at hk
  · cases hk
  · exact ⟨rule, hk, rfl, rfl⟩

/-- Every rule meets a change of the term copies under its own record (R50). -/
theorem referencesHold_takeCopies {e' : RuleEngine} {s : State} (htable : e'.table = s.ruleEngine.table)
    (h : ReferencesHold s) : ReferencesHold (takeCopies e' s) := by
  rw [takeCopies_eq_rulesMeet htable]
  have htaken : ReferencesHold (s.setRules { e' with table := tableAfter s.ruleEngine e' s.now }) := by
    refine h.of_same ⟨fun _ => rfl, fun r rule hr => ?_, fun _ => rfl, rfl, rfl⟩
    have hr : (tableAfter s.ruleEngine e' s.now).get r = some rule := hr
    simp only [tableAfter, Vector.get_eq_getElem, Vector.getElem_map, Option.map_eq_some_iff] at hr
    obtain ⟨old, hold, rfl⟩ := hr
    exact ⟨old, hold, rfl, rfl⟩
  exact htaken.sending _

theorem referencesHold_expireStep (r : RuleId) {s : State} (h : ReferencesHold s) :
    ReferencesHold (expireStep r s) := by
  unfold expireStep
  split
  · exact h
  next rule hr =>
    split
    · exact referencesHold_setRule_same h hr rfl rfl
    · exact h

theorem referencesHold_expireCooldown (r : RuleId) {s : State} (h : ReferencesHold s) :
    ReferencesHold (expireCooldown r s) := by
  unfold expireCooldown
  split
  · exact h
  next rule hr =>
    split
    · rw [releaseRule_eq]
      exact referencesHold_setRule_same (h.sending _) hr rfl rfl
    · exact h

theorem referencesHold_armedAs {r : RuleId} {cfg : RuleConfig} {fires : Nat} {last : Option Time} {s : State}
    (h : ReferencesHold s) (hstand : ReferencesStand cfg s)
    (hwhere : (s.ruleEngine.table.get r).isSome ∨ s.store.applying = none) :
    ReferencesHold (armedAs r cfg fires last s) := by
  unfold armedAs
  split
  · exact (referencesHold_setRule h hstand hwhere).sending _
  · exact referencesHold_setRule h hstand hwhere

theorem referencesHold_setArmed {r : RuleId} {rule : Rule} (armed : Bool) {s : State} (h : ReferencesHold s)
    (hr : s.ruleEngine.table.get r = some rule) : ReferencesHold (setArmed r rule armed s) := by
  unfold setArmed
  split
  · split
    · exact h
    · rw [armRule_eq]
      exact referencesHold_armedAs h ((h.stand hr).of_same rfl rfl) (.inl (by rw [hr]; rfl))
  · rw [disarmRule_eq]
    have hdisarmed := referencesHold_setRule_same h hr
      (rule := ⟨{ rule.cfg with armed := false }, restingRun .disarmed rule.run.fireCount rule.run.lastFired⟩) rfl rfl
    exact hdisarmed.sending _

theorem referencesHold_dropRule (r : RuleId) (rule : Rule) {s : State} (h : ReferencesHold s) :
    ReferencesHold (dropRule r rule s) := by
  rw [dropRule_eq]
  exact (referencesHold_removeRule r h).sending _

/-- A record whose references stand is stored, while no profile is applied (R69). -/
theorem referencesHold_putRule {r : RuleId} {cfg : RuleConfig} {s : State} (h : ReferencesHold s)
    (hstand : ReferencesStand cfg s) (hnone : s.store.applying = none) : ReferencesHold (putRule r cfg s) := by
  cases hr : s.ruleEngine.table.get r with
  | none =>
    rw [putRule_of_undefined cfg hr]
    split
    · exact referencesHold_armedAs h hstand (.inr hnone)
    · exact referencesHold_setRule h hstand (.inr hnone)
  | some old =>
    have hstand' : ∀ x, ReferencesStand cfg (Safety.sending x s) := fun _ =>
      ⟨hstand.zones, hstand.inputs, hstand.views, hstand.outputs⟩
    rw [putRule_of_defined cfg hr]
    dsimp only
    split
    · exact referencesHold_armedAs (h.sending _) (hstand' _) (.inr hnone)
    · exact referencesHold_setRule (h.sending _) (hstand' _) (.inr hnone)

/-- A record passes PUT_RULE's reference tests exactly when its references stand; here the direction that the law needs
(R68). -/
theorem referencesStand_of_ruleReferences {s : State} {cfg : RuleConfig} (h : ruleReferences s cfg = none) :
    ReferencesStand cfg s := by
  rw [ruleReferences_eq_head?, List.head?_eq_none_iff, failedReferences, List.append_eq_nil_iff,
    List.filterMap_eq_nil_iff, List.filterMap_eq_nil_iff] at h
  obtain ⟨hterms, hactions⟩ := h
  refine ⟨fun z n hmem => ?_, fun l n hmem => ?_, fun v a b c d hmem => ?_, fun l form hmem => ?_⟩
  · simpa [termReference, Option.isSome_iff_ne_none] using hterms _ hmem
  · simpa [termReference] using hterms _ hmem
  · simpa [actionReference, Option.isSome_iff_ne_none] using hactions _ hmem
  · simpa [actionReference] using hactions _ hmem

/-! ### Contact lines (chapter 06) -/

/-- A line that keeps its mode is written (R127). -/
theorem referencesHold_setLine {l : LineId} {line : Line} {s : State} (h : ReferencesHold s)
    (hmode : line.mode = (s.lines.get l).mode) : ReferencesHold (s.setLine l line) := by
  refine h.of_same ⟨fun _ => rfl, fun r rule hr => ⟨rule, hr, rfl, rfl⟩, fun k => ?_, rfl, rfl⟩
  show ((upd s.lines l line).get k).mode = _
  rw [upd_get]
  split
  next heq => rw [hmode, heq]
  · rfl

theorem referencesHold_acceptChange (l : LineId) (stamp : Time) {s : State} (h : ReferencesHold s) :
    ReferencesHold (acceptChange l stamp s) := by
  have hset := referencesHold_setLine h (l := l) (line :=
    { s.lines.get l with accepted := otherState (s.lines.get l).accepted, pendingChange := none }) rfl
  exact (hset.setWires _).setWires _

theorem referencesHold_beginChange (l : LineId) {s : State} (h : ReferencesHold s) :
    ReferencesHold (beginChange l s) := by
  unfold beginChange
  dsimp only
  split
  · exact referencesHold_acceptChange l _ h
  · exact referencesHold_setLine h rfl

theorem referencesHold_takeLevelChange (l : LineId) {s : State} (h : ReferencesHold s) :
    ReferencesHold (takeLevelChange l s) := by
  unfold takeLevelChange
  dsimp only
  split
  · exact referencesHold_setLine h rfl
  · split
    · exact referencesHold_beginChange l h
    · exact h

theorem referencesHold_expireDebounce (l : LineId) {s : State} (h : ReferencesHold s) :
    ReferencesHold (expireDebounce l s) := by
  unfold expireDebounce
  split
  · split
    · exact referencesHold_acceptChange l _ h
    · exact h
  · exact h

@[simp] theorem reassert_mode (now : Time) (line : Line) : (reassert now line).mode = line.mode := by
  unfold reassert
  split <;> rfl

theorem referencesHold_claimLine (l : LineId) (r : RuleId) (present : Bool) {s : State} (h : ReferencesHold s) :
    ReferencesHold (claimLine l r present s) := by
  unfold claimLine
  dsimp only
  split
  · exact referencesHold_setLine h (reassert_mode ..)
  · exact h

theorem referencesHold_pulseLine (l : LineId) (steps : Nat) {s : State} (h : ReferencesHold s) :
    ReferencesHold (pulseLine l steps s) := by
  unfold pulseLine
  dsimp only
  split
  · exact referencesHold_setLine h (reassert_mode ..)
  · exact h

theorem referencesHold_expirePulse (l : LineId) {s : State} (h : ReferencesHold s) :
    ReferencesHold (expirePulse l s) := by
  unfold expirePulse
  dsimp only
  split
  · exact referencesHold_setLine h (reassert_mode ..)
  · exact h

/-- A write of a line's three fields gives it the record's mode (R128). -/
theorem lineWritten_mode (now : Time) (ext : Level) (cfg : LineConfig) (old : Line) :
    (lineWritten now ext cfg old).1.mode = cfg.mode := by
  have hjudged : ∀ line, (judgedAfresh now ext line).1.mode = line.mode := fun line => by
    unfold judgedAfresh
    split
    · rfl
    · split <;> rfl
  unfold lineWritten
  dsimp only
  split
  · split
    · rfl
    · exact hjudged _
  next hnew => exact hnew.symm ▸ rfl
  next hnew => exact hnew.symm ▸ rfl
  · exact hjudged _
  all_goals rfl

/-- A line write replaces one line and, beyond the lines, sends messages alone (R128, R131). -/
theorem writeLine_frame (l : LineId) (cfg : LineConfig) (s : State) : ∃ line x,
    line.mode = cfg.mode ∧ writeLine l cfg s = (s.setLine l line).setWires x := by
  rw [writeLine_eq]
  unfold lineWrites
  dsimp only
  have htold : ∀ (ts : List (LineState × LineState)) (u : State),
      ∃ x, ts.foldl (fun s t => lineTold ⟨l, t.1, t.2, s.now⟩ s) u = u.setWires x := by
    intro ts
    induction ts with
    | nil => exact fun u => ⟨u.wires, rfl⟩
    | cons t ts ih =>
      intro u
      obtain ⟨x, hx⟩ := ih (lineTold ⟨l, t.1, t.2, u.now⟩ u)
      exact ⟨x, hx⟩
  obtain ⟨x, hx⟩ := htold (lineWritten s.now (s.extPins.get l) cfg (s.lines.get l)).2
    (s.setLine l (lineWritten s.now (s.extPins.get l) cfg (s.lines.get l)).1)
  exact ⟨_, x, lineWritten_mode .., hx⟩

theorem namesLine_iff (cfg : RuleConfig) (l : LineId) : namesLine cfg l = true ↔ ∃ n, ⟨.line l, n⟩ ∈ cfg.terms := by
  simp only [namesLine, List.any_eq_true, beq_iff_eq]
  constructor
  · rintro ⟨⟨operand, negate⟩, hmem, rfl⟩
    exact ⟨negate, hmem⟩
  · rintro ⟨n, hmem⟩
    exact ⟨_, hmem, rfl⟩

theorem drivesLine_iff (cfg : RuleConfig) (l : LineId) :
    drivesLine cfg l = true ↔ ∃ form, .line l form ∈ cfg.actions := by
  simp only [drivesLine, List.any_eq_true]
  constructor
  · rintro ⟨a, hmem, ha⟩
    split at ha
    next k form =>
      rw [beq_iff_eq] at ha
      exact ⟨form, ha ▸ hmem⟩
    · cases ha
  · rintro ⟨form, hmem⟩
    exact ⟨_, hmem, beq_self_eq_true l⟩

/-- A mode does not break a reference exactly when each rule with a term on the line lets it be INPUT, and each with an
action on it OUTPUT (R127). -/
theorem lineInUse_eq_false_iff (l : LineId) (m : LineMode) (s : State) : lineInUse l m s = false ↔
    (∀ r rule n, s.ruleEngine.table.get r = some rule → ⟨.line l, n⟩ ∈ rule.cfg.terms → m = .input) ∧
    (∀ r rule form, s.ruleEngine.table.get r = some rule → .line l form ∈ rule.cfg.actions → m = .output) := by
  rw [← Bool.not_eq_true, lineInUse, Bool.or_eq_true, Bool.and_eq_true, Bool.and_eq_true, not_or, anyRule_iff,
    anyRule_iff]
  simp only [bne_iff_ne, namesLine_iff, drivesLine_iff, ne_eq, not_and, not_exists]
  constructor
  · rintro ⟨hterms, hactions⟩
    exact ⟨fun r rule n hr hmem => by_contra fun hm => hterms hm r rule hr n hmem,
      fun r rule form hr hmem => by_contra fun hm => hactions hm r rule hr form hmem⟩
  · rintro ⟨hterms, hactions⟩
    exact ⟨fun hm r rule hr n hmem => hm (hterms r rule n hr hmem),
      fun hm r rule hr form hmem => hm (hactions r rule form hr hmem)⟩

/-- A line write that breaks no reference keeps the laws, while no profile is applied (R127). -/
theorem referencesHold_writeLine {l : LineId} {cfg : LineConfig} {s : State} (h : ReferencesHold s)
    (hnone : s.store.applying = none) (hfree : lineInUse l cfg.mode s = false) :
    ReferencesHold (writeLine l cfg s) := by
  obtain ⟨line, x, hmode, hwritten⟩ := writeLine_frame l cfg s
  obtain ⟨hterms, hactions⟩ := (lineInUse_eq_false_iff l cfg.mode s).mp hfree
  rw [hwritten]
  have hget : ∀ k m, (l = k → cfg.mode = m) → (s.lines.get k).mode = m →
      ((s.setLine l line).lines.get k).mode = m := by
    intro k m hwrites hkeeps
    show ((upd s.lines l line).get k).mode = m
    rw [upd_get]
    split
    next heq => exact hmode.trans (hwrites heq)
    · exact hkeeps
  have href := h.references
  suffices hset : ReferencesHold (s.setLine l line) from hset.setWires x
  refine ⟨{ href with inputs := ?_, outputs := ?_ }, h.applying_of_none hnone hnone rfl rfl rfl⟩
  · exact fun r rule hr k n hmem =>
      hget k .input (fun heq => hterms r rule n hr (heq ▸ hmem)) (href.inputs r rule hr k n hmem)
  · exact fun r rule hr k form hmem =>
      hget k .output (fun heq => hactions r rule form hr (heq ▸ hmem)) (href.outputs r rule hr k form hmem)

end Sys2Proof.Machine
end

section
/-! The application of a restored profile, the operations of the profile store and the full reset, and the laws on rule
references and on the application (R68, R203, R204, R207). -/

namespace Sys2Proof.Machine

open Sys2Proof.Safety

/-! ### What the hand-out of parts tells (R204) -/

theorem partDone_partTaken (x part : Part) (u : State) : partDone x (partTaken part u) ↔ partDone x u ∨ x = part := by
  simp only [partDone, partTaken, State.setStore_store, List.mem_append, List.mem_singleton]
  tauto

/-- A block takes a part as one event that gives the store notice, or there is no such event. -/
theorem takePart_cases (part : Part) (f : Profile → State → State) (s : State) :
    takePart part f s = s ∨ ∃ p, Handed part p s ∧ takePart part f s = partTaken part (f p s) := by
  cases happlying : s.store.applying with
  | none => exact .inl (takePart_not (.inl happlying))
  | some p =>
    by_cases hmem : part ∈ s.store.handed
    · exact .inr ⟨p, ⟨happlying, hmem⟩, takePart_handed happlying hmem⟩
    · exact .inl (takePart_not (.inr hmem))

/-- A part that is handed has not been taken. -/
theorem not_partDone_of_handed {part : Part} {s : State} (h : ApplyingLaw s) (hmem : part ∈ s.store.handed) :
    ¬ partDone part s := by
  have honce := h.once
  rw [List.append_assoc, List.nodup_append] at honce
  obtain ⟨_, _, hdisjoint⟩ := honce
  rintro (hdone | hdone)
  · exact hdisjoint part hmem part (List.mem_append_left _ hdone) rfl
  · exact hdisjoint part hmem part (List.mem_append_right _ hdone) rfl

/-- The rule engine's first event is over and its second has not begun while zones, lines or schedule are handed: there
is no rule (R204). -/
theorem rules_none_of_handed {part : Part} {s : State} (h : ApplyingLaw s) (hmem : part ∈ s.store.handed)
    (hpart : part = .zones ∨ part = .lines ∨ part = .schedule) (r : RuleId) : s.ruleEngine.table.get r = none := by
  have hfresh := not_partDone_of_handed h hmem
  have hearlier : part = .schedule → Part.zones ∈ s.store.taken := fun hschedule =>
    (h.third .schedule (by decide) (.inl (hschedule ▸ hmem))).1
  have hremoved : Part.rulesRemove ∈ s.store.taken := by
    rcases hpart with rfl | rfl | rfl
    · exact h.second _ (by decide) (.inl hmem)
    · exact h.second _ (by decide) (.inl hmem)
    · exact h.second .zones (by decide) (.inr (.inr (hearlier rfl)))
  refine h.between (.inr hremoved) (fun harmed => hfresh ?_) r
  have hschedule : partDone .schedule s := .inr (h.last (.inr harmed))
  obtain ⟨hzones, hlines⟩ := h.third .schedule (by decide) (.inr hschedule)
  rcases hpart with rfl | rfl | rfl
  · exact .inr hzones
  · exact .inr hlines
  · exact hschedule

/-- A part goes over from the handed ones to the notices. -/
theorem handedOver_perm {part : Part} {handed notices : List Part} (hmem : part ∈ handed) :
    (handed.erase part ++ (notices ++ [part])).Perm (handed ++ notices) := by
  rw [← List.append_assoc]
  exact (List.perm_append_singleton part _).trans ((List.perm_cons_erase hmem).symm.append_right notices)

/-- The law on the application after a part, from what the block that took it now holds (R204). -/
theorem applyingLaw_partTaken {part : Part} {p : Profile} {s u : State} (h : ApplyingLaw s)
    (hhanded : Handed part p s) (hstore : u.store = s.store)
    (hzones : ∀ z, (u.zoneEngine.table.get z).isSome =
      if part = .zones then (p.zones.get z).isSome else (s.zoneEngine.table.get z).isSome)
    (hlines : ∀ l, (u.lines.get l).mode = if part = .lines then (p.lines.get l).mode else (s.lines.get l).mode)
    (hviews : u.sched.views = if part = .schedule then p.views else s.sched.views)
    (hrules : part ≠ .rulesArm → ∀ r, (part = .rulesRemove ∨ s.ruleEngine.table.get r = none) →
      u.ruleEngine.table.get r = none) : ApplyingLaw (partTaken part u) := by
  obtain ⟨happlying, hmem⟩ := hhanded
  have hu : ∀ x, partDone x u ↔ partDone x s := fun x => by simp only [partDone, hstore]
  have hdone : ∀ x, partDone x (partTaken part u) ↔ partDone x s ∨ x = part := fun x => by
    rw [partDone_partTaken, hu]
  have hprofile : ∀ {q}, u.store.applying = some q → q = p := fun hq =>
    Option.some.inj ((hstore ▸ hq).symm.trans happlying)
  have hknown : ∀ {x}, x ∈ (partTaken part u).store.handed ∨ partDone x (partTaken part u) →
      x ∈ s.store.handed ∨ partDone x s := by
    rintro x (hx | hx)
    · have hx : x ∈ u.store.handed.erase part := hx
      exact .inl (hstore ▸ List.mem_of_mem_erase hx)
    · rcases (hdone x).mp hx with hx | rfl
      · exact .inr hx
      · exact .inl hmem
  have htaken : (partTaken part u).store.taken = s.store.taken := by rw [← hstore]; rfl
  refine
    { idle := fun hx => ?_
      restoring := fun _ => ?_
      profile := fun q hq => hprofile hq ▸ h.profile p happlying
      once := ?_
      second := fun x hx hmem => htaken ▸ h.second x hx (hknown hmem)
      third := fun x hx hmem => htaken ▸ h.third x hx (hknown hmem)
      last := fun hmem => htaken ▸ h.last (hknown hmem)
      zones := fun q hq hx z => ?_
      lines := fun q hq hx l => ?_
      schedule := fun q hq hx => ?_
      between := fun hremoved harmed r => ?_ }
  · have hx : u.store.applying = none := hx
    rw [hstore, happlying] at hx
    cases hx
  · show u.store.block = .restoring
    rw [hstore]
    exact h.restoring (by rw [happlying]; rfl)
  · show (u.store.handed.erase part ++ (u.store.notices ++ [part]) ++ u.store.taken).Nodup
    rw [hstore]
    exact ((handedOver_perm hmem).append_right _).nodup_iff.mpr h.once
  · obtain rfl := hprofile hq
    refine (hzones z).trans ?_
    split
    · rfl
    next hne => exact h.zones q happlying (((hdone _).mp hx).resolve_right fun heq => hne heq.symm) z
  · obtain rfl := hprofile hq
    refine (hlines l).trans ?_
    split
    · rfl
    next hne => exact h.lines q happlying (((hdone _).mp hx).resolve_right fun heq => hne heq.symm) l
  · obtain rfl := hprofile hq
    refine hviews.trans ?_
    split
    · rfl
    next hne => exact h.schedule q happlying (((hdone _).mp hx).resolve_right fun heq => hne heq.symm)
  · have hne : part ≠ .rulesArm := fun heq => harmed ((hdone _).mpr (.inr heq.symm))
    refine hrules hne r ?_
    rcases (hdone _).mp hremoved with hremoved | heq
    · exact .inr (h.between hremoved (fun hx => harmed ((hdone _).mpr (.inl hx))) r)
    · exact .inl heq.symm

/-- A block that takes a part keeps the laws when what it then holds does, and is what the profile gives it. -/
theorem referencesHold_partTaken {part : Part} {p : Profile} {s u : State} (h : ReferencesHold s)
    (hhanded : Handed part p s) (hu : ReferencesLaw u) (hstore : u.store = s.store)
    (hzones : ∀ z, (u.zoneEngine.table.get z).isSome =
      if part = .zones then (p.zones.get z).isSome else (s.zoneEngine.table.get z).isSome)
    (hlines : ∀ l, (u.lines.get l).mode = if part = .lines then (p.lines.get l).mode else (s.lines.get l).mode)
    (hviews : u.sched.views = if part = .schedule then p.views else s.sched.views)
    (hrules : part ≠ .rulesArm → ∀ r, (part = .rulesRemove ∨ s.ruleEngine.table.get r = none) →
      u.ruleEngine.table.get r = none) : ReferencesHold (partTaken part u) where
  references := { hu with }
  applying := applyingLaw_partTaken h.applying hhanded hstore hzones hlines hviews hrules

/-! ### The blocks' parts (R44, R74, R102, R135, R204) -/

/-- A part that neither names nor is named: a camera, the filter, the head link's settings. -/
theorem referencesHold_takePart_same {part : Part} {f : Profile → State → State} {s : State} (h : ReferencesHold s)
    (hpart : part = .filter ∨ part = .headLink ∨ ∃ c, part = .camera c)
    (hsame : ∀ p, SameReferents s (f p s)) : ReferencesHold (takePart part f s) := by
  rcases takePart_cases part f s with heq | ⟨p, hhanded, heq⟩ <;> rw [heq]
  · exact h
  have hother : part ≠ .zones ∧ part ≠ .lines ∧ part ≠ .schedule ∧ part ≠ .rulesRemove := by
    rcases hpart with rfl | rfl | ⟨c, rfl⟩ <;> simp
  obtain ⟨hnotZones, hnotLines, hnotSchedule, hnotRemove⟩ := hother
  have hsame := hsame p
  refine referencesHold_partTaken h hhanded (h.of_same hsame).references hsame.store (fun z => ?_) (fun l => ?_) ?_
    fun _ r hr => ?_
  · rw [if_neg hnotZones, hsame.zones]
  · rw [if_neg hnotLines, hsame.lines]
  · rw [if_neg hnotSchedule, hsame.sched]
  · exact hsame.rule_none (hr.resolve_left hnotRemove)

/-- The law where there is no rule: the views alone are named. -/
theorem referencesLaw_of_no_rule {s : State} (hnone : ∀ r, s.ruleEngine.table.get r = none)
    (hrotation : ∀ e ∈ s.sched.rotation, (s.sched.views.get e.view).isSome)
    (hrequests : ∀ q ∈ s.sched.requests, (s.sched.views.get q.view).isSome)
    (hheld : ∀ v, s.sched.hold = some v → (s.sched.views.get v).isSome) : ReferencesLaw s :=
  referencesLaw_of_stand (fun r rule hr => by rw [hnone r] at hr; cases hr) hrotation hrequests hheld

/-- The restored zones (R44): there is no rule that could name one. -/
theorem referencesHold_takeZonesPart {s : State} (h : ReferencesHold s) :
    ReferencesHold (takePart .zones restoreZones s) := by
  rcases takePart_cases .zones restoreZones s with heq | ⟨p, hhanded, heq⟩ <;> rw [heq]
  · exact h
  have hnone := rules_none_of_handed h.applying hhanded.2 (.inl rfl)
  have href := h.references
  exact referencesHold_partTaken h hhanded
    (referencesLaw_of_no_rule hnone href.rotation href.requests href.held) rfl
    (fun z => by rw [restoreZones_get, Option.isSome_map, if_pos rfl]) (fun _ => rfl) rfl fun _ r _ => hnone r

/-- The restored lines have the profile's modes, and beyond the lines messages alone are sent (R135). -/
theorem restoreLines_frame (p : Profile) (ls : List LineId) : ∀ s : State, ∃ x w,
    ls.foldl (fun s l => writeLine l (p.lines.get l) s) s = (s.setLines x).setWires w ∧
      ∀ l, (x.get l).mode = if l ∈ ls then (p.lines.get l).mode else (s.lines.get l).mode := by
  induction ls with
  | nil => exact fun s => ⟨s.lines, s.wires, rfl, fun l => by simp⟩
  | cons k ls ih =>
    intro s
    obtain ⟨line, w, hmode, hwritten⟩ := writeLine_frame k (p.lines.get k) s
    obtain ⟨x, w', hfold, hmodes⟩ := ih ((s.setLine k line).setWires w)
    refine ⟨x, w', ?_, fun l => ?_⟩
    · rw [List.foldl_cons, hwritten, hfold]
      rfl
    · have hwrite : (((s.setLine k line).setWires w).lines.get l).mode =
          if k = l then (p.lines.get k).mode else (s.lines.get l).mode := by
        show ((upd s.lines k line).get l).mode = _
        rw [upd_get]
        split
        · exact hmode
        · rfl
      rw [hmodes, hwrite]
      by_cases hl : l ∈ ls
      · simp [hl]
      · by_cases hk : k = l
        · simp [hk]
        · simp [hl, hk, Ne.symm hk]

/-- The restored lines (R135): there is no rule that could name one. -/
theorem referencesHold_takeLinesPart {s : State} (h : ReferencesHold s) :
    ReferencesHold (takePart .lines restoreLines s) := by
  rcases takePart_cases .lines restoreLines s with heq | ⟨p, hhanded, heq⟩ <;> rw [heq]
  · exact h
  have hnone := rules_none_of_handed h.applying hhanded.2 (.inr (.inl rfl))
  have href := h.references
  obtain ⟨x, w, hfold, hmodes⟩ := restoreLines_frame p (allIds 8) s
  rw [restoreLines, hfold]
  exact referencesHold_partTaken h hhanded
    (referencesLaw_of_no_rule hnone href.rotation href.requests href.held) rfl (fun _ => rfl)
    (fun l => (hmodes l).trans (by simp [allIds])) rfl fun _ r _ => hnone r

/-- Requests end one by one, each gone from the set, and beyond the scheduler messages alone are sent (R102). -/
theorem endRequests_frame (qs : List Request) : ∀ s : State, ∃ x w,
    qs.foldl (fun s q => endRequest q .restored s) s = (s.setSched x).setWires w ∧
      ∀ q ∈ x.requests, q ∈ s.sched.requests ∧ q ∉ qs := by
  induction qs with
  | nil => exact fun s => ⟨s.sched, s.wires, rfl, fun q hq => ⟨hq, List.not_mem_nil⟩⟩
  | cons k qs ih =>
    intro s
    obtain ⟨x, w, hfold, hleft⟩ := ih (endRequest k .restored s)
    refine ⟨x, w, hfold, fun q hq => ?_⟩
    obtain ⟨hmem, hnot⟩ := hleft q hq
    have hmem : q ∈ s.sched.requests.filter fun x => x.origin != k.origin := hmem
    obtain ⟨hmem, hne⟩ := List.mem_filter.mp hmem
    refine ⟨hmem, fun hq => ?_⟩
    rcases List.mem_cons.mp hq with rfl | hq
    · simp at hne
    · exact hnot hq

/-- The state with the profile's views and rotation in the scheduler, nothing requested and nothing held (R102). -/
def HoldsSchedule (p : Profile) (s t : State) : Prop :=
  ∃ x w, t = (s.setSched x).setWires w ∧ x.views = p.views ∧ x.rotation = p.rotation ∧ x.hold = none ∧
    x.requests = []

theorem holdsSchedule_sourceBlind (p : Profile) (s : State) : SourceBlind (HoldsSchedule p s) where
  wires t w' h := by
    obtain ⟨x, w, rfl, hx⟩ := h
    exact ⟨x, w', rfl, hx⟩
  sched t y hviews hrotation hhold hrequests h := by
    obtain ⟨x, w, rfl, hx⟩ := h
    obtain ⟨hxviews, hxrotation, hxhold, hxrequests⟩ := hx
    refine ⟨y, w, rfl, hviews.trans hxviews, hrotation.trans hxrotation, hhold.trans hxhold, ?_⟩
    refine List.eq_nil_iff_forall_not_mem.mpr fun q hq => ?_
    obtain ⟨q', hq', _⟩ := hrequests q hq
    have hq' : q' ∈ x.requests := hq'
    rw [hxrequests] at hq'
    exact List.not_mem_nil hq'

/-- The restored schedule (R102). -/
theorem restoreSchedule_holds (p : Profile) (s : State) : HoldsSchedule p s (restoreSchedule p s) := by
  obtain ⟨x, w, hfold, hleft⟩ := endRequests_frame s.sched.requests
    (s.setSched { s.sched with source := { s.sched.source with deferral := none } })
  have hempty : x.requests = [] :=
    List.eq_nil_iff_forall_not_mem.mpr fun q hq => (hleft q hq).2 (hleft q hq).1
  unfold restoreSchedule
  dsimp only
  rw [hfold]
  refine (holdsSchedule_sourceBlind p s).chooseSource ⟨_, w, rfl, rfl, rfl, rfl, hempty⟩

/-- The restored schedule (R102): nothing is requested or held, and there is no rule. -/
theorem referencesHold_takeSchedulePart {s : State} (h : ReferencesHold s) :
    ReferencesHold (takePart .schedule restoreSchedule s) := by
  rcases takePart_cases .schedule restoreSchedule s with heq | ⟨p, hhanded, heq⟩ <;> rw [heq]
  · exact h
  have hnone := rules_none_of_handed h.applying hhanded.2 (.inr (.inr rfl))
  have hprofile := h.applying.profile p hhanded.1
  obtain ⟨x, w, hheld, hviews, hrotation, hhold, hrequests⟩ := restoreSchedule_holds p s
  rw [hheld]
  refine referencesHold_partTaken h hhanded (referencesLaw_of_no_rule hnone ?_ ?_ ?_) rfl (fun _ => rfl)
    (fun _ => rfl) hviews fun _ r _ => hnone r
  · show ∀ e ∈ x.rotation, (x.views.get e.view).isSome
    rw [hrotation, hviews]
    exact hprofile.rotation
  · show ∀ q ∈ x.requests, _
    rw [hrequests]
    exact fun q hq => absurd hq List.not_mem_nil
  · show ∀ v, x.hold = some v → _
    rw [hhold]
    exact fun v hv => nomatch hv

/-- The rule engine's first event: every rule goes (R74). -/
theorem referencesHold_takeRemovePart {s : State} (h : ReferencesHold s) :
    ReferencesHold (takePart .rulesRemove (fun _ => removeRules) s) := by
  rcases takePart_cases .rulesRemove (fun _ => removeRules) s with heq | ⟨p, hhanded, heq⟩ <;> rw [heq]
  · exact h
  have href := h.references
  rw [removeRules_eq fun _ _ => rfl]
  have hnone : ∀ r : RuleId, (Vector.replicate 24 (none : Option Rule)).get r = none := fun r => by
    simp [Vector.get_eq_getElem]
  exact referencesHold_partTaken h hhanded
    (referencesLaw_of_no_rule hnone href.rotation href.requests href.held) rfl (fun _ => rfl) (fun _ => rfl) rfl
    fun _ r _ => hnone r

/-- A profile's rule stands in a state that holds what the profile gives the zones, the lines and the schedule. -/
theorem referencesStand_of_profileLaw {p : Profile} {s : State} (hp : ProfileLaw p)
    (hzones : ∀ z, (s.zoneEngine.table.get z).isSome = (p.zones.get z).isSome)
    (hlines : ∀ l, (s.lines.get l).mode = (p.lines.get l).mode) (hviews : s.sched.views = p.views) {r : RuleId}
    {cfg : RuleConfig} (hr : p.rules.get r = some cfg) : ReferencesStand cfg s where
  zones z n hmem := (hzones z).trans (hp.zones r cfg hr z n hmem)
  inputs l n hmem := (hlines l).trans (hp.inputs r cfg hr l n hmem)
  views v a b c d hmem := hviews ▸ hp.views r cfg hr v a b c d hmem
  outputs l form hmem := (hlines l).trans (hp.outputs r cfg hr l form hmem)

/-- The rule engine's second event: the restored rules find the restored zones, lines and views (R74, R204). -/
theorem referencesHold_takeArmPart {s : State} (h : ReferencesHold s) :
    ReferencesHold (takePart .rulesArm restoreRules s) := by
  rcases takePart_cases .rulesArm restoreRules s with heq | ⟨p, hhanded, heq⟩ <;> rw [heq]
  · exact h
  have href := h.references
  have hlaw := h.applying
  obtain ⟨happlying, hmem⟩ := hhanded
  have hschedule : partDone .schedule s := .inr (hlaw.last (.inl hmem))
  obtain ⟨hzones, hlines⟩ := hlaw.third .schedule (by decide) (.inr hschedule)
  rw [restoreRules_eq fun _ _ => rfl]
  refine referencesHold_partTaken h ⟨happlying, hmem⟩
    (referencesLaw_of_stand (fun r rule hr => ?_) href.rotation href.requests href.held) rfl (fun _ => rfl)
    (fun _ => rfl) rfl fun hne => absurd rfl hne
  have hr : (p.rules.map (Option.map (restoredRule s.ruleEngine s.now))).get r = some rule := hr
  simp only [Vector.get_eq_getElem, Vector.getElem_map, Option.map_eq_some_iff] at hr
  obtain ⟨cfg, hcfg, rfl⟩ := hr
  have hstand : ReferencesStand cfg s := referencesStand_of_profileLaw (hlaw.profile p happlying)
    (hlaw.zones p happlying (.inr hzones)) (hlaw.lines p happlying (.inr hlines))
    (hlaw.schedule p happlying hschedule) hcfg
  exact ⟨hstand.zones, hstand.inputs, hstand.views, hstand.outputs⟩

end Sys2Proof.Machine
end

section
/-! The operations of the profile store and the full reset, and the laws on rule references and on the application (R68,
R199–R207). -/

namespace Sys2Proof.Machine

open Sys2Proof.Safety

/-! ### The checks of a slot (R203) -/

theorem tableGood_iff {α : Type} {n : Nat} (f : Fin n → α → Bool) (v : Vector (Option α) n) :
    tableGood f v = true ↔ ∀ i x, v.get i = some x → f i x = true := by
  simp only [tableGood, allIds, List.all_eq_true, List.mem_finRange, true_implies]
  refine forall_congr' fun i => ?_
  cases v.get i with
  | none => simp [entryGood]
  | some x => simp [entryGood]

/-- A profile that passes the checks of R203 keeps the law on references within itself. -/
theorem profileLaw_of_referencesGood {p : Profile} (h : referencesGood p = true) : ProfileLaw p := by
  simp only [referencesGood, Bool.and_eq_true, tableGood_iff, List.all_eq_true] at h
  obtain ⟨hrules, hrotation⟩ := h
  exact
    { zones := fun r cfg hr z n hmem => (hrules r cfg hr).1 _ hmem
      inputs := fun r cfg hr l n hmem => eq_of_beq ((hrules r cfg hr).1 _ hmem)
      views := fun r cfg hr v a b c d hmem => (hrules r cfg hr).2 _ hmem
      outputs := fun r cfg hr l form hmem => eq_of_beq ((hrules r cfg hr).2 _ hmem)
      rotation := hrotation }

theorem profileLaw_of_checkedProfile {slot : Slot} {p : Profile} (h : checkedProfile slot = some p) : ProfileLaw p := by
  unfold checkedProfile at h
  split at h
  · obtain ⟨_, hgood⟩ := Option.filter_eq_some_iff.mp h
    rw [Bool.and_eq_true] at hgood
    exact profileLaw_of_referencesGood hgood.2
  · cases h

/-! ### The operations of the store (R199–R205) -/

/-- An operation ends: no profile is applied any more (R204). -/
theorem referencesHold_endOperation {x : ProfileStore} {r : Report} {s : State} (h : ReferencesHold s) :
    ReferencesHold (endOperation x r s) where
  references := { h.references with }
  applying := applyingLaw_of_none rfl rfl rfl rfl

/-- The store changes without an application in progress. -/
theorem referencesHold_setStore {x : ProfileStore} {s : State} (h : ReferencesHold s)
    (hnone : s.store.applying = none) (happlying : x.applying = none) (hhanded : x.handed = s.store.handed)
    (hnotices : x.notices = s.store.notices) (htaken : x.taken = s.store.taken) : ReferencesHold (s.setStore x) where
  references := { h.references with }
  applying := h.applying_of_none hnone happlying hhanded hnotices htaken

/-- The parts that a notice lets the store hand on (R204). -/
theorem mem_nextParts {taken : List Part} {p x : Part} : x ∈ nextParts taken p ↔
    (p = .rulesRemove ∧ x ∈ secondParts) ∨ (p = .zones ∧ .lines ∈ taken ∧ x ∈ thirdParts) ∨
    (p = .lines ∧ .zones ∈ taken ∧ x ∈ thirdParts) ∨ (p = .schedule ∧ x = .rulesArm) := by
  cases p <;> simp [nextParts]

/-- The store hands the second step's parts on at the first event's notice, the third step's when zones and lines are
taken, and the last one at the schedule's notice (R204). -/
theorem nextParts_nodup (taken : List Part) (p : Part) : (nextParts taken p).Nodup := by
  have hsecond : secondParts.Nodup := by decide
  have hthird : thirdParts.Nodup := by decide
  unfold nextParts
  split
  · exact hsecond
  · split
    · exact hthird
    · exact List.nodup_nil
  · split
    · exact hthird
    · exact List.nodup_nil
  · exact List.nodup_singleton _
  · exact List.nodup_nil

/-- A part whose notice is on its way is not among those whose notices are taken. -/
theorem not_mem_taken_of_notice {p : Part} {s : State} (h : ApplyingLaw s) (hmem : p ∈ s.store.notices) :
    p ∉ s.store.taken := by
  have honce := h.once
  rw [List.nodup_append] at honce
  obtain ⟨_, _, hdisjoint⟩ := honce
  exact fun htaken => hdisjoint p (List.mem_append_right _ hmem) p htaken rfl

/-- What a notice lets the store hand on has not been handed before (R204). -/
theorem nextParts_fresh {p x : Part} {s : State} (h : ApplyingLaw s) (hmem : p ∈ s.store.notices)
    (hnext : x ∈ nextParts s.store.taken p) : ¬ (x ∈ s.store.handed ∨ partDone x s) := by
  have hnot := not_mem_taken_of_notice h hmem
  intro hknown
  rcases mem_nextParts.mp hnext with ⟨rfl, hx⟩ | ⟨rfl, _, hx⟩ | ⟨rfl, _, hx⟩ | ⟨rfl, rfl⟩
  · exact hnot (h.second x hx hknown)
  · exact hnot (h.third x hx hknown).1
  · exact hnot (h.third x hx hknown).2
  · exact hnot (h.last hknown)

/-- The parts of the second step are none of the later steps' (R204). -/
theorem of_mem_secondParts : ∀ x ∈ secondParts, x ∉ thirdParts ∧ x ≠ .rulesArm := by decide

theorem rulesArm_not_mem_thirdParts : Part.rulesArm ∉ thirdParts := by decide

/-- The store with the notice of a part taken and the next parts handed on (R204). -/
def noticeTaken (p : Part) (s : State) : State :=
  s.setStore { s.store with
    notices := s.store.notices.erase p, taken := p :: s.store.taken
    handed := s.store.handed ++ nextParts s.store.taken p }

theorem takePartNotice_cases (p : Part) (s : State) : takePartNotice p s = s ∨
    (s.store.applying.isSome ∧ p ∈ s.store.notices) ∧
      (takePartNotice p s = noticeTaken p s ∨ ∃ x r, takePartNotice p s = endOperation x r s) := by
  unfold takePartNotice
  split
  next hguard =>
    dsimp only
    split
    · exact .inr ⟨hguard, .inr ⟨_, _, rfl⟩⟩
    · exact .inr ⟨hguard, .inl rfl⟩
  · exact .inl rfl

theorem partDone_noticeTaken {p x : Part} {s : State} (hmem : p ∈ s.store.notices) :
    partDone x (noticeTaken p s) ↔ partDone x s := by
  show x ∈ s.store.notices.erase p ∨ x ∈ p :: s.store.taken ↔ x ∈ s.store.notices ∨ x ∈ s.store.taken
  constructor
  · rintro (hx | hx)
    · exact .inl (List.mem_of_mem_erase hx)
    · rcases List.mem_cons.mp hx with rfl | hx
      · exact .inl hmem
      · exact .inr hx
  · rintro (hx | hx)
    · by_cases heq : x = p
      · exact .inr (heq ▸ List.mem_cons_self)
      · exact .inl ((List.mem_erase_of_ne heq).mpr hx)
    · exact .inr (List.mem_cons_of_mem _ hx)

theorem noticeTaken_once {p : Part} {s : State} (h : ApplyingLaw s) (hmem : p ∈ s.store.notices) :
    ((s.store.handed ++ nextParts s.store.taken p) ++ s.store.notices.erase p ++ (p :: s.store.taken)).Nodup := by
  have hperm : ((s.store.handed ++ nextParts s.store.taken p) ++ s.store.notices.erase p ++ (p :: s.store.taken)).Perm
      (nextParts s.store.taken p ++ (s.store.handed ++ s.store.notices ++ s.store.taken)) := by
    refine List.perm_iff_count.mpr fun x => ?_
    have hcount := List.perm_iff_count.mp (List.perm_cons_erase hmem) x
    simp only [List.count_append, List.count_cons] at hcount ⊢
    omega
  rw [hperm.nodup_iff, List.nodup_append]
  refine ⟨nextParts_nodup _ _, h.once, fun x hx y hy heq => nextParts_fresh h hmem hx ?_⟩
  subst heq
  simpa [partDone, or_assoc] using hy

/-- The law on the application after the notice of a part (R204). -/
theorem applyingLaw_noticeTaken {p : Part} {s : State} (h : ApplyingLaw s) (happlying : s.store.applying.isSome)
    (hmem : p ∈ s.store.notices) : ApplyingLaw (noticeTaken p s) := by
  have hdone : ∀ x, partDone x (noticeTaken p s) ↔ partDone x s := fun x => partDone_noticeTaken hmem
  have hknown : ∀ x, x ∈ (noticeTaken p s).store.handed ∨ partDone x (noticeTaken p s) →
      x ∈ nextParts s.store.taken p ∨ x ∈ s.store.handed ∨ partDone x s := fun x hx => by
    rcases hx with hx | hx
    · rcases List.mem_append.mp hx with hx | hx
      · exact .inr (.inl hx)
      · exact .inl hx
    · exact .inr (.inr ((hdone x).mp hx))
  have hlater : ∀ {x}, x ∈ s.store.taken → x ∈ (noticeTaken p s).store.taken := fun hx => List.mem_cons_of_mem _ hx
  have hnow : p ∈ (noticeTaken p s).store.taken := List.mem_cons_self
  exact
    { idle := fun hx => by
        have hx : s.store.applying = none := hx
        rw [hx] at happlying
        cases happlying
      restoring := h.restoring
      profile := h.profile
      once := noticeTaken_once h hmem
      second := fun x hx hxmem => by
        obtain ⟨hnotThird, hnotArm⟩ := of_mem_secondParts x hx
        rcases hknown x hxmem with hnext | hold
        · rcases mem_nextParts.mp hnext with ⟨rfl, _⟩ | ⟨_, _, hx⟩ | ⟨_, _, hx⟩ | ⟨_, hx⟩
          · exact hnow
          · exact absurd hx hnotThird
          · exact absurd hx hnotThird
          · exact absurd hx hnotArm
        · exact hlater (h.second x hx hold)
      third := fun x hx hxmem => by
        rcases hknown x hxmem with hnext | hold
        · rcases mem_nextParts.mp hnext with ⟨_, hsecond⟩ | ⟨rfl, hlines, _⟩ | ⟨rfl, hzones, _⟩ | ⟨_, rfl⟩
          · exact absurd hx (of_mem_secondParts x hsecond).1
          · exact ⟨hnow, hlater hlines⟩
          · exact ⟨hlater hzones, hnow⟩
          · exact absurd hx rulesArm_not_mem_thirdParts
        · exact (h.third x hx hold).imp hlater hlater
      last := fun hxmem => by
        rcases hknown _ hxmem with hnext | hold
        · rcases mem_nextParts.mp hnext with ⟨_, hx⟩ | ⟨_, _, hx⟩ | ⟨_, _, hx⟩ | ⟨rfl, _⟩
          · exact absurd rfl (of_mem_secondParts _ hx).2
          · exact absurd hx rulesArm_not_mem_thirdParts
          · exact absurd hx rulesArm_not_mem_thirdParts
          · exact hnow
        · exact hlater (h.last hold)
      zones := fun q hq hx => h.zones q hq ((hdone _).mp hx)
      lines := fun q hq hx => h.lines q hq ((hdone _).mp hx)
      schedule := fun q hq hx => h.schedule q hq ((hdone _).mp hx)
      between := fun hremoved harmed =>
        h.between ((hdone _).mp hremoved) fun hx => harmed ((hdone _).mpr hx) }

theorem referencesHold_takePartNotice (p : Part) {s : State} (h : ReferencesHold s) :
    ReferencesHold (takePartNotice p s) := by
  rcases takePartNotice_cases p s with heq | ⟨⟨happlying, hmem⟩, heq | ⟨x, r, heq⟩⟩ <;> rw [heq]
  · exact h
  · exact ⟨{ h.references with }, applyingLaw_noticeTaken h.applying happlying hmem⟩
  · exact referencesHold_endOperation h

/-- The read of a restore: the rule engine's first part is handed, nothing is taken yet (R204). -/
theorem referencesHold_completeRead (readGood : Bool) {s : State} (h : ReferencesHold s) :
    ReferencesHold (completeRead readGood s) := by
  unfold completeRead
  split
  next id hblock hnone hslot =>
    split
    next p hread =>
      have hprofile : ProfileLaw p := by
        split at hread
        · exact profileLaw_of_checkedProfile hread
        · cases hread
      obtain ⟨_, hnotices, htaken⟩ := h.applying.idle hnone
      have hdone : ∀ x, ¬ partDone x s := fun x => by simp [partDone, hnotices, htaken]
      have hfirst : ∀ {x : Part}, x ≠ .rulesRemove → ¬ (x ∈ [Part.rulesRemove] ∨ partDone x s) := fun hne hx =>
        hx.elim (fun hmem => hne (List.mem_singleton.mp hmem)) (hdone _)
      refine ⟨{ h.references with }, ?_⟩
      exact
        { idle := fun hx => nomatch hx
          restoring := fun _ => hblock
          profile := fun q hq => Option.some.inj hq ▸ hprofile
          once := by
            show ([Part.rulesRemove] ++ s.store.notices ++ s.store.taken).Nodup
            rw [hnotices, htaken]
            exact List.nodup_singleton _
          second := fun x hx hmem => absurd hmem (hfirst fun heq => absurd (heq ▸ hx) (by decide))
          third := fun x hx hmem => absurd hmem (hfirst fun heq => absurd (heq ▸ hx) (by decide))
          last := fun hmem => absurd hmem (hfirst (by decide))
          zones := fun _ _ hx => absurd hx (hdone _)
          lines := fun _ _ hx => absurd hx (hdone _)
          schedule := fun _ _ hx => absurd hx (hdone _)
          between := fun hx => absurd hx (hdone _) }
    · exact referencesHold_endOperation h
  · exact h

theorem referencesHold_takeCommit {s : State} (h : ReferencesHold s) (hidle : s.store.block = .idle) :
    ReferencesHold (takeCommit s) := by
  have hnone := h.applying_none (by rw [hidle]; decide)
  unfold takeCommit
  split
  · unfold beginCommit putSlot
    cases commitTarget s.store <;> exact referencesHold_setStore h hnone hnone rfl rfl rfl
  · exact referencesHold_endOperation h

theorem referencesHold_completeWrite (stored : Option SlotImage) {s : State} (h : ReferencesHold s) :
    ReferencesHold (completeWrite stored s) := by
  unfold completeWrite
  split
  next id p _ _ _ =>
    unfold putSlot
    cases id <;> exact ⟨{ h.references with }, { h.applying with }⟩
  · exact h

theorem referencesHold_completeVerify (readGood : Bool) {s : State} (h : ReferencesHold s) :
    ReferencesHold (completeVerify readGood s) := by
  unfold completeVerify
  split
  · split
    · exact ⟨{ h.references with }, { h.applying with }⟩
    · exact referencesHold_endOperation h
  · exact h

theorem referencesHold_completeGeneration (readBack afterErase : Word32) {s : State} (h : ReferencesHold s) :
    ReferencesHold (completeGeneration readBack afterErase s) := by
  unfold completeGeneration
  split
  · dsimp only
    split
    · exact referencesHold_endOperation h
    · exact referencesHold_endOperation h
  · exact h

theorem referencesHold_completeErase (readA readB : Word32) {s : State} (h : ReferencesHold s) :
    ReferencesHold (completeErase readA readB s) := by
  unfold completeErase
  split
  · exact referencesHold_endOperation h
  · exact h

/-! ### The full reset (R206, R207) -/

theorem profileLaw_factoryProfile : ProfileLaw factoryProfile := by
  have hnone : ∀ r cfg, factoryProfile.rules.get r ≠ some cfg := fun r cfg => by
    simp [factoryProfile, Vector.get_eq_getElem]
  exact
    { zones := fun r cfg hr => absurd hr (hnone r cfg)
      inputs := fun r cfg hr => absurd hr (hnone r cfg)
      views := fun r cfg hr => absurd hr (hnone r cfg)
      outputs := fun r cfg hr => absurd hr (hnone r cfg)
      rotation := by decide }

/-- The profile loaded at start-up keeps the law on references within itself (R206). -/
theorem profileLaw_loadedProfile (s3 : Level) (x : ProfileStore) : ProfileLaw (loadedProfile (chosenSlot s3 x)) := by
  have husable : ∀ {id c}, usable x id = some c → ProfileLaw c.2 := by
    intro id c hc
    unfold usable at hc
    split at hc
    · obtain ⟨p, hp, rfl⟩ := Option.map_eq_some_iff.mp hc
      exact profileLaw_of_checkedProfile hp
    · cases hc
  unfold loadedProfile
  split
  next id p hchosen =>
    unfold chosenSlot at hchosen
    split at hchosen
    · rcases Option.or_eq_some_iff.mp hchosen with hfound | ⟨_, hfound⟩
      · exact husable hfound
      · exact husable hfound
    · cases hchosen
  · exact profileLaw_factoryProfile

/-- Every block starts from the one loaded profile (R207). -/
theorem referencesHold_startBlocks (straps : Straps) (rate : HostRate) (std : Standard) (s : State) :
    ReferencesHold (startBlocks straps rate std s) := by
  have hp := profileLaw_loadedProfile straps.s3 (rebuiltStore s.store)
  refine ⟨referencesLaw_of_stand (fun r rule hr => ?_) hp.rotation (fun q hq => nomatch hq) (fun v hv => nomatch hv),
    applyingLaw_of_none rfl rfl rfl rfl⟩
  simp only [startBlocks, startRules, Vector.get_eq_getElem, Vector.getElem_map, Option.map_eq_some_iff] at hr
  obtain ⟨cfg, hcfg, rfl⟩ := hr
  refine referencesStand_of_profileLaw hp (fun z => ?_) (fun l => ?_) rfl hcfg
  · simp [startBlocks, startZones, Vector.get_eq_getElem]
  · simp [startBlocks, startLine, Vector.get_eq_getElem]

theorem referencesHold_fullReset (straps : Straps) (rate : HostRate) (std : Standard) (s : State) :
    ReferencesHold (fullReset straps rate std s) := by
  refine foldl_keeps (fun s l h => ?_) _ _ (referencesHold_startBlocks straps rate std s)
  unfold startPin judgePin
  split
  · split
    · exact referencesHold_beginChange l h
    · exact h
  · exact h

end Sys2Proof.Machine
end

section
/-! O57: every command keeps the laws on rule references and on the application of a restored profile, by what each host
command's judgement and each row does to them. -/

namespace Sys2Proof.Machine

open Sys2Proof.Safety

/-! ### The judgements of the host commands -/

/-- A configuration command is applied only while no profile is applied: otherwise it is BUSY (R174, R176, R204). -/
theorem configuration_keeps_referencesHold {α : Type} {parse : List Byte → Except Turndown α}
    {ap : α → State → Answer × State}
    (h : ∀ x s, ReferencesHold s → s.store.applying = none → ReferencesHold (ap x s).2) :
    JudgementKeeps ReferencesHold (configuration (judged parse ap)) := by
  intro p s hs
  unfold configuration
  split
  · exact hs
  next hfree =>
    have hblock : s.store.block ≠ .restoring := fun heq => hfree (by rw [heq]; rfl)
    unfold judged
    split
    · exact h _ s hs (hs.applying_none hblock)
    · exact hs

theorem judgeSetClass_keeps_referencesHold : JudgementKeeps ReferencesHold judgeSetClass :=
  configuration_keeps_referencesHold fun _ _ h _ =>
    h.of_same ⟨fun _ => rfl, fun _ rule hr => ⟨rule, hr, rfl, rfl⟩, fun _ => rfl, rfl, rfl⟩

theorem judgeDropZone_keeps_referencesHold : JudgementKeeps ReferencesHold judgeDropZone := by
  refine configuration_keeps_referencesHold fun z s h hnone => ?_
  split
  · exact h
  · split
    · exact h
    next hfree => exact referencesHold_dropZone _ h hnone hfree

theorem judgeRelearnZone_keeps_referencesHold : JudgementKeeps ReferencesHold judgeRelearnZone := by
  refine judged_keeps fun z s h => ?_
  split
  · exact h
  next zone hz =>
    split
    · have hpurged : ReferencesHold (purgeSummaries (· == z) s) := h.setWires _
      have hdefined : (s.zoneEngine.table.get z).isSome := by rw [hz]; rfl
      exact referencesHold_zoneTransition hpurged (.inl hdefined)
    · exact h

theorem judgeGetZone_keeps_referencesHold : JudgementKeeps ReferencesHold judgeGetZone := by
  refine judged_keeps fun z s h => ?_
  split <;> exact h

theorem judgePutRule_keeps_referencesHold : JudgementKeeps ReferencesHold judgePutRule := by
  refine configuration_keeps_referencesHold fun x s h hnone => ?_
  dsimp only
  split
  · exact h
  next hstands => exact referencesHold_putRule h (referencesStand_of_ruleReferences hstands) hnone

/-- A command on a defined rule keeps the laws when its effect on that rule does. -/
theorem onRule_keeps_referencesHold {r : RuleId} {f : Rule → State → Answer × State} {s : State}
    (h : ReferencesHold s) (hf : ∀ rule, s.ruleEngine.table.get r = some rule → ReferencesHold (f rule s).2) :
    ReferencesHold (onRule r f s).2 := by
  unfold onRule
  split
  · exact h
  next rule hr => exact hf rule hr

theorem judgeDropRule_keeps_referencesHold : JudgementKeeps ReferencesHold judgeDropRule :=
  configuration_keeps_referencesHold fun _ _ h _ => onRule_keeps_referencesHold h fun rule _ =>
    referencesHold_dropRule _ rule h

theorem judgeArmRule_keeps_referencesHold : JudgementKeeps ReferencesHold judgeArmRule :=
  configuration_keeps_referencesHold fun _ _ h _ => onRule_keeps_referencesHold h fun _ hr =>
    referencesHold_setArmed _ h hr

theorem judgeGetRule_keeps_referencesHold : JudgementKeeps ReferencesHold judgeGetRule :=
  judged_keeps fun _ _ h => onRule_keeps_referencesHold h fun _ _ => h

theorem judgeDropView_keeps_referencesHold : JudgementKeeps ReferencesHold judgeDropView := by
  refine configuration_keeps_referencesHold fun v s h hnone => ?_
  split
  · exact h
  · split
    · exact h
    next hfree => exact referencesHold_dropView h hnone hfree

theorem judgeSetRotation_keeps_referencesHold : JudgementKeeps ReferencesHold judgeSetRotation := by
  refine configuration_keeps_referencesHold fun es s h _ => ?_
  split
  · exact h
  next hdefined =>
    refine referencesHold_setRotation h fun e he => ?_
    simp only [List.any_eq_true, not_exists, not_and, Option.isNone_iff_eq_none] at hdefined
    exact Option.isSome_iff_ne_none.mpr (hdefined e he)

theorem judgeShowView_keeps_referencesHold : JudgementKeeps ReferencesHold judgeShowView := by
  refine judged_keeps fun q s h => ?_
  have htaken := referencesHold_takeRequest q h
  split
  · exact h
  · split
    next heq => exact (congrArg Prod.snd heq) ▸ htaken
    next heq => exact (congrArg Prod.snd heq) ▸ htaken

theorem judgeHold_keeps_referencesHold : JudgementKeeps ReferencesHold judgeHold := by
  refine judged_keeps fun v s h => ?_
  split
  · exact h
  next hdefined => exact referencesHold_setHold h (by simpa [Option.isSome_iff_ne_none] using hdefined)

theorem judgeSetLine_keeps_referencesHold : JudgementKeeps ReferencesHold judgeSetLine := by
  refine configuration_keeps_referencesHold fun x s h hnone => ?_
  dsimp only
  split
  · exact h
  next hfree => exact referencesHold_writeLine h hnone (Bool.eq_false_iff.mpr hfree)

theorem judgeDriveLine_keeps_referencesHold : JudgementKeeps ReferencesHold judgeDriveLine :=
  judged_keeps fun _ _ h => referencesHold_setLine h (reassert_mode ..)

theorem judgeCommit_keeps_referencesHold : JudgementKeeps ReferencesHold judgeCommit := by
  refine judged_keeps fun _ s h => ?_
  split
  next hidle => exact referencesHold_takeCommit h hidle
  · exact h

theorem judgeRestore_keeps_referencesHold : JudgementKeeps ReferencesHold judgeRestore := by
  refine judged_keeps fun selector s h => ?_
  split
  next hidle =>
    have hnone := h.applying_none (by rw [hidle]; decide)
    split
    · exact referencesHold_setStore h hnone hnone rfl rfl rfl
    · exact h
  · exact h

theorem judgeErase_keeps_referencesHold : JudgementKeeps ReferencesHold judgeErase := by
  refine judged_keeps fun _ s h => ?_
  split
  next hidle =>
    have hnone := h.applying_none (by rw [hidle]; decide)
    exact referencesHold_setStore h hnone hnone rfl rfl rfl
  · exact h

/-- The judgement of every kind of host command keeps the laws. -/
theorem hostCommand_keeps_referencesHold (kind : Byte) : JudgementKeeps ReferencesHold (hostCommand kind).2 := by
  have hlink := referencesHold_sessionBlind
  have hcamera := referencesHold_cameraBlind
  have hsource := referencesHold_sourceBlind
  have hhead := referencesHold_headBlind
  unfold hostCommand
  split
  · exact query_keeps
  · exact judged_keeps fun q _ h => hlink.openSession q h
  · exact judged_keeps fun _ _ h => hlink.closeLink h
  · exact query_keeps
  · exact query_keeps
  · exact judged_keeps fun _ _ h => hlink.link _ _ h
  · exact query_keeps
  · exact configuration_keeps (judged_keeps fun x _ h => hcamera.writeCamera .notice x.1 x.2 h)
  · exact query_keeps
  · exact judgeSetClass_keeps_referencesHold
  · exact query_keeps
  · exact configuration_keeps_referencesHold fun x _ h hnone => referencesHold_putZone x.1 x.2 h hnone
  · exact judgeDropZone_keeps_referencesHold
  · exact judgeRelearnZone_keeps_referencesHold
  · exact judgeGetZone_keeps_referencesHold
  · exact judgePutRule_keeps_referencesHold
  · exact judgeDropRule_keeps_referencesHold
  · exact judgeArmRule_keeps_referencesHold
  · exact judgeGetRule_keeps_referencesHold
  · exact configuration_keeps_referencesHold fun x _ h hnone => referencesHold_putView x.1 x.2 h hnone
  · exact judgeDropView_keeps_referencesHold
  · exact judgeSetRotation_keeps_referencesHold
  · exact configuration_keeps (judged_keeps fun m _ h => hsource.setMinShow m h)
  · exact judgeShowView_keeps_referencesHold
  · exact hsource.judgeWithdraw
  · exact judgeHold_keeps_referencesHold
  · exact judged_keeps fun _ _ h => referencesHold_releaseHold h
  · exact query_keeps
  · exact configuration_keeps (judged_keeps fun _ _ h => hlink.reports _ _ h)
  · exact SessionBlind.judgePull
  · exact hlink.judgeAck
  · exact judgeSetLine_keeps_referencesHold
  · exact judgeDriveLine_keeps_referencesHold
  · exact query_keeps
  · exact configuration_keeps (judged_keeps fun _ _ h => hhead.head _ _ h)
  · exact hhead.judgeRelay
  · exact hhead.judgeCancelRelay
  · exact query_keeps
  · exact judgeCommit_keeps_referencesHold
  · exact judgeRestore_keeps_referencesHold
  · exact judgeErase_keeps_referencesHold
  · exact query_keeps
  · exact fun _ _ h => h

/-! ### The rows that take a message, and the store's part of a restore -/

theorem referencesHold_execFieldSummary (c : CameraId) {s : State} (h : ReferencesHold s) :
    ∃ t, execFieldSummary c s = .next t ∧ ReferencesHold t := by
  refine ⟨_, rfl, ?_⟩
  split
  · exact foldl_keeps (referencesHold_takeEntry _) _ _ (h.setWires _)
  · exact h

theorem referencesHold_execCameraNoticeAtZones (c : CameraId) {s : State} (h : ReferencesHold s) :
    ∃ t, execCameraNoticeAtZones c s = .next t ∧ ReferencesHold t := by
  have hdropped : ReferencesHold (dropCameraMessage c s) := h.setWires _
  refine ⟨_, rfl, ?_⟩
  split
  · exact referencesHold_takeZoneNotice c _ hdropped
  · split
    · exact referencesHold_takeZoneNotice c _ hdropped
    · exact h
  · exact h

theorem referencesHold_execZoneTransition {s : State} (h : ReferencesHold s) :
    ∃ t, execZoneTransition s = .next t ∧ ReferencesHold t := by
  refine ⟨_, rfl, ?_⟩
  split
  · exact referencesHold_takeCopies (s := dropZoneMessage s) rfl (h.setWires _)
  · exact h

theorem referencesHold_execLineTransition (l : LineId) {s : State} (h : ReferencesHold s) :
    ∃ t, execLineTransition l s = .next t ∧ ReferencesHold t := by
  refine ⟨_, rfl, ?_⟩
  split
  · exact referencesHold_takeCopies (s := dropLineMessage l s) rfl (h.setWires _)
  · exact h

theorem referencesHold_execRestartNotice {s : State} (h : ReferencesHold s) :
    ∃ t, execRestartNotice s = .next t ∧ ReferencesHold t := by
  refine ⟨_, rfl, ?_⟩
  split
  · exact h.of_same (sameReferents_of_records_eq rfl rfl rfl)
  · exact h

theorem referencesHold_execRestoreRulesArm {s : State} (h : ReferencesHold s) :
    ∃ t, execRestoreRulesArm s = .next t ∧ ReferencesHold t := by
  refine ⟨_, rfl, ?_⟩
  split
  · exact h
  · exact referencesHold_takeArmPart h

theorem referencesHold_execViewRequest {s : State} (h : ReferencesHold s) :
    ∃ t, execViewRequest s = .next t ∧ ReferencesHold t := by
  refine ⟨_, rfl, ?_⟩
  split
  · exact referencesHold_takeRequest _ (h.setWires _)
  · exact h

theorem referencesHold_execPinLevelChange (l : LineId) {s : State} (h : ReferencesHold s) :
    ∃ t, execPinLevelChange l s = .next t ∧ ReferencesHold t := by
  have hpin : ReferencesHold (s.setExtPins (upd s.extPins l (otherLevel (s.extPins.get l)))) :=
    h.of_same (sameReferents_of_records_eq rfl rfl rfl)
  refine ⟨_, rfl, ?_⟩
  dsimp only
  split
  · exact referencesHold_takeLevelChange l hpin
  · exact hpin

theorem referencesHold_execLatchClaim {s : State} (h : ReferencesHold s) :
    ∃ t, execLatchClaim s = .next t ∧ ReferencesHold t := by
  refine ⟨_, rfl, ?_⟩
  split
  · exact referencesHold_claimLine _ _ _ (h.setWires _)
  · exact h

theorem referencesHold_execLatchDrop {s : State} (h : ReferencesHold s) :
    ∃ t, execLatchDrop s = .next t ∧ ReferencesHold t := by
  refine ⟨_, rfl, ?_⟩
  split
  · exact referencesHold_claimLine _ _ _ (h.setWires _)
  · exact h

theorem referencesHold_execPulseClaim {s : State} (h : ReferencesHold s) :
    ∃ t, execPulseClaim s = .next t ∧ ReferencesHold t := by
  refine ⟨_, rfl, ?_⟩
  split
  · exact referencesHold_pulseLine _ _ (h.setWires _)
  · exact h

/-! ### Every command -/

/-- Every command answers a state in which the laws hold with one in which they hold. -/
theorem referencesHold_exec (i : Instr) {s : State} (h : ReferencesHold s) :
    ∃ t, exec i s = .next t ∧ ReferencesHold t := by
  have hlink := referencesHold_sessionBlind
  have hcamera := referencesHold_cameraBlind
  have hsource := referencesHold_sourceBlind
  have hhead := referencesHold_headBlind
  have hcomp := referencesHold_compositorBlind
  have hcommand : ∀ {i kind}, hostKind i = some kind → ∃ t, exec i s = .next t ∧ ReferencesHold t := fun hi =>
    hlink.toLinkBlind.exec_hostKind hostCommand_keeps_referencesHold hi h
  match i with
  | .powerOn _ => exact ⟨_, rfl, referencesHold_fullReset _ _ _ _⟩
  | .resetLine _ => exact ⟨_, rfl, referencesHold_fullReset _ _ _ _⟩
  | .timeBaseTick => exact ⟨_, rfl, h.of_same (sameReferents_of_records_eq rfl rfl rfl)⟩
  | .fieldEnd c f => exact ⟨_, rfl, hcamera.takeFieldEnd c f h⟩
  | .runDeadlineExpiry c => exact ⟨_, rfl, hcamera.expireRun c h⟩
  | .lossDeadlineExpiry c => exact ⟨_, rfl, hcamera.expireLoss c h⟩
  | .lostDeadlineExpiry c => exact ⟨_, rfl, hcamera.expireLost c h⟩
  | .firstActiveLine c => exact ⟨_, rfl, hcamera.takeFirstLine c h⟩
  | .fieldSummary c => exact referencesHold_execFieldSummary c h
  | .cameraNoticeAtZones c => exact referencesHold_execCameraNoticeAtZones c h
  | .zoneTransition => exact referencesHold_execZoneTransition h
  | .lineTransition l => exact referencesHold_execLineTransition l h
  | .restartNotice => exact referencesHold_execRestartNotice h
  | .stepDeadlineExpiry r => exact ⟨_, rfl, referencesHold_expireStep r h⟩
  | .cooldownDeadlineExpiry r => exact ⟨_, rfl, referencesHold_expireCooldown r h⟩
  | .viewRequest => exact referencesHold_execViewRequest h
  | .withdrawal => exact hsource.execWithdrawal h
  | .cameraNoticeAtScheduler c => exact hsource.execCameraNoticeAtScheduler c h
  | .dwellDeadlineExpiry => exact ⟨_, rfl, hsource.expireDwell h⟩
  | .lifetimeDeadlineExpiry o => exact ⟨_, rfl, hsource.expireLifetime o h⟩
  | .rotationDeadlineExpiry => exact ⟨_, rfl, hsource.expireRotation h⟩
  | .deferralDeadlineExpiry => exact ⟨_, rfl, hsource.expireDeferral h⟩
  | .presentation => exact hcomp.execPresentation h
  | .outputFrameStart => exact ⟨_, rfl, hcomp.startFrame h⟩
  | .reportOffer k => exact hlink.execReportOffer k h
  | .retransmitDeadlineExpiry => exact ⟨_, rfl, hlink.expireRetransmit h⟩
  | .pushStallNotice => exact hlink.execPushStallNotice h
  | .pinLevelChange l => exact referencesHold_execPinLevelChange l h
  | .debounceDeadlineExpiry l => exact ⟨_, rfl, referencesHold_expireDebounce l h⟩
  | .latchClaim => exact referencesHold_execLatchClaim h
  | .latchDrop => exact referencesHold_execLatchDrop h
  | .pulseClaim => exact referencesHold_execPulseClaim h
  | .pulseDeadlineExpiry l => exact ⟨_, rfl, referencesHold_expirePulse l h⟩
  | .recall => exact hhead.execRecall h
  | .requestFrameComplete => exact ⟨_, rfl, hhead.completeRequest h⟩
  | .replyFrame r g b _ => exact ⟨_, rfl, hhead.takeReply _ _ _ h⟩
  | .replyDeadlineExpiry => exact ⟨_, rfl, hhead.expireReply h⟩
  | .turnaroundGapEnd => exact hhead.execTurnaroundGapEnd h
  | .hostByteReceived _ _ =>
    exact ⟨_, rfl, hlink.toLinkBlind.receiveHostByte hostCommand_keeps_referencesHold _ _ h⟩
  | .gapDeadlineExpiry => exact ⟨_, rfl, hlink.toLinkBlind.expireGap h⟩
  | .silenceDeadlineExpiry => exact ⟨_, rfl, hlink.expireSilence h⟩
  | .frameTxComplete _ =>
    exact ⟨_, rfl, hlink.toLinkBlind.completeFrame hostCommand_keeps_referencesHold _
      (fun _ _ => referencesHold_fullReset _ _ _ _) h⟩
  | .unknownKind => exact ⟨_, rfl, hlink.toLinkBlind.takeWhen (hostCommand_keeps_referencesHold 0x00) _ _ h⟩
  | .restoreZones => exact ⟨_, rfl, referencesHold_takeZonesPart h⟩
  | .restoreLines => exact ⟨_, rfl, referencesHold_takeLinesPart h⟩
  | .restoreSchedule => exact ⟨_, rfl, referencesHold_takeSchedulePart h⟩
  | .restoreRulesRemove => exact ⟨_, rfl, referencesHold_takeRemovePart h⟩
  | .restoreRulesArm => exact referencesHold_execRestoreRulesArm h
  | .restoreCamera c =>
    exact ⟨_, rfl, referencesHold_takePart_same h (.inr (.inr ⟨c, rfl⟩)) fun p =>
      (sameReferents_cameraBlind s).writeCamera _ c (p.cameras.get c) (sameReferents_of_records_eq rfl rfl rfl)⟩
  | .restoreFilter =>
    exact ⟨_, rfl, referencesHold_takePart_same h (.inl rfl) fun _ => sameReferents_of_records_eq rfl rfl rfl⟩
  | .restoreHeadlink =>
    exact ⟨_, rfl, referencesHold_takePart_same h (.inr (.inl rfl)) fun _ => sameReferents_of_records_eq rfl rfl rfl⟩
  | .partTakenNotice p => exact ⟨_, rfl, referencesHold_takePartNotice p h⟩
  | .restoreReadDone good => exact ⟨_, rfl, referencesHold_completeRead good h⟩
  | .commitWriteDone stored => exact ⟨_, rfl, referencesHold_completeWrite stored h⟩
  | .commitVerifyDone good => exact ⟨_, rfl, referencesHold_completeVerify good h⟩
  | .generationWriteDone back erased => exact ⟨_, rfl, referencesHold_completeGeneration back erased h⟩
  | .erasePrepareDone a b => exact ⟨_, rfl, referencesHold_completeErase a b h⟩
  | .setCamera | .getCamera | .setClass | .getClass | .putZone | .dropZone | .relearnZone | .getZone | .putRule
  | .dropRule | .armRule | .getRule | .putView | .dropView | .setRotation | .setMinshow | .showView | .withdraw
  | .hold | .release | .getScreen | .setFilter | .pull | .ack | .setLine | .driveLine | .getLines | .relay
  | .cancelRelay | .setHeadlink | .getRelays | .hello | .openSession | .closeSession | .ping | .setLink | .restart
  | .time | .commit | .restore | .eraseProfile | .getProfile => exact hcommand rfl

end Sys2Proof.Machine

namespace Sys2Proof.References

open Sys2Proof.Machine Sys2Proof.Safety

/-- Settles O57, by `referencesHold_exec`: the command has one outcome, and in it both laws hold. -/
theorem referencesKept : Obligations.ReferencesKept := by
  intro i s t hreferences happlying hexec
  obtain ⟨u, hnext, hreferences, happlying⟩ := referencesHold_exec i ⟨hreferences, happlying⟩
  cases hexec.symm.trans hnext
  exact ⟨hreferences, happlying⟩

end Sys2Proof.References
end

section
/-! The state right after reset: what a power-on with every strap low leaves of it, and the laws it obeys (R75, R83,
R88, R89, R97, R114, R115, R154, R173, R198, R207). -/

namespace Sys2Proof.Machine

open Sys2Proof.Safety

/-! ### A power-on of the reset state (R206, R207) -/

/-- An erased slot is not valid (R196). -/
theorem slotValid_erased : slotValid Slot.erased = false := rfl

theorem judgeSlot_erased : judgeSlot Slot.erased = none := by
  rw [judgeSlot, slotValid_erased]
  rfl

/-- With both slots erased the directory is rebuilt empty (R198). -/
theorem rebuiltStore_reset : rebuiltStore State.reset.store = State.reset.store := by
  simp [rebuiltStore, idleStore, judgeSlot_erased, State.reset]

/-- With both slots erased there is none to load (R206). -/
theorem chosenSlot_reset (s3 : Level) : chosenSlot s3 State.reset.store = none := by cases s3 <;> rfl

/-- Every block starts from the factory defaults as `State.reset` holds it (R207; log 6). -/
theorem startBlocks_reset : startBlocks ⟨.low, .low, .low, .low⟩ .r9600 .s525 State.reset = State.reset := by
  have hcams : factoryProfile.cameras.map startCamera = State.reset.cams := Vector.map_replicate
  have hlines : factoryProfile.lines.map startLine = State.reset.lines := Vector.map_replicate
  have hzones : startZones factoryProfile = State.reset.zoneEngine := by
    simp [startZones, factoryProfile, Vector.map_replicate, State.reset, startCameraState, factoryCamera]
  have hrules : startRules factoryProfile = State.reset.ruleEngine := by
    simp [startRules, factoryProfile, Vector.map_replicate, State.reset]
  have hsched : startSched factoryProfile = State.reset.sched := by
    simp [startSched, factoryProfile, Vector.map_replicate, State.reset, startCameraState, factoryCamera]
  unfold startBlocks
  simp only [rebuiltStore_reset, chosenSlot_reset, loadedProfile, hcams, hlines, hzones, hrules, hsched]
  rfl

/-- Where no line is INPUT, no pin is judged afresh (R130). -/
theorem foldl_startPin_of_no_input {s : State} (h : ∀ l, (s.lines.get l).mode ≠ .input) (ls : List LineId) :
    ls.foldl startPin s = s := by
  induction ls with
  | nil => rfl
  | cons l ls ih => rw [List.foldl_cons, startPin, if_neg (h l), ih]

theorem fullReset_reset : fullReset ⟨.low, .low, .low, .low⟩ .r9600 .s525 State.reset = State.reset := by
  rw [fullReset, startBlocks_reset]
  exact foldl_startPin_of_no_input (by decide) _

/-! ### The laws (R83, R88, R89, R116, R139, R198) -/

theorem recordsLaw_reset : RecordsLaw State.reset :=
  fullReset_reset ▸ recordsLaw_fullReset ⟨.low, .low, .low, .low⟩ .r9600 .s525 State.reset

theorem referencesHold_reset : ReferencesHold State.reset :=
  fullReset_reset ▸ referencesHold_fullReset ⟨.low, .low, .low, .low⟩ .r9600 .s525 State.reset

theorem queuesLaw_reset : QueuesLaw State.reset where
  records := by decide
  requests := by decide
  origins := List.nodup_nil
  relays := by decide
  commands := by decide
  cache := by decide
  immediate := by decide

theorem windowLaw_reset : WindowLaw State.reset := rfl

theorem rules_reset (r : RuleId) : State.reset.ruleEngine.table.get r = none := by
  simp [State.reset, Vector.get_eq_getElem]

theorem zones_reset (z : ZoneId) : State.reset.zoneEngine.table.get z = none := by
  simp [State.reset, Vector.get_eq_getElem]

/-- The queue holds the start-up record alone (R114, R115). -/
theorem reportsLaw_reset : ReportsLaw State.reset := by
  have halone : ∀ before r behind, State.reset.reports.records = before ++ r :: behind →
      before = [] ∧ r = ⟨1, ⟨0, 2, 0, .profile .factory none⟩, .unsent⟩ ∧ behind = [] := by
    intro before r behind hsplit
    cases before with
    | nil =>
      obtain ⟨hr, hbehind⟩ := List.cons_eq_cons.mp hsplit
      exact ⟨rfl, hr.symm, hbehind.symm⟩
    | cons x before =>
      obtain ⟨_, hnil⟩ := List.cons_eq_cons.mp hsplit
      simp at hnil
  exact
    { next := by decide
      range := by decide
      order := fun before r behind hsplit => by
        obtain ⟨rfl, rfl, rfl⟩ := halone before r behind hsplit
        decide
      marks := fun before r behind hsplit _ x hx => by
        obtain ⟨rfl, _⟩ := halone before r behind hsplit
        exact absurd hx List.not_mem_nil
      round := fun _ hround => nomatch hround
      priorities := by decide
      offers := fun _ hr => absurd hr List.not_mem_nil
      zones := fun z zone hz => by rw [zones_reset] at hz; cases hz
      rules := fun r rule hr => by rw [rules_reset] at hr; cases hr
      applying := fun _ happlying => nomatch happlying }

/-- Nothing is shown, requested or held (R88, R89, R97). -/
theorem screenLaw_reset : ScreenLaw State.reset where
  hold := by decide
  held := fun _ hheld => nomatch hheld
  request := fun hstate => nomatch hstate
  rotating := fun hstate => nomatch hstate
  blank := fun _ => rfl
  others := fun _ => rfl
  empty := fun _ _ => .inr rfl

theorem relayLaw_reset : RelayLaw State.reset where
  size := by decide
  tids := List.nodup_nil
  idle := fun _ => rfl
  flying := by decide
  held := fun hflight => nomatch hflight
  queued := fun _ ht => absurd ht List.not_mem_nil
  received := .inl rfl

/-- Both slots are erased and no commit is in progress (R198, R199). -/
theorem storeLaw_reset : StoreLaw State.reset where
  dirA := judgeSlot_erased.symm
  dirB := judgeSlot_erased.symm
  erased := fun _ htarget => nomatch htarget
  generation := fun _ hgen => nomatch hgen
  verified := fun hphase => nomatch hphase

end Sys2Proof.Machine

namespace Sys2Proof.AfterReset

open Sys2Proof.Machine Sys2Proof.Safety

/-- Settles O2, by `fullReset_reset` and the values that `State.reset` names. -/
theorem resetState : Obligations.ResetState :=
  ⟨congrArg Host.Outcome.next fullReset_reset, rfl, rfl, rfl, rfl, rfl, rfl, rfl, rfl, rfl, rfl, by decide, by decide,
    by decide, rfl, rfl, rfl, rfl, rfl, rfl, rfl⟩

/-- Settles O60, law by law: those on records and references by the full reset, the others by what stands empty. -/
theorem lawsAtReset : Obligations.LawsAtReset :=
  ⟨queuesLaw_reset, windowLaw_reset, reportsLaw_reset, screenLaw_reset, recordsLaw_reset,
    referencesHold_reset.references, referencesHold_reset.applying, relayLaw_reset, storeLaw_reset⟩

end Sys2Proof.AfterReset
end

section
/-! The transmitter's choice among its sources (R119, R122, R165): each search stops at the oldest element it looks for,
and the choice follows the order immediate queue, reply cache, report queue. -/

namespace Sys2Proof.Machine

open Sys2Proof.Safety

/-! ### Searches from the oldest end -/

theorem recordOf_split {pre post : List Record} {r : Record} {n : Nat} (hr : r.seq = n) (hpre : ∀ x ∈ pre, x.seq ≠ n) :
    recordOf n (pre ++ r :: post) = some r :=
  List.find?_eq_some_iff_append.mpr ⟨by simpa using hr, pre, post, rfl, by simpa using hpre⟩

theorem recordOf_absent {rs : List Record} {n : Nat} (h : ∀ r ∈ rs, r.seq ≠ n) : recordOf n rs = none :=
  List.find?_eq_none.mpr (by simpa using h)

theorem oldestUnsent_split {pre post : List Record} {r : Record} (hr : r.mark = .unsent)
    (hpre : ∀ x ∈ pre, x.mark ≠ .unsent) : oldestUnsent (pre ++ r :: post) = some r :=
  List.find?_eq_some_iff_append.mpr ⟨by simpa using hr, pre, post, rfl, by simpa using hpre⟩

theorem oldestUnsent_absent {rs : List Record} (h : ∀ r ∈ rs, r.mark ≠ .unsent) : oldestUnsent rs = none :=
  List.find?_eq_none.mpr (by simpa using h)

theorem markRecord_split {pre post : List Record} {r : Record} {n : Nat} (m : DeliveryMark) (hr : r.seq = n)
    (hpre : ∀ x ∈ pre, x.seq ≠ n) : markRecord n m (pre ++ r :: post) = pre ++ { r with mark := m } :: post := by
  induction pre with
  | nil => simp [markRecord, hr]
  | cons x pre ih =>
    obtain ⟨hx, hpre⟩ := List.forall_mem_cons.mp hpre
    simp [markRecord, hx, ih hpre]

theorem startReply_split {pre post : List CacheEntry} {e : CacheEntry} (he : e.mark = .unsent)
    (hpre : ∀ x ∈ pre, x.mark ≠ .unsent) :
    startReply (pre ++ e :: post) = some (e.frame, pre ++ { e with mark := .sending } :: post) := by
  induction pre with
  | nil => simp [startReply, he]
  | cons x pre ih =>
    obtain ⟨hx, hpre⟩ := List.forall_mem_cons.mp hpre
    simp [startReply, hx, ih hpre]

theorem startReply_absent {cache : List CacheEntry} (h : ∀ e ∈ cache, e.mark ≠ .unsent) : startReply cache = none := by
  induction cache with
  | nil => rfl
  | cons e es ih =>
    obtain ⟨he, hes⟩ := List.forall_mem_cons.mp h
    simp [startReply, he, ih hes]

theorem inDelivery_eq_length (rs : List Record) : inDelivery rs = (rs.filter fun x => x.mark != .unsent).length :=
  List.countP_eq_length_filter

theorem pushedCount_eq_length (rs : List Record) : pushedCount rs = (rs.filter fun x => x.mark == .pushed).length :=
  List.countP_eq_length_filter

/-- No record is PUSHED exactly when none is found that is. -/
theorem pushedCount_eq_zero_iff (rs : List Record) :
    pushedCount rs = 0 ↔ (rs.any fun x => x.mark == .pushed) = false := by
  simp [pushedCount, List.countP_eq_zero]

/-! ### The frame due (R119, R122) -/

/-- The report queue may name a frame: the session is OPEN in PUSH mode, and no stall notice is on its way (R119, R122;
log 11). -/
def Delivering (s : State) : Prop :=
  s.reports.delivery.session = .opened ∧ s.reports.delivery.mode = .push ∧ s.wires.stall = false

theorem delivering_iff (s : State) : Delivering s ↔ (s.reports.delivery.session == .opened &&
    s.reports.delivery.mode == .push && !s.wires.stall) = true := by
  simp [Delivering, and_assoc]

theorem frameDue_of_not_delivering {s : State} (h : ¬ Delivering s) : frameDue s.reports s.wires.stall = none :=
  if_neg (mt (delivering_iff s).mpr h)

theorem frameDue_of_round {s : State} {n : Nat} {ns : List Nat} (h : Delivering s)
    (hround : s.reports.delivery.round = some (n :: ns)) :
    frameDue s.reports s.wires.stall = (recordOf n s.reports.records).map (·, true) := by
  simp only [frameDue, (delivering_iff s).mp h, if_true, hround]

theorem frameDue_of_last_resend {s : State} (h : Delivering s) (hround : s.reports.delivery.round = some []) :
    frameDue s.reports s.wires.stall = none := by
  simp only [frameDue, (delivering_iff s).mp h, if_true, hround]

theorem frameDue_of_window {s : State} (h : Delivering s) (hround : s.reports.delivery.round = none)
    (hroom : inDelivery s.reports.records < s.reports.delivery.window) :
    frameDue s.reports s.wires.stall = (oldestUnsent s.reports.records).map (·, false) := by
  simp only [frameDue, (delivering_iff s).mp h, if_true, hround, if_pos hroom]

theorem frameDue_of_window_full {s : State} (h : Delivering s) (hround : s.reports.delivery.round = none)
    (hfull : s.reports.delivery.window ≤ inDelivery s.reports.records) : frameDue s.reports s.wires.stall = none := by
  simp only [frameDue, (delivering_iff s).mp h, if_true, hround, if_neg (Nat.not_lt.mpr hfull)]

/-! ### The choice (R165) -/

theorem kick_busy {s : State} (h : s.link.tx.isSome) : s.kick = s := by
  obtain ⟨f, hf⟩ := Option.isSome_iff_exists.mp h
  simp only [State.kick, hf]

theorem kick_immediate {s : State} {f : ImmediateFrame} {fs : List ImmediateFrame} (htx : s.link.tx = none)
    (himm : s.link.immediate = f :: fs) :
    s.kick = s.setLink { s.link with immediate := fs, tx := some ⟨immediateBytes f, .immediate, s.link.rate⟩ } := by
  simp only [State.kick, htx, himm]

theorem kick_reply {s : State} {bytes : List Byte} {cache : List CacheEntry} (htx : s.link.tx = none)
    (himm : s.link.immediate = []) (hreply : startReply s.link.cache = some (bytes, cache)) :
    s.kick = s.setLink { s.link with cache := cache, tx := some ⟨bytes, .reply, s.link.rate⟩ } := by
  simp only [State.kick, htx, himm, hreply]

theorem kick_report {s : State} {r : Record} {resend : Bool} (htx : s.link.tx = none) (himm : s.link.immediate = [])
    (hreply : startReply s.link.cache = none) (hdue : frameDue s.reports s.wires.stall = some (r, resend)) :
    s.kick = (s.setReports (startReport s.reports r resend)).setLink
      { s.link with tx := some ⟨reportFrame s.reports.dropped r, .report r.seq resend, s.link.rate⟩ } := by
  simp only [State.kick, htx, himm, hreply, hdue]

theorem kick_nothing {s : State} (himm : s.link.immediate = []) (hreply : startReply s.link.cache = none)
    (hdue : frameDue s.reports s.wires.stall = none) : s.kick = s := by
  cases htx : s.link.tx with
  | some f => exact kick_busy (by rw [htx]; rfl)
  | none => simp only [State.kick, htx, himm, hreply, hdue]

end Sys2Proof.Machine

namespace Sys2Proof.ActivityReports

open Sys2Proof.Machine Sys2Proof.Safety

/-- Settles O33, source by source: `kick` stops at the first that has a frame, and each source names its oldest. -/
theorem transmitterChooses : Obligations.TransmitterChooses := by
  intro s
  dsimp only
  refine ⟨kick_busy, fun htx f fs himm => kick_immediate htx himm, fun htx himm pre e post hcache he hpre => ?_,
    fun htx himm hcache => ?_⟩
  · exact kick_reply htx himm (by rw [hcache]; exact startReply_split he hpre)
  have hreply := startReply_absent hcache
  refine ⟨fun hnot => ?notDue, fun n ns pre r post hdue hround hrecords hr hpre => ?resend,
    fun hdue hround => ?lastResend, fun pre r post hdue hround hroom hrecords hr hpre => ?first,
    fun hdue hround hnone => ?nothing⟩
  case notDue => exact kick_nothing himm hreply (frameDue_of_not_delivering hnot)
  case resend =>
    have hframe := frameDue_of_round hdue hround
    rw [hrecords, recordOf_split hr hpre] at hframe
    rw [kick_report htx himm hreply hframe]
    simp only [startReport, hround, hr, if_true, Option.map_some, List.tail_cons]
  case lastResend => exact kick_nothing himm hreply (frameDue_of_last_resend hdue hround)
  case first =>
    rw [← inDelivery_eq_length] at hroom
    have hframe := frameDue_of_window hdue hround hroom
    rw [hrecords, oldestUnsent_split hr fun x hx => (hpre x hx).1] at hframe
    rw [kick_report htx himm hreply hframe, startReport, if_neg Bool.false_ne_true, hrecords,
      markRecord_split .sending rfl fun x hx => (hpre x hx).2]
  case nothing =>
    rw [← inDelivery_eq_length] at hnone
    refine kick_nothing himm hreply ?_
    rcases hnone with hfull | hsent
    · exact frameDue_of_window_full hdue hround hfull
    · by_cases hroom : inDelivery s.reports.records < s.reports.delivery.window
      · rw [frameDue_of_window hdue hround hroom, oldestUnsent_absent hsent]; rfl
      · exact frameDue_of_window_full hdue hround (Nat.le_of_not_lt hroom)

end Sys2Proof.ActivityReports
end

section
/-! Offers at the report queue (R107, R109–R113): which offer is taken, the filter, entry and overflow. -/

namespace Sys2Proof.Machine

open Sys2Proof.Safety

/-! ### The offer that is taken (R109) -/

/-- The first offer of a kind is the one taken, when none before it must be taken first (R109; log 8). -/
theorem nextOffer_split {k : ReportKind} {r : Report} {before behind : List Report} (earlier : List Report)
    (hk : reportKind r = k) (hkinds : ∀ x ∈ before, reportKind x ≠ k)
    (hfree : ∀ x ∈ earlier ++ before, mustPrecede x r = false) :
    nextOffer k earlier (before ++ r :: behind) = some (r, earlier ++ before ++ behind) := by
  induction before generalizing earlier with
  | nil =>
    have hany : earlier.any (mustPrecede · r) = false := by simpa using hfree
    simp [nextOffer, hk, hany]
  | cons x before ih =>
    obtain ⟨hx, hkinds⟩ := List.forall_mem_cons.mp hkinds
    simpa [nextOffer, hx] using ih (earlier ++ [x]) hkinds (by simpa using hfree)

theorem exec_reportOffer {k : ReportKind} {r : Report} {rest : List Report} {s : State}
    (h : nextOffer k [] s.wires.offers = some (r, rest)) :
    exec (.reportOffer k) s =
      .next ((s.setWires { s.wires with offers := rest }).setReports (takeReport r s.reports)).kick := by
  change execReportOffer k s = _
  rw [execReportOffer, h]

/-! ### The filter and the entry (R107, R110, R111) -/

theorem passesFilter_iff (f : Filter) (r : Report) :
    passesFilter f r = true ↔ (f.get (kindIndex (reportKind r))).enable = true ∧
      (f.get (kindIndex (reportKind r))).minPriority ≤ r.priority := by
  simp [passesFilter]

theorem takeReport_filtered {r : Report} {q : ReportQueue} (h : ¬ passesFilter q.filter r = true) :
    takeReport r q = q := if_neg h

theorem takeReport_entered {r : Report} {q : ReportQueue} (h : passesFilter q.filter r = true)
    (hroom : q.records.length < 32) : takeReport r q = enterRecord r q := by
  rw [takeReport, if_pos h, if_pos hroom]

theorem takeReport_full {r : Report} {q : ReportQueue} (h : passesFilter q.filter r = true)
    (hfull : 32 ≤ q.records.length) : takeReport r q = overflow r q := by
  rw [takeReport, if_pos h, if_neg (Nat.not_lt.mpr hfull)]

/-! ### Overflow (R112, R113) -/

theorem bump_eq_min {n : Nat} (h : n ≤ 65535) : bump n = min 65535 (n + 1) := by
  unfold bump; split <;> omega

theorem victimOf_mem {rs : List Record} {v : Record} (h : victimOf rs = some v) : v ∈ rs ∧ v.mark = .unsent := by
  induction rs generalizing v with
  | nil => cases h
  | cons r rs ih =>
    cases hrs : victimOf rs with
    | none =>
      simp only [victimOf, hrs, Option.ite_none_right_eq_some, beq_iff_eq, Option.some.injEq] at h
      obtain ⟨hr, rfl⟩ := h
      exact ⟨List.mem_cons_self, hr⟩
    | some w =>
      simp only [victimOf, hrs] at h
      split at h
      · rename_i hr
        cases h
        exact ⟨List.mem_cons_self, by simpa using (Bool.and_eq_true_iff.mp hr).1⟩
      · cases h
        obtain ⟨hmem, hw⟩ := ih hrs
        exact ⟨List.mem_cons_of_mem r hmem, hw⟩

/-- An UNSENT record is the victim among itself and newer ones when no newer UNSENT one is of lower priority (R112). -/
theorem victimOf_cons {v : Record} {newer : List Record} (hv : v.mark = .unsent)
    (hnewer : ∀ x ∈ newer, x.mark = .unsent → v.report.priority ≤ x.report.priority) :
    victimOf (v :: newer) = some v := by
  cases hrs : victimOf newer with
  | none => simp [victimOf, hrs, hv]
  | some w =>
    obtain ⟨hmem, hw⟩ := victimOf_mem hrs
    simp [victimOf, hrs, hv, hnewer w hmem hw]

/-- It stays the victim when every older UNSENT record is of higher priority (R112). -/
theorem victimOf_split {older newer : List Record} {v : Record} (hv : v.mark = .unsent)
    (holder : ∀ x ∈ older, x.mark = .unsent → v.report.priority < x.report.priority)
    (hnewer : ∀ x ∈ newer, x.mark = .unsent → v.report.priority ≤ x.report.priority) :
    victimOf (older ++ v :: newer) = some v := by
  induction older with
  | nil => exact victimOf_cons hv hnewer
  | cons x older ih =>
    obtain ⟨hx, holder⟩ := List.forall_mem_cons.mp holder
    simp only [List.cons_append, victimOf, ih holder, ite_eq_right_iff, Bool.and_eq_true, beq_iff_eq,
      decide_eq_true_eq]
    rintro ⟨hmark, hle⟩
    exact absurd (hx hmark) (Nat.not_lt.mpr hle)

/-- Where sequences are distinct, the removal of a record's sequence removes that record alone. -/
theorem filter_seq_split {older newer : List Record} {v : Record} (h : ((older ++ v :: newer).map (·.seq)).Nodup) :
    (older ++ v :: newer).filter (fun x => x.seq != v.seq) = older ++ newer := by
  simp only [List.map_append, List.map_cons, List.nodup_middle, List.nodup_cons, List.mem_append, List.mem_map,
    not_or, not_exists, not_and] at h
  obtain ⟨⟨holder, hnewer⟩, -⟩ := h
  rw [List.filter_append, List.filter_cons_of_neg (by simp),
    List.filter_eq_self.mpr fun x hx => by simpa using holder x hx,
    List.filter_eq_self.mpr fun x hx => by simpa using hnewer x hx]

theorem overflow_yields {r : Report} {q : ReportQueue} {v : Record} (hv : victimOf q.records = some v)
    (hlower : v.report.priority < r.priority) :
    overflow r q = enterRecord r (countDrop { q with records := q.records.filter fun x => x.seq != v.seq }) := by
  simp only [overflow, hv, if_pos hlower]

theorem overflow_lost {r : Report} {q : ReportQueue} {v : Record} (hv : victimOf q.records = some v)
    (hhigher : r.priority ≤ v.report.priority) : overflow r q = countDrop q := by
  simp only [overflow, hv, if_neg (Nat.not_lt.mpr hhigher)]

end Sys2Proof.Machine

namespace Sys2Proof.ActivityReports

open Sys2Proof.Machine Sys2Proof.Safety

/-- Settles O32: the queue becomes `takeReport`'s, by the filter, the fill, and the victim's priority. -/
theorem reportEnters : Obligations.ReportEnters := by
  rintro k r before behind s hoffers rfl hbefore
  have hnext := nextOffer_split (behind := behind) [] rfl (fun x hx => (hbefore x hx).1)
    fun x hx => (hbefore x hx).2
  rw [List.nil_append] at hnext
  refine ⟨takeReport r s.reports, exec_reportOffer (by rw [hoffers]; exact hnext), fun hfails => ?_,
    fun hpasses hroom => ?_, fun victim older newer hpasses hfull hdropped hrecords hnodup hv holder hnewer => ?_⟩
  · exact takeReport_filtered (mt (passesFilter_iff _ r).mp hfails)
  · exact takeReport_entered ((passesFilter_iff _ r).mpr hpasses) hroom
  have htake := takeReport_full ((passesFilter_iff _ r).mpr hpasses) hfull
  have hvictim : victimOf s.reports.records = some victim := by rw [hrecords]; exact victimOf_split hv holder hnewer
  refine ⟨fun hlower => ?_, fun hhigher => ?_⟩
  · rw [htake, overflow_yields hvictim hlower]
    rw [hrecords] at hnodup
    simp only [enterRecord, countDrop, nextSequence, hrecords, filter_seq_split hnodup, bump_eq_min hdropped]
  · rw [htake, overflow_lost hvictim hhigher, countDrop, bump_eq_min hdropped]

end Sys2Proof.ActivityReports
end

section
/-! The end of a transmission that is no reply's, the retransmit deadline and the stall (R120–R122, R165, R171). -/

namespace Sys2Proof.Machine

open Sys2Proof.Safety

/-! ### The end of a transmission (R120, R121, R165) -/

theorem exec_frameTxComplete_immediate {bytes : List Byte} {rate : HostRate} {s : State} (s3 : Level)
    (htx : s.link.tx = some ⟨bytes, .immediate, rate⟩) :
    exec (.frameTxComplete s3) s = .next (s.setLink { s.link with tx := none }).kick := by
  change Host.Outcome.next (completeFrame s3 s) = _
  simp only [completeFrame, htx]

theorem exec_frameTxComplete_report {n : Nat} {resend : Bool} {bytes : List Byte} {rate : HostRate} {s : State}
    (s3 : Level) (htx : s.link.tx = some ⟨bytes, .report n resend, rate⟩) :
    exec (.frameTxComplete s3) s = .next ((s.setLink { s.link with tx := none }).setReports
      (completeReport s.now n resend s.reports)).kick := by
  change Host.Outcome.next (completeFrame s3 s) = _
  simp only [completeFrame, htx]

/-- Where the completion leaves the report queue as it is, the transmitter is freed and chooses, and no more. -/
theorem exec_frameTxComplete_report_kept {n : Nat} {resend : Bool} {bytes : List Byte} {rate : HostRate} {s : State}
    (s3 : Level) (htx : s.link.tx = some ⟨bytes, .report n resend, rate⟩)
    (hkept : completeReport s.now n resend s.reports = s.reports) :
    exec (.frameTxComplete s3) s = .next (s.setLink { s.link with tx := none }).kick := by
  rw [exec_frameTxComplete_report s3 htx, hkept]
  rfl

theorem isSending_split {pre post : List Record} {r : Record} {n : Nat} (hr : r.seq = n)
    (hpre : ∀ x ∈ pre, x.seq ≠ n) : isSending n (pre ++ r :: post) = (r.mark == .sending) := by
  rw [isSending, recordOf_split hr hpre]

theorem isSending_absent {rs : List Record} {n : Nat} (h : ∀ r ∈ rs, r.seq ≠ n) : isSending n rs = false := by
  rw [isSending, recordOf_absent h]

theorem completeReport_first_sending {now : Time} {n : Nat} {q : ReportQueue} (h : isSending n q.records = true) :
    completeReport now n false q = { q with
      records := markRecord n .pushed q.records
      delivery := { q.delivery with deadline := some (later now q.delivery.retransmit) } } := by
  simp only [completeReport, h, if_true, Bool.false_eq_true, if_false]

theorem completeReport_first_kept {now : Time} {n : Nat} {q : ReportQueue} (h : isSending n q.records = false) :
    completeReport now n false q = q := by
  simp only [completeReport, h, Bool.false_eq_true, if_false]

theorem completeReport_resend_last {now : Time} {n : Nat} {q : ReportQueue} (h : q.delivery.round = some []) :
    completeReport now n true q = endRound now q := by
  simp only [completeReport, h, if_true]

theorem completeReport_resend_kept {now : Time} {n : Nat} {q : ReportQueue} (h : q.delivery.round ≠ some []) :
    completeReport now n true q = q := by
  simp only [completeReport, h, if_true, if_false]

theorem retransmitFrom_eq (now : Time) (q : ReportQueue) :
    retransmitFrom now q = if (q.records.any fun r => r.mark == .pushed) = true then
      some (later now q.delivery.retransmit) else none :=
  if_congr (by rw [Nat.pos_iff_ne_zero, Ne, pushedCount_eq_zero_iff, Bool.not_eq_false]) rfl rfl

/-! ### The retransmit deadline (R121, R122) -/

theorem pushedSequences_eq_filterMap (rs : List Record) :
    pushedSequences rs = rs.filterMap fun r => if r.mark = .pushed then some r.seq else none := by
  induction rs with
  | nil => rfl
  | cons r rs ih =>
    by_cases hr : r.mark = .pushed <;> simpa [pushedSequences, hr] using ih

theorem expireRetransmit_of_round {s : State} {ns : List Nat} (h : s.reports.delivery.round = some ns) :
    expireRetransmit s = s := if_neg (by simp [h])

theorem expireRetransmit_of_not_reached {s : State} {d : Time} (hd : s.reports.delivery.deadline = some d)
    (h : reached s.now d = false) : expireRetransmit s = s := if_neg (by simp [hd, due, h])

theorem expireRetransmit_of_due {s : State} (hround : s.reports.delivery.round = none)
    (hdue : due s.now s.reports.delivery.deadline = true) :
    expireRetransmit s = if s.reports.delivery.retry + 1 < 8 then (s.setReports (startRound s.reports)).kick
      else (s.setReports (stallQueue s.reports)).setWires { s.wires with stall := true } :=
  if_pos ⟨by rw [hround]; rfl, hdue⟩

/-! ### Closures with a report (R168, R171) -/

theorem closeWith_eq (reason : SessionReason) (s : State) : closeWith reason s = sessionLost reason s := by
  rw [closeWith, sessionReport, pushedCount_eq_length]
  rfl

theorem exec_pushStallNotice {s : State} (h : s.wires.stall = true) :
    exec .pushStallNotice s = .next (sessionLost .pushStalled s) := by
  rw [← closeWith_eq]
  exact congrArg Host.Outcome.next (if_pos h)

end Sys2Proof.Machine

namespace Sys2Proof.ActivityReports

open Sys2Proof.Machine Sys2Proof.Safety

/-- Settles O47, by what was on the line: a first send goes by its record's mark, a resend by what its round holds. -/
theorem reportSent : Obligations.ReportSent := by
  intro n bytes rate s3 s
  dsimp only
  refine ⟨exec_frameTxComplete_immediate s3, fun hfirst => ⟨fun pre r post hrecords hr hpre => ?_, fun habsent => ?_⟩,
    fun hresend => ⟨fun hround => ?_, fun hround => ?_⟩⟩
  · have hsending : isSending n s.reports.records = (r.mark == .sending) := by
      rw [hrecords]; exact isSending_split hr hpre
    refine ⟨fun hmark => ?_, fun hmark => ?_⟩
    · rw [exec_frameTxComplete_report s3 hfirst, completeReport_first_sending (hsending.trans (by simp [hmark])),
        hrecords, markRecord_split .pushed hr hpre]
    · exact exec_frameTxComplete_report_kept s3 hfirst
        (completeReport_first_kept (hsending.trans (by simpa using hmark)))
  · exact exec_frameTxComplete_report_kept s3 hfirst (completeReport_first_kept (isSending_absent habsent))
  · exact exec_frameTxComplete_report_kept s3 hresend (completeReport_resend_kept hround)
  · rw [exec_frameTxComplete_report s3 hresend, completeReport_resend_last hround, endRound, retransmitFrom_eq]

/-- Settles O36, by the cases of the retransmit deadline, and the closure at the stall notice. -/
theorem retransmitAndStall : Obligations.RetransmitAndStall := by
  intro s
  refine ⟨fun ns hround => ?round, fun d hround hdeadline hreached => ?due, fun d hdeadline hnot => ?early,
    exec_pushStallNotice⟩
  case round => exact congrArg Host.Outcome.next (expireRetransmit_of_round hround)
  case early => exact congrArg Host.Outcome.next (expireRetransmit_of_not_reached hdeadline hnot)
  case due =>
    have hexpire := expireRetransmit_of_due hround (due_some_of_reached hdeadline hreached)
    refine ⟨fun hretry => congrArg Host.Outcome.next ?_, fun hretry => congrArg Host.Outcome.next ?_⟩
    · rw [hexpire, if_pos hretry, startRound, pushedSequences_eq_filterMap]
    · rw [hexpire, if_neg (by omega)]
      simp only [stallQueue, hround]

end Sys2Proof.ActivityReports
end

section
/-! The taking of ACK (R123, R124, R184), of OPEN and CLOSE and the silence deadline (R116, R117, R166–R171, R178), and
the settings that are replaced whole (R108, R138, R153, R186). -/

namespace Sys2Proof.Machine

open Sys2Proof.Safety

/-! ### A reply that enters the cache (R163, R165) -/

/-- The reply to a frame has entered the cache, and the transmitter has chosen. -/
def replied (f : Frame) (a : Answer) (u : State) : State := (u.setLink (cacheReply f a u.link)).kick

theorem replied_answered (f : Frame) (a : Answer) (u : State) : Answered f a.payload (replied f a u) :=
  kick_answered (cacheReply_answered f a u u.link)

theorem replied_session (f : Frame) (a : Answer) (u : State) : (replied f a u).link.session = u.link.session := by
  obtain ⟨-, -, -, -, -, hsession, -, -⟩ := kick_link (u.setLink (cacheReply f a u.link))
  exact hsession

theorem replied_commands (f : Frame) (a : Answer) (u : State) : (replied f a u).link.commands = u.link.commands := by
  obtain ⟨-, -, -, -, hcommands, -, -, -⟩ := kick_link (u.setLink (cacheReply f a u.link))
  exact hcommands

theorem replied_beyond (f : Frame) (a : Answer) (u : State) : beyondLink (replied f a u) = beyondLink u :=
  kick_beyond _

/-- While a frame is on the line the reply waits, and no report is started. -/
theorem replied_reports_of_busy (f : Frame) (a : Answer) {u : State} (h : u.link.tx.isSome) :
    (replied f a u).reports = u.reports := by
  rw [replied, kick_busy (s := u.setLink (cacheReply f a u.link)) h, State.setLink_reports]

/-- While the report queue may name no frame, no report is started. -/
theorem kick_reports_of_not_delivering {s : State} (h : ¬ Delivering s) : s.kick.reports = s.reports := by
  rcases kick_cases s with hk | ⟨_, _, _, _, hk⟩ | ⟨_, _, _, _, _, hk⟩ | ⟨_, _, _, _, _, hdue, _⟩
  · rw [hk]
  · rw [hk]; rfl
  · rw [hk]; rfl
  · rw [frameDue_of_not_delivering h] at hdue; cases hdue

theorem replied_reports_of_not_delivering (f : Frame) (a : Answer) {u : State} (h : ¬ Delivering u) :
    (replied f a u).reports = u.reports :=
  kick_reports_of_not_delivering (s := u.setLink (cacheReply f a u.link)) h

/-- A command that is ready is judged, and its reply enters the cache (R164). -/
theorem takeKind_replied {kind : Byte} {f : Frame} {rest : List Frame} {s u : State} {j : Judgement} {a : Answer}
    (hready : Ready kind f rest s) (hj : j f.payload (s.setLink { s.link with commands := rest }) = (a, u)) :
    takeKind kind j s = replied f a u := by
  rw [takeKind_ready j hready, hj]
  rfl

/-- A command that any session takes is judged, and its reply enters the cache (R164). -/
theorem takeWhen_any_replied {test : Byte → Bool} {f : Frame} {rest : List Frame} {s u : State} {j : Judgement}
    {a : Answer} (holdest : s.link.commands = f :: rest) (hkind : test f.kind = true) (htake : takeable s.link = true)
    (hj : j f.payload (s.setLink { s.link with commands := rest }) = (a, u)) :
    takeWhen test true j s = replied f a u := by
  simp [takeWhen, holdest, hkind, htake, takeFrame, hj, replied]

/-! ### ACK (R123, R124) -/

theorem recordsAfter_split {older left : List Record} {r : Record} {seq : Nat} (hr : r.seq = seq)
    (holder : ∀ x ∈ older, x.seq ≠ seq) : recordsAfter seq (older ++ r :: left) = some left := by
  induction older with
  | nil => simp [recordsAfter, hr]
  | cons x older ih =>
    obtain ⟨hx, holder⟩ := List.forall_mem_cons.mp holder
    simp [recordsAfter, hx, ih holder]

theorem recordsAfter_absent {rs : List Record} {seq : Nat} (h : ∀ r ∈ rs, r.seq ≠ seq) :
    recordsAfter seq rs = none := by
  induction rs with
  | nil => rfl
  | cons r rs ih =>
    obtain ⟨hr, hrs⟩ := List.forall_mem_cons.mp h
    simp [recordsAfter, hr, ih hrs]

/-- Some record holds a sequence. -/
def holdsSeq (rs : List Record) (n : Nat) : Bool := rs.any fun x => x.seq == n

/-- The frame on the line is the resend of a record that is held (log 36). -/
def resendHeld (left : List Record) : Option TxFrame → Bool
  | some ⟨_, .report n true, _⟩ => holdsSeq left n
  | _ => false

theorem any_resendOnLine (left : List Record) (l : HostLink) :
    (left.any fun r => resendOnLine l == some r.seq) = resendHeld left l.tx := by
  have hnone : (left.any fun r => (none : Option Nat) == some r.seq) = false := by simp
  unfold resendOnLine
  rcases l.tx with _ | ⟨_, _ | _ | ⟨n, _ | _⟩, _⟩
  case some.report.true => exact congrArg left.any (funext fun r => BEq.comm)
  all_goals exact hnone

/-- What an ACK leaves of a round (R124; log 36). -/
def roundLeft (left : List Record) (tx : Option TxFrame) : Option (List Nat) → Option (List Nat)
  | none => none
  | some [] => if resendHeld left tx = true then some [] else none
  | some (n :: ns) =>
      if (n :: ns).filter (holdsSeq left) = [] then none else some ((n :: ns).filter (holdsSeq left))

theorem roundAfter_eq_roundLeft (left : List Record) (l : HostLink) (round : Option (List Nat)) :
    roundAfter left (resendOnLine l) round = roundLeft left l.tx round := by
  rcases round with _ | _ | ⟨n, ns⟩
  · rfl
  · simp only [roundAfter, roundLeft, any_resendOnLine]
  · change (match (n :: ns).filter (holdsSeq left) with | [] => none | kept => some kept) = _
    simp only [roundLeft]
    cases (n :: ns).filter (holdsSeq left) <;> simp

/-- The queue that an ACK leaves (R123, R124). -/
theorem ackQueue_eq (now : Time) (left : List Record) (l : HostLink) (q : ReportQueue) :
    ackQueue now left (resendOnLine l) q = { q with
      records := left
      delivery := { q.delivery with
        retry := 0, round := roundLeft left l.tx q.delivery.round
        deadline := if (left.any fun x => x.mark == .pushed) = false then none
          else if roundLeft left l.tx q.delivery.round = none then some (later now q.delivery.retransmit)
          else q.delivery.deadline } } := by
  simp only [ackQueue, deadlineAfter, roundAfter_eq_roundLeft, pushedCount_eq_zero_iff, Option.isNone_iff_eq_none]

theorem exec_ack_absent {seq : Nat} {f : Frame} {rest : List Frame} {s : State} (hready : Ready 0x3A f rest s)
    (hparse : parseWord f.payload = .ok seq) (habsent : recordsAfter seq s.reports.records = none) :
    ∃ t, exec .ack s = .next t ∧
      Taken f rest (0x05 :: byte s.reports.records.length :: be16 s.reports.dropped) s s t :=
  ⟨_, rfl, takeKind_judged_taken (a := ⟨turndownBytes .absent ++ fillFields s.reports, none⟩) hready hparse
    (by simp only [State.setLink_reports, habsent])⟩

/-- The answer to an ACK that leaves these records (R184). -/
def ackAnswer (left : List Record) (q : ReportQueue) : Answer :=
  answerOk (byte (q.records.length - left.length) :: byte left.length :: be16 q.dropped)

theorem exec_ack_taken {seq : Nat} {left : List Record} {f : Frame} {rest : List Frame} {s : State}
    (hready : Ready 0x3A f rest s) (hparse : parseWord f.payload = .ok seq)
    (hleft : recordsAfter seq s.reports.records = some left) :
    ∃ t, exec .ack s = .next t ∧
      Taken f rest (ackAnswer left s.reports).payload s
        (s.setReports (ackQueue s.now left (resendOnLine s.link) s.reports)) t ∧
      (s.link.tx.isSome → t.reports = ackQueue s.now left (resendOnLine s.link) s.reports) := by
  have hap : judgeAck f.payload (s.setLink { s.link with commands := rest }) = (ackAnswer left s.reports,
      (s.setReports (ackQueue s.now left (resendOnLine s.link) s.reports)).setLink
        { s.link with commands := rest }) := by
    rw [judgeAck, judged_ok hparse]
    simp only [State.setLink_reports, hleft]
    rfl
  refine ⟨_, rfl, takeKind_taken hready hap, fun hbusy => ?_⟩
  rw [takeKind_replied hready hap]
  exact replied_reports_of_busy f _ hbusy

/-! ### OPEN, CLOSE and the silence deadline (R116, R117, R166–R171) -/

theorem unsentRecords_idem (rs : List Record) : unsentRecords (unsentRecords rs) = unsentRecords rs := by
  simp [unsentRecords]

theorem exec_openSession_replied {q : OpenRequest} {f : Frame} {rest : List Frame} {s : State}
    (holdest : s.link.commands = f :: rest) (hkind : f.kind = 0x02) (htake : takeable s.link = true)
    (hparse : parseOpen f.payload = .ok q) :
    exec .openSession s =
      .next (replied f (answerOk []) (openSession q (s.setLink { s.link with commands := rest }))) :=
  congrArg Host.Outcome.next
    (takeWhen_any_replied holdest (by rw [hkind]; rfl) htake (judged_ok hparse))

theorem exec_closeSession_replied {f : Frame} {rest : List Frame} {s : State} (hready : Ready 0x03 f rest s)
    (hnone : f.payload = []) :
    exec .closeSession s =
      .next (replied f (answerOk []) (sessionClosed (s.setLink { s.link with commands := rest }))) :=
  congrArg Host.Outcome.next (takeKind_replied hready (judged_ok (parseNone_nil hnone)))

/-- An opening tells the report queue its parameters and discards a stall notice (R116, R167; log 11). -/
theorem beyondLink_openSession (q : OpenRequest) (l : HostLink) (s : State) :
    beyondLink (openSession q (s.setLink l)) = beyondLink ((s.setReports { s.reports with
      delivery := ⟨.opened, q.mode, q.window, q.retransmit, 0, none, none⟩ }).setWires
        { s.wires with stall := false }) := by
  simp only [beyondLink, openSession, queueOpened, State.setLink, State.setReports, State.setWires,
    unsentRecords_idem]

theorem not_delivering_sessionClosed (s : State) : ¬ Delivering (sessionClosed s) :=
  fun ⟨hopened, _, _⟩ => nomatch hopened

theorem exec_silenceDeadlineExpiry {d : Time} {s : State} (hopened : s.link.session.state = .opened)
    (hdeadline : s.link.session.deadline = some d) :
    exec .silenceDeadlineExpiry s = .next (if reached s.now d = true then sessionLost .silence s else s) := by
  change Host.Outcome.next (expireSilence s) = _
  simp only [expireSilence, hopened, hdeadline, due, true_and, closeWith_eq]

/-! ### The filter and the head link settings (R108, R138, R153, R184, R186) -/

theorem exec_setFilter_taken {x : Filter} {f : Frame} {rest : List Frame} {s : State} (hready : Ready 0x38 f rest s)
    (hheld : Unheld s) (hparse : parseFilter f.payload = .ok x) :
    ∃ t, exec .setFilter s = .next t ∧ Taken f rest [0x00] s (s.setReports { s.reports with filter := x }) t :=
  ⟨_, rfl, takeKind_configuration_taken (a := answerOk []) hready hheld hparse rfl⟩

theorem exec_setHeadlink_taken {x : HeadSettings} {f : Frame} {rest : List Frame} {s : State}
    (hready : Ready 0x48 f rest s) (hheld : Unheld s) (hparse : parseHeadlink f.payload = .ok x) :
    ∃ t, exec .setHeadlink s = .next t ∧ Taken f rest [0x00] s (s.setHead { s.head with settings := x }) t :=
  ⟨_, rfl, takeKind_configuration_taken (a := answerOk []) hready hheld hparse rfl⟩

theorem exec_restoreFilter_handed {p : Profile} {s : State} (h : Handed .filter p s) :
    exec .restoreFilter s = .next (partTaken .filter (s.setReports { s.reports with filter := p.filter })) := by
  obtain ⟨happlying, hhanded⟩ := h
  exact congrArg Host.Outcome.next (takePart_handed happlying hhanded)

theorem exec_restoreHeadlink_handed {p : Profile} {s : State} (h : Handed .headLink p s) :
    exec .restoreHeadlink s = .next (partTaken .headLink (s.setHead { s.head with settings := p.head })) := by
  obtain ⟨happlying, hhanded⟩ := h
  exact congrArg Host.Outcome.next (takePart_handed happlying hhanded)

end Sys2Proof.Machine

namespace Sys2Proof.ActivityReports

open Sys2Proof.Machine Sys2Proof.Safety

/-- Settles O35, by whether the sequence names a record, and the queue that the ACK then leaves. -/
theorem ackRemoves : Obligations.AckRemoves := by
  intro seq f rest s hready hparse
  refine ⟨fun habsent => exec_ack_absent hready hparse (recordsAfter_absent habsent),
    fun older r left hrecords hr holder => ?_⟩
  have hleft : recordsAfter seq s.reports.records = some left := by rw [hrecords]; exact recordsAfter_split hr holder
  have hremoved : s.reports.records.length - left.length = older.length + 1 := by
    rw [hrecords, List.length_append, List.length_cons]; omega
  have htaken := exec_ack_taken hready hparse hleft
  rw [ackQueue_eq, ackAnswer, hremoved] at htaken
  exact htaken

/-- Settles O45, by the state that each of the three leaves under the reply and the transmitter's choice. -/
theorem sessionOpensAndCloses : Obligations.SessionOpensAndCloses := by
  refine ⟨fun q f rest s holdest hkind htake hparse => ?opens, fun f rest s hready hnone => ?closes,
    fun d s hopened hdeadline => exec_silenceDeadlineExpiry hopened hdeadline⟩
  case opens =>
    refine ⟨_, exec_openSession_replied holdest hkind htake hparse, replied_answered .., replied_commands ..,
      replied_session .., (replied_beyond ..).trans (beyondLink_openSession ..), fun hbusy => ?_⟩
    have hreports := replied_reports_of_busy f (answerOk [])
      (u := openSession q (s.setLink { s.link with commands := rest })) hbusy
    rw [hreports]
    exact ⟨rfl, rfl⟩
  case closes =>
    exact ⟨_, exec_closeSession_replied hready hnone, replied_answered .., replied_commands .., replied_session ..,
      replied_reports_of_not_delivering f _ (not_delivering_sessionClosed _), replied_beyond ..⟩

/-- Settles O34: the two commands write the settings they parsed, and the two parts those of the profile. -/
theorem filterAndHeadSettings : Obligations.FilterAndHeadSettings :=
  ⟨fun _ _ _ _ hready hheld hparse => exec_setFilter_taken hready hheld hparse,
    fun _ _ _ _ hready hheld hparse => exec_setHeadlink_taken hready hheld hparse,
    fun _ _ => ⟨exec_restoreFilter_handed, exec_restoreHeadlink_handed⟩⟩

end Sys2Proof.ActivityReports
end

section
/-! The contact lines (R127–R135, R185): the debounce of inputs, the assertion of outputs, and the writing of line
records by SET_LINE and by a restored profile. -/

namespace Sys2Proof.Machine

open Sys2Proof.Safety

/-! ### Pin levels and the debounce (R129, R131) -/

/-- The outside has changed the level at a pin (R129). -/
def pinFlipped (l : LineId) (s : State) : State := s.setExtPins (upd s.extPins l (otherLevel (s.extPins.get l)))

@[simp] theorem pinFlipped_pin (l : LineId) (s : State) :
    (pinFlipped l s).extPins.get l = otherLevel (s.extPins.get l) := upd_get_self ..

/-- A level is that of an accepted state when it is the active level for ACTIVE alone (R129). -/
theorem eq_levelOf_iff (level active : Level) (accepted : LineState) :
    level = levelOf active accepted ↔ (level = active ↔ accepted = .active) := by
  cases accepted with
  | active => simp [levelOf]
  | inactive => cases level <;> cases active <;> decide

theorem acceptChange_eq (l : LineId) (stamp : Time) (s : State) : acceptChange l stamp s =
    lineTold ⟨l, (s.lines.get l).accepted, otherState (s.lines.get l).accepted, stamp⟩ (s.setLine l
      { s.lines.get l with accepted := otherState (s.lines.get l).accepted, pendingChange := none }) := rfl

theorem exec_pinLevelChange_of_not_input {l : LineId} {s : State} (hmode : (s.lines.get l).mode ≠ .input) :
    exec (.pinLevelChange l) s = .next (pinFlipped l s) :=
  congrArg Host.Outcome.next (if_neg hmode)

theorem exec_pinLevelChange_of_input {l : LineId} {s : State} (hmode : (s.lines.get l).mode = .input) :
    exec (.pinLevelChange l) s = .next (takeLevelChange l (pinFlipped l s)) :=
  congrArg Host.Outcome.next (if_pos hmode)

/-- The level is again that of the accepted state: the pending change is discarded (R129). -/
theorem takeLevelChange_of_returns {l : LineId} {level : Level} {s : State} (hpin : s.extPins.get l = level)
    (h : level = (s.lines.get l).activeLevel ↔ (s.lines.get l).accepted = .active) :
    takeLevelChange l s = s.setLine l { s.lines.get l with pendingChange := none } :=
  if_pos (hpin.trans ((eq_levelOf_iff ..).mpr h))

/-- The level leaves that of the accepted state: a change begins (R129). -/
theorem takeLevelChange_of_leaves {l : LineId} {level : Level} {s : State} (hpin : s.extPins.get l = level)
    (h : ¬ (level = (s.lines.get l).activeLevel ↔ (s.lines.get l).accepted = .active))
    (hnone : (s.lines.get l).pendingChange = none) : takeLevelChange l s = beginChange l s :=
  (if_neg fun heq => h ((eq_levelOf_iff ..).mp (hpin.symm.trans heq))).trans (if_pos (by rw [hnone]; rfl))

theorem beginChange_of_immediate {l : LineId} {s : State} (h : (s.lines.get l).debounce = 0) :
    beginChange l s = acceptChange l s.now s := if_pos h

theorem beginChange_of_debounced {l : LineId} {s : State} (h : (s.lines.get l).debounce ≠ 0) :
    beginChange l s = s.setLine l
      { s.lines.get l with pendingChange := some (later s.now (s.lines.get l).debounce) } := if_neg h

theorem expireDebounce_of_pending {l : LineId} {d : Time} {s : State} (h : (s.lines.get l).pendingChange = some d) :
    expireDebounce l s = if reached s.now d then acceptChange l d s else s := by
  simp only [expireDebounce, h]

/-! ### The assertion of outputs (R132–R134) -/

theorem lineAsserted_iff (now : Time) (line : Line) : lineAsserted now line = true ↔ line.drive = .on ∨
    (line.drive = .auto ∧ ((∃ r, line.claimants.get r = true) ∨ ∃ d, line.pulse = some d ∧ after d now = true)) := by
  have hclaimed : line.claimants.toList.any id = true ↔ ∃ r, line.claimants.get r = true := by
    simp only [List.any_eq_true, id_eq, exists_eq_right, Vector.mem_toList_iff, Vector.mem_iff_getElem]
    exact ⟨fun ⟨i, hi, h⟩ => ⟨⟨i, hi⟩, h⟩, fun ⟨r, h⟩ => ⟨r, r.isLt, h⟩⟩
  unfold lineAsserted
  cases line.drive with
  | on => simp
  | off => simp
  | auto =>
    rw [Bool.or_eq_true, hclaimed]
    cases line.pulse <;> simp

/-- The judging of an assertion writes the assertion alone. -/
theorem reassert_eq (now : Time) (line : Line) :
    reassert now line = { line with asserted := (reassert now line).asserted } := by
  unfold reassert
  split <;> rfl

theorem reassert_asserts {now : Time} {line : Line} (hmode : line.mode = .output) :
    Asserts now (reassert now line) := by
  rw [reassert, if_pos hmode]
  exact ⟨lineAsserted_iff now line⟩

theorem reassert_of_not_output {now : Time} {line : Line} (hmode : line.mode ≠ .output) :
    reassert now line = line := if_neg hmode

/-- The later of a held deadline and a new one, as the statements write it (R133). -/
theorem some_laterOf (old : Option Time) (new : Time) : some (laterOf old new) = match old with
    | none => some new
    | some d => if after new d = true then some new else some d := by
  cases old with
  | none => rfl
  | some d => exact apply_ite some ..

theorem claimLine_of_output {l : LineId} {r : RuleId} {present : Bool} {s : State}
    (hmode : (s.lines.get l).mode = .output) : claimLine l r present s = s.setLine l
      (reassert s.now { s.lines.get l with claimants := upd (s.lines.get l).claimants r present }) := if_pos hmode

theorem claimLine_of_not_output {l : LineId} {r : RuleId} {present : Bool} {s : State}
    (hmode : (s.lines.get l).mode ≠ .output) : claimLine l r present s = s := if_neg hmode

theorem pulseLine_of_output {l : LineId} {steps : Nat} {s : State} (hmode : (s.lines.get l).mode = .output) :
    pulseLine l steps s = s.setLine l (reassert s.now
      { s.lines.get l with pulse := some (laterOf (s.lines.get l).pulse (later s.now steps)) }) := if_pos hmode

theorem pulseLine_of_not_output {l : LineId} {steps : Nat} {s : State} (hmode : (s.lines.get l).mode ≠ .output) :
    pulseLine l steps s = s := if_neg hmode

theorem expirePulse_of_due {l : LineId} {s : State} (h : due s.now (s.lines.get l).pulse = true) :
    expirePulse l s = s.setLine l (reassert s.now { s.lines.get l with pulse := none }) := if_pos h

theorem exec_latchClaim_of_cons {r : RuleId} {l : LineId} {rest : List Claim} {s : State}
    (h : s.wires.claims = .latch r l :: rest) :
    exec .latchClaim s = .next (claimLine l r true (s.setWires { s.wires with claims := rest })) := by
  show execLatchClaim s = _
  simp only [execLatchClaim, h]

theorem exec_latchDrop_of_cons {r : RuleId} {l : LineId} {rest : List Claim} {s : State}
    (h : s.wires.claims = .drop r l :: rest) :
    exec .latchDrop s = .next (claimLine l r false (s.setWires { s.wires with claims := rest })) := by
  show execLatchDrop s = _
  simp only [execLatchDrop, h]

theorem exec_pulseClaim_of_cons {l : LineId} {steps : Nat} {rest : List Claim} {s : State}
    (h : s.wires.claims = .pulse l steps :: rest) :
    exec .pulseClaim s = .next (pulseLine l steps (s.setWires { s.wires with claims := rest })) := by
  show execPulseClaim s = _
  simp only [execPulseClaim, h]

theorem exec_driveLine_taken {l : LineId} {drive : HostDrive} {f : Frame} {rest : List Frame} {s : State}
    (hready : Ready 0x41 f rest s) (hparse : parseDriveLine f.payload = .ok (l, drive)) :
    ∃ t, exec .driveLine s = .next t ∧
      Taken f rest [0x00] s (s.setLine l (reassert s.now { s.lines.get l with drive := drive })) t :=
  ⟨_, rfl, takeKind_judged_taken (a := answerOk []) hready hparse rfl⟩

/-! ### The writing of line records (R127, R128, R135) -/

/-- The transitions that a line sends one after the other (R131). -/
def tellsEach (l : LineId) (changes : List (LineState × LineState)) (s : State) : State :=
  changes.foldl (fun u t => lineTold ⟨l, t.1, t.2, u.now⟩ u) s

theorem tellsEach_setLink (l : LineId) (changes : List (LineState × LineState)) (k : HostLink) : ∀ s : State,
    tellsEach l changes (s.setLink k) = (tellsEach l changes s).setLink k := by
  induction changes with
  | nil => exact fun _ => rfl
  | cons t changes ih => exact fun s => ih (lineTold ⟨l, t.1, t.2, s.now⟩ s)

theorem lineWrites_eq (l : LineId) (cfg : LineConfig) (s : State) : lineWrites l cfg s =
    tellsEach l (lineWritten s.now (s.extPins.get l) cfg (s.lines.get l)).2
      (s.setLine l (lineWritten s.now (s.extPins.get l) cfg (s.lines.get l)).1) := rfl

/-- A line write does not see the host link. -/
theorem lineWrites_setLink (l : LineId) (cfg : LineConfig) (s : State) (k : HostLink) :
    lineWrites l cfg (s.setLink k) = (lineWrites l cfg s).setLink k := by
  rw [lineWrites_eq, lineWrites_eq, ← tellsEach_setLink]
  rfl

theorem exec_setLine_taken {l : LineId} {cfg : LineConfig} {f : Frame} {rest : List Frame} {s : State}
    (hready : Ready 0x40 f rest s) (hheld : Unheld s) (hparse : parseSetLine f.payload = .ok (l, cfg))
    (hfree : lineInUse l cfg.mode s = false) :
    ∃ t, exec .setLine s = .next t ∧ Taken f rest [0x00] s (lineWrites l cfg s) t := by
  refine ⟨_, rfl, takeKind_configuration_taken (a := answerOk []) hready hheld hparse
    ((if_neg (Bool.eq_false_iff.mp hfree)).trans ?_)⟩
  rw [writeLine_eq, lineWrites_setLink]

theorem exec_setLine_inUse {l : LineId} {cfg : LineConfig} {f : Frame} {rest : List Frame} {s : State}
    (hready : Ready 0x40 f rest s) (hheld : Unheld s) (hparse : parseSetLine f.payload = .ok (l, cfg))
    (huse : lineInUse l cfg.mode s = true) : ∃ t, exec .setLine s = .next t ∧ Taken f rest [0x06] s s t :=
  ⟨_, rfl, takeKind_configuration_taken (a := answerRefused .inUse) hready hheld hparse (if_pos huse)⟩

theorem restoreLines_eq (p : Profile) (s : State) :
    restoreLines p s = (List.finRange 8).foldl (fun s l => lineWrites l (p.lines.get l) s) s := by
  simp only [restoreLines, writeLine_eq, allIds]

theorem exec_restoreLines_handed {p : Profile} {s : State} (h : Handed .lines p s) :
    exec .restoreLines s = .next (partTaken .lines (restoreLines p s)) := by
  obtain ⟨happlying, hhanded⟩ := h
  exact congrArg Host.Outcome.next (takePart_handed happlying hhanded)

end Sys2Proof.Machine

namespace Sys2Proof.ContactLines

open Sys2Proof.Machine Sys2Proof.Safety

/-- Settles O37, by whether the level leaves or returns to that of the accepted state, and the debounce. -/
theorem pinDebounced : Obligations.PinDebounced := by
  intro l s
  refine ⟨exec_pinLevelChange_of_not_input, fun hmode => ?level, fun d hpending => ?deadline⟩
  case level =>
    have hpin := pinFlipped_pin l s
    rw [exec_pinLevelChange_of_input hmode]
    refine ⟨fun hreturns => ?_, fun hleaves hnone himmediate => ?_, fun hleaves hnone hdebounced => ?_⟩
    · exact congrArg _ (takeLevelChange_of_returns hpin hreturns)
    · rw [takeLevelChange_of_leaves hpin hleaves hnone,
        beginChange_of_immediate (s := pinFlipped l s) himmediate, acceptChange_eq]
      rfl
    · rw [takeLevelChange_of_leaves hpin hleaves hnone,
        beginChange_of_debounced (s := pinFlipped l s) hdebounced]
      rfl
  case deadline =>
    exact congrArg Host.Outcome.next (expireDebounce_of_pending hpending)

/-- Settles O38: each event writes one OUTPUT line's record and judges its assertion. -/
theorem outputsAsserted : Obligations.OutputsAsserted := by
  intro l s
  refine ⟨fun r rest hclaims => ?latch, fun r rest hclaims => ?drop, fun n rest hclaims => ?pulse,
    fun d hmode hpulse hreached => ?expiry, fun drive f rest hready hparse => ?drive⟩
  case latch =>
    rw [exec_latchClaim_of_cons hclaims]
    exact ⟨fun hmode => congrArg _ (claimLine_of_not_output hmode), fun hmode =>
      ⟨_, congrArg _ (claimLine_of_output hmode), reassert_asserts hmode, reassert_eq ..⟩⟩
  case drop =>
    rw [exec_latchDrop_of_cons hclaims]
    exact ⟨fun hmode => congrArg _ (claimLine_of_not_output hmode), fun hmode =>
      ⟨_, congrArg _ (claimLine_of_output hmode), reassert_asserts hmode, reassert_eq ..⟩⟩
  case pulse =>
    rw [exec_pulseClaim_of_cons hclaims]
    refine ⟨fun hmode => congrArg _ (pulseLine_of_not_output hmode), fun hmode =>
      ⟨_, congrArg _ (pulseLine_of_output hmode), reassert_asserts hmode, (reassert_eq ..).trans ?_⟩⟩
    rw [some_laterOf]
    rfl
  case expiry =>
    have hdue : due s.now (s.lines.get l).pulse = true := by rw [hpulse]; exact hreached
    exact ⟨_, congrArg Host.Outcome.next (expirePulse_of_due hdue), reassert_asserts hmode, reassert_eq ..⟩
  case drive =>
    obtain ⟨t, hexec, htaken⟩ := exec_driveLine_taken hready hparse
    exact ⟨t, _, hexec, htaken, reassert_eq .., fun hmode => reassert_asserts hmode,
      fun hmode => by rw [reassert_of_not_output (by exact hmode)]⟩

/-- Settles O39: by whether a rule's reference stands against the mode, and the restored lines by `writeLine_eq`. -/
theorem linesWritten : Obligations.LinesWritten := by
  refine ⟨fun l cfg f rest s hready hheld hparse hfree => ?taken,
    fun l cfg r rule f rest s hready hheld hparse hr hbreaks => ?refused, fun p s hhanded => ?restored⟩
  case taken =>
    refine exec_setLine_taken hready hheld hparse ((lineInUse_eq_false_iff ..).mpr
      ⟨fun r rule n hr hmem => by_contra fun hmode => ?_, fun r rule form hr hmem => by_contra fun hmode => ?_⟩)
    · obtain ⟨hterms, _⟩ := hfree r rule hr
      exact hterms hmode _ hmem rfl
    · obtain ⟨_, hactions⟩ := hfree r rule hr
      exact hactions hmode form hmem
  case refused =>
    refine exec_setLine_inUse hready hheld hparse ((Bool.not_eq_false _).mp fun hfree => ?_)
    obtain ⟨hterms, hactions⟩ := (lineInUse_eq_false_iff ..).mp hfree
    rcases hbreaks with ⟨hmode, ⟨operand, n⟩, hmem, rfl⟩ | ⟨hmode, form, hmem⟩
    · exact hmode (hterms r rule n hr hmem)
    · exact hmode (hactions r rule form hr hmem)
  case restored => rw [exec_restoreLines_handed hhanded, restoreLines_eq]

end Sys2Proof.ContactLines
end

section
/-! What the rows of the zone engine, the rule engine, the scheduler, the contact block and the profile store keep of a
property that their block's fields do not enter: one structure per block, one lemma per operation. -/

namespace Sys2Proof.Machine

open Sys2Proof.Safety

variable {P : State → Prop}

/-! ### Zones (chapter 02) -/

/-- A property that no change of the zone engine, of the cameras or of the paths can break. -/
structure ZoneBlind (P : State → Prop) : Prop where
  zones : ∀ s x, P s → P (s.setZones x)
  cams : ∀ s x, P s → P (s.setCams x)
  wires : ∀ s x, P s → P (s.setWires x)

theorem ZoneBlind.zoneTransition (hP : ZoneBlind P) (z : ZoneId) (zone : Zone) (st : ZoneState) (cause : ZoneCause)
    (stamp : Time) {s : State} (h : P s) : P (zoneTransition z zone st cause stamp s) := by
  unfold Machine.zoneTransition
  dsimp only
  split
  · exact hP.wires _ _ (hP.wires _ _ (hP.zones _ _ h))
  · exact hP.wires _ _ (hP.zones _ _ h)

/-- The zone's entries on their way and its place in the field in progress are discarded (R16, R32). -/
theorem ZoneBlind.discard (hP : ZoneBlind P) (gone : ZoneId → Bool) {s : State} (h : P s) :
    P (disqualify gone (purgeSummaries gone s)) :=
  hP.cams _ _ (hP.wires _ _ h)

theorem ZoneBlind.learnField (hP : ZoneBlind P) (cls : SensClass) (z : ZoneId) (zone : Zone) (mean : Nat) (stamp : Time)
    {s : State} (h : P s) : P (learnField cls z zone mean stamp s) := by
  unfold Machine.learnField
  dsimp only
  split
  · exact hP.zoneTransition _ _ _ _ _ h
  · exact hP.zones _ _ h

theorem ZoneBlind.quietField (hP : ZoneBlind P) (cls : SensClass) (z : ZoneId) (zone : Zone) (reference mean : Nat)
    (stamp : Time) {s : State} (h : P s) : P (quietField cls z zone reference mean stamp s) := by
  unfold Machine.quietField
  dsimp only
  split
  · exact hP.zoneTransition _ _ _ _ _ h
  · exact hP.zones _ _ h

theorem ZoneBlind.activeField (hP : ZoneBlind P) (cls : SensClass) (z : ZoneId) (zone : Zone) (reference mean : Nat)
    (stamp : Time) {s : State} (h : P s) : P (activeField cls z zone reference mean stamp s) := by
  unfold Machine.activeField
  dsimp only
  split
  · exact hP.zoneTransition _ _ _ _ _ h
  · split
    · exact hP.zoneTransition _ _ _ _ _ h
    · exact hP.zones _ _ h

theorem ZoneBlind.takeEntry (hP : ZoneBlind P) (stamp : Time) (s : State) (entry : ZoneId × Nat) (h : P s) :
    P (takeEntry stamp s entry) := by
  unfold Machine.takeEntry
  split
  · exact h
  · dsimp only
    split
    · exact h
    · exact h
    · exact hP.learnField _ _ _ _ _ h
    · exact hP.quietField _ _ _ _ _ _ h
    · exact hP.activeField _ _ _ _ _ _ h

theorem ZoneBlind.execFieldSummary (hP : ZoneBlind P) (c : CameraId) {s : State} (h : P s) :
    ∃ t, execFieldSummary c s = .next t ∧ P t := by
  refine ⟨_, rfl, ?_⟩
  split
  · exact foldl_keeps (hP.takeEntry _) _ _ (hP.wires _ _ h)
  · exact h

theorem ZoneBlind.noticeZone (hP : ZoneBlind P) (n : CameraNotice) (c : CameraId) (s : State) (z : ZoneId) (h : P s) :
    P (noticeZone n c s z) := by
  unfold Machine.noticeZone
  split
  · exact h
  · split
    · split
      · split
        · exact h
        · exact h
        · exact hP.zoneTransition _ _ _ _ _ h
      · split
        · split
          · exact hP.zoneTransition _ _ _ _ _ h
          · exact hP.zoneTransition _ _ _ _ _ h
        · exact h
    · exact h

theorem ZoneBlind.takeZoneNotice (hP : ZoneBlind P) (c : CameraId) (n : CameraNotice) {s : State} (h : P s) :
    P (takeZoneNotice c n s) :=
  foldl_keeps (hP.noticeZone n c) _ _ (hP.zones _ _ h)

theorem ZoneBlind.execCameraNoticeAtZones (hP : ZoneBlind P) (c : CameraId) {s : State} (h : P s) :
    ∃ t, execCameraNoticeAtZones c s = .next t ∧ P t := by
  have hdropped : P (dropCameraMessage c s) := hP.wires _ _ h
  refine ⟨_, rfl, ?_⟩
  split
  · exact hP.takeZoneNotice c _ hdropped
  · split
    · exact hP.takeZoneNotice c _ hdropped
    · exact h
  · exact h

theorem ZoneBlind.putZone (hP : ZoneBlind P) (z : ZoneId) (cfg : ZoneConfig) {s : State} (h : P s) :
    P (putZone z cfg s) := by
  have hgone := hP.discard (· == z) h
  unfold Machine.putZone
  split
  · split
    · exact hP.zoneTransition _ _ _ _ _ h
    · exact hP.zones _ _ h
  · dsimp only
    split
    · exact hP.zones _ _ h
    · exact hP.zoneTransition _ _ _ _ _ h
    · exact hP.zoneTransition _ _ _ _ _ hgone
    · split
      · exact hP.zoneTransition _ _ _ _ _ hgone
      · exact hP.zones _ _ h

theorem ZoneBlind.dropZone (hP : ZoneBlind P) (z : ZoneId) (zone : Zone) {s : State} (h : P s) :
    P (dropZone z zone s) := by
  have hgone := hP.discard (· == z) h
  unfold Machine.dropZone
  dsimp only
  refine hP.zones _ _ ?_
  split
  · exact hgone
  · exact hP.zoneTransition _ _ _ _ _ hgone

theorem ZoneBlind.restoreZones (hP : ZoneBlind P) (p : Profile) {s : State} (h : P s) : P (restoreZones p s) :=
  hP.wires _ _ (hP.zones _ _ (hP.discard _ h))

theorem ZoneBlind.judgeDropZone (hP : ZoneBlind P) : JudgementKeeps P judgeDropZone := by
  refine configuration_keeps (judged_keeps fun z s h => ?_)
  split
  · exact h
  · split
    · exact h
    · exact hP.dropZone _ _ h

theorem ZoneBlind.judgeRelearnZone (hP : ZoneBlind P) : JudgementKeeps P judgeRelearnZone := by
  refine judged_keeps fun z s h => ?_
  split
  · exact h
  · split
    · exact hP.zoneTransition _ _ _ _ _ (hP.wires _ _ h)
    · exact h

theorem ZoneBlind.judgeGetZone : JudgementKeeps P judgeGetZone := by
  refine judged_keeps fun z s h => ?_
  split <;> exact h

/-! ### Rules (chapter 03) -/

/-- A property that no change of the rule engine or of the paths can break. -/
structure RuleBlind (P : State → Prop) : Prop where
  rules : ∀ s x, P s → P (s.setRules x)
  wires : ∀ s x, P s → P (s.setWires x)

theorem RuleBlind.takeCopies (hP : RuleBlind P) {e' : RuleEngine} {s : State} (htable : e'.table = s.ruleEngine.table)
    (h : P s) : P (takeCopies e' s) := by
  rw [takeCopies_eq_rulesMeet htable]
  exact hP.wires _ _ (hP.rules _ _ h)

theorem RuleBlind.execZoneTransition (hP : RuleBlind P) {s : State} (h : P s) :
    ∃ t, execZoneTransition s = .next t ∧ P t := by
  refine ⟨_, rfl, ?_⟩
  split
  · exact hP.takeCopies (s := dropZoneMessage s) rfl (hP.wires _ _ h)
  · exact h

theorem RuleBlind.execLineTransition (hP : RuleBlind P) (l : LineId) {s : State} (h : P s) :
    ∃ t, execLineTransition l s = .next t ∧ P t := by
  refine ⟨_, rfl, ?_⟩
  split
  · exact hP.takeCopies (s := dropLineMessage l s) rfl (hP.wires _ _ h)
  · exact h

theorem RuleBlind.execRestartNotice (hP : RuleBlind P) {s : State} (h : P s) :
    ∃ t, execRestartNotice s = .next t ∧ P t := by
  refine ⟨_, rfl, ?_⟩
  split
  · exact hP.rules _ _ (hP.wires _ _ h)
  · exact h

theorem RuleBlind.fireRule (hP : RuleBlind P) (r : RuleId) (rule : Rule) {s : State} (h : P s) :
    P (fireRule r rule s) := by
  rw [fireRule_eq]
  exact hP.wires _ _ (hP.rules _ _ h)

theorem RuleBlind.releaseRule (hP : RuleBlind P) (r : RuleId) (rule : Rule) (cause : ClearCause) {s : State}
    (h : P s) : P (releaseRule r rule cause s) := by
  rw [releaseRule_eq]
  exact hP.wires _ _ h

theorem RuleBlind.expireStep (hP : RuleBlind P) (r : RuleId) {s : State} (h : P s) : P (expireStep r s) := by
  unfold Machine.expireStep
  split
  · exact h
  · split
    · exact hP.rules _ _ h
    · exact h

theorem RuleBlind.expireCooldown (hP : RuleBlind P) (r : RuleId) {s : State} (h : P s) : P (expireCooldown r s) := by
  unfold Machine.expireCooldown
  split
  · exact h
  · split
    · exact hP.rules _ _ (hP.releaseRule _ _ _ h)
    · exact h

theorem RuleBlind.disarmRule (hP : RuleBlind P) (r : RuleId) (rule : Rule) (cause : ClearCause) {s : State} (h : P s) :
    P (disarmRule r rule cause s) := by
  unfold Machine.disarmRule
  dsimp only
  refine hP.rules _ _ ?_
  split
  · exact hP.releaseRule _ _ _ h
  · exact h

theorem RuleBlind.armRule (hP : RuleBlind P) (r : RuleId) (rule : Rule) {s : State} (h : P s) :
    P (armRule r rule s) := by
  unfold Machine.armRule
  dsimp only
  split
  · exact hP.fireRule _ _ h
  · exact hP.rules _ _ h

theorem RuleBlind.storeRule (hP : RuleBlind P) (r : RuleId) (cfg : RuleConfig) (run : RuleRun) {s : State} (h : P s) :
    P (storeRule r cfg run s) := by
  unfold Machine.storeRule
  split
  · exact hP.armRule _ _ h
  · exact hP.rules _ _ h

theorem RuleBlind.putRule (hP : RuleBlind P) (r : RuleId) (cfg : RuleConfig) {s : State} (h : P s) :
    P (putRule r cfg s) := by
  unfold Machine.putRule
  split
  · exact hP.storeRule _ _ _ h
  · exact hP.storeRule _ _ _ (hP.disarmRule _ _ _ h)

theorem RuleBlind.setArmed (hP : RuleBlind P) (r : RuleId) (rule : Rule) (armed : Bool) {s : State} (h : P s) :
    P (setArmed r rule armed s) := by
  unfold Machine.setArmed
  split
  · split
    · exact h
    · exact hP.armRule _ _ h
  · exact hP.disarmRule _ _ _ h

theorem RuleBlind.removeRules (hP : RuleBlind P) {s : State} (h : P s) : P (removeRules s) := by
  rw [removeRules_eq fun _ _ => rfl]
  exact hP.wires _ _ (hP.rules _ _ h)

theorem RuleBlind.restoreRules (hP : RuleBlind P) (p : Profile) {s : State} (h : P s) : P (restoreRules p s) := by
  rw [restoreRules_eq fun _ _ => rfl]
  exact hP.wires _ _ (hP.rules _ _ h)

theorem RuleBlind.judgePutRule (hP : RuleBlind P) : JudgementKeeps P judgePutRule := by
  refine configuration_keeps (judged_keeps fun x s h => ?_)
  dsimp only
  split
  · exact h
  · exact hP.putRule _ _ h

/-- A command on a defined rule keeps a property that its effect on every rule keeps. -/
theorem onRule_keeps_any {r : RuleId} {f : Rule → State → Answer × State} {s : State} (h : P s)
    (hf : ∀ rule, P (f rule s).2) : P (onRule r f s).2 := by
  unfold onRule
  split
  · exact h
  · exact hf _

theorem RuleBlind.judgeDropRule (hP : RuleBlind P) : JudgementKeeps P judgeDropRule :=
  configuration_keeps (judged_keeps fun _ _ h => onRule_keeps_any h fun _ => hP.rules _ _ (hP.disarmRule _ _ _ h))

theorem RuleBlind.judgeArmRule (hP : RuleBlind P) : JudgementKeeps P judgeArmRule :=
  configuration_keeps (judged_keeps fun _ _ h => onRule_keeps_any h fun _ => hP.setArmed _ _ _ h)

theorem RuleBlind.judgeGetRule : JudgementKeeps P judgeGetRule :=
  judged_keeps fun _ _ h => onRule_keeps_any h fun _ => h

/-! ### The schedule (chapter 04) -/

/-- A property that no change of the scheduler or of the paths can break. -/
structure ScheduleBlind (P : State → Prop) : Prop where
  sched : ∀ s x, P s → P (s.setSched x)
  wires : ∀ s x, P s → P (s.setWires x)

theorem ScheduleBlind.toSourceBlind (hP : ScheduleBlind P) : SourceBlind P where
  wires := hP.wires
  sched s x _ _ _ _ h := hP.sched s x h

theorem ScheduleBlind.enterOver (hP : ScheduleBlind P) (old : Request) (o : RequestOutcome) (q : ViewRequest)
    {s : State} (h : P s) : P (enterOver old o q s) := by
  have hentered : P (enterRequest q (endRequest old o s)) := hP.sched _ _ (hP.toSourceBlind.endRequest old o h)
  unfold Machine.enterOver
  dsimp only
  split
  · exact hP.toSourceBlind.chooseSource hentered
  · exact hP.toSourceBlind.judgeEntry _ hentered

theorem ScheduleBlind.takeRequest (hP : ScheduleBlind P) (q : ViewRequest) {s : State} (h : P s) :
    P (takeRequest q s).2 := by
  unfold Machine.takeRequest
  split
  · exact hP.wires _ _ h
  · split
    · exact hP.enterOver _ _ _ h
    · split
      · exact hP.toSourceBlind.judgeEntry _ (hP.sched _ _ h)
      · split
        · split
          · exact hP.enterOver _ _ _ h
          · exact hP.wires _ _ h
        · exact h

theorem ScheduleBlind.execViewRequest (hP : ScheduleBlind P) {s : State} (h : P s) :
    ∃ t, execViewRequest s = .next t ∧ P t := by
  refine ⟨_, rfl, ?_⟩
  split
  · exact hP.takeRequest _ (hP.wires _ _ h)
  · exact h

theorem ScheduleBlind.putView (hP : ScheduleBlind P) (v : ViewId) (cfg : ViewConfig) {s : State} (h : P s) :
    P (putView v cfg s) := by
  unfold Machine.putView
  dsimp only
  split
  · exact hP.toSourceBlind.advanceUnshowable (hP.sched _ _ h)
  · exact hP.toSourceBlind.chooseSource (hP.sched _ _ h)
  · exact hP.sched _ _ h

theorem ScheduleBlind.setRotation (hP : ScheduleBlind P) (es : List RotationEntry) {s : State} (h : P s) :
    P (setRotation es s) := by
  unfold Machine.setRotation
  dsimp only
  split
  · exact hP.toSourceBlind.chooseSource (hP.sched _ _ h)
  · exact hP.toSourceBlind.chooseSource (hP.sched _ _ h)
  · exact hP.sched _ _ h

theorem ScheduleBlind.setHold (hP : ScheduleBlind P) (v : ViewId) {s : State} (h : P s) : P (setHold v s) := by
  unfold Machine.setHold
  split
  · exact h
  · exact hP.toSourceBlind.selectSource _ (hP.sched _ _ h)

theorem ScheduleBlind.releaseHold (hP : ScheduleBlind P) {s : State} (h : P s) : P (releaseHold s) := by
  unfold Machine.releaseHold
  split
  · exact h
  · exact hP.toSourceBlind.chooseSource (hP.sched _ _ h)

theorem ScheduleBlind.restoreSchedule (hP : ScheduleBlind P) (p : Profile) {s : State} (h : P s) :
    P (restoreSchedule p s) :=
  hP.toSourceBlind.chooseSource (hP.sched _ _
    (foldl_keeps (fun _ q h => hP.toSourceBlind.endRequest q .restored h) _ _ (hP.sched _ _ h)))

theorem ScheduleBlind.judgeDropView (hP : ScheduleBlind P) : JudgementKeeps P judgeDropView := by
  refine configuration_keeps (judged_keeps fun v s h => ?_)
  split
  · exact h
  · split
    · exact h
    · exact hP.sched _ _ h

theorem ScheduleBlind.judgeSetRotation (hP : ScheduleBlind P) : JudgementKeeps P judgeSetRotation := by
  refine configuration_keeps (judged_keeps fun es s h => ?_)
  split
  · exact h
  · exact hP.setRotation _ h

theorem ScheduleBlind.judgeShowView (hP : ScheduleBlind P) : JudgementKeeps P judgeShowView := by
  refine judged_keeps fun q s h => ?_
  have htaken := hP.takeRequest q h
  split
  · exact h
  · split
    next heq => exact congrArg Prod.snd heq ▸ htaken
    next heq => exact congrArg Prod.snd heq ▸ htaken

theorem ScheduleBlind.judgeHold (hP : ScheduleBlind P) : JudgementKeeps P judgeHold := by
  refine judged_keeps fun v s h => ?_
  split
  · exact h
  · exact hP.setHold _ h

/-! ### Contact lines (chapter 06) -/

/-- A property that no change of the contact lines, of their pins or of the paths can break. -/
structure LineBlind (P : State → Prop) : Prop where
  lines : ∀ s x, P s → P (s.setLines x)
  pins : ∀ s x, P s → P (s.setExtPins x)
  wires : ∀ s x, P s → P (s.setWires x)

theorem LineBlind.acceptChange (hP : LineBlind P) (l : LineId) (stamp : Time) {s : State} (h : P s) :
    P (acceptChange l stamp s) :=
  hP.wires _ _ (hP.wires _ _ (hP.lines _ _ h))

theorem LineBlind.beginChange (hP : LineBlind P) (l : LineId) {s : State} (h : P s) : P (beginChange l s) := by
  unfold Machine.beginChange
  dsimp only
  split
  · exact hP.acceptChange _ _ h
  · exact hP.lines _ _ h

theorem LineBlind.takeLevelChange (hP : LineBlind P) (l : LineId) {s : State} (h : P s) : P (takeLevelChange l s) := by
  unfold Machine.takeLevelChange
  dsimp only
  split
  · exact hP.lines _ _ h
  · split
    · exact hP.beginChange _ h
    · exact h

theorem LineBlind.execPinLevelChange (hP : LineBlind P) (l : LineId) {s : State} (h : P s) :
    ∃ t, execPinLevelChange l s = .next t ∧ P t := by
  refine ⟨_, rfl, ?_⟩
  dsimp only
  split
  · exact hP.takeLevelChange _ (hP.pins _ _ h)
  · exact hP.pins _ _ h

theorem LineBlind.expireDebounce (hP : LineBlind P) (l : LineId) {s : State} (h : P s) : P (expireDebounce l s) := by
  unfold Machine.expireDebounce
  split
  · split
    · exact hP.acceptChange _ _ h
    · exact h
  · exact h

theorem LineBlind.claimLine (hP : LineBlind P) (l : LineId) (r : RuleId) (present : Bool) {s : State} (h : P s) :
    P (claimLine l r present s) := by
  unfold Machine.claimLine
  dsimp only
  split
  · exact hP.lines _ _ h
  · exact h

theorem LineBlind.pulseLine (hP : LineBlind P) (l : LineId) (steps : Nat) {s : State} (h : P s) :
    P (pulseLine l steps s) := by
  unfold Machine.pulseLine
  dsimp only
  split
  · exact hP.lines _ _ h
  · exact h

theorem LineBlind.execLatchClaim (hP : LineBlind P) {s : State} (h : P s) : ∃ t, execLatchClaim s = .next t ∧ P t := by
  refine ⟨_, rfl, ?_⟩
  split
  · exact hP.claimLine _ _ _ (hP.wires _ _ h)
  · exact h

theorem LineBlind.execLatchDrop (hP : LineBlind P) {s : State} (h : P s) : ∃ t, execLatchDrop s = .next t ∧ P t := by
  refine ⟨_, rfl, ?_⟩
  split
  · exact hP.claimLine _ _ _ (hP.wires _ _ h)
  · exact h

theorem LineBlind.execPulseClaim (hP : LineBlind P) {s : State} (h : P s) : ∃ t, execPulseClaim s = .next t ∧ P t := by
  refine ⟨_, rfl, ?_⟩
  split
  · exact hP.pulseLine _ _ (hP.wires _ _ h)
  · exact h

theorem LineBlind.expirePulse (hP : LineBlind P) (l : LineId) {s : State} (h : P s) : P (expirePulse l s) := by
  unfold Machine.expirePulse
  dsimp only
  split
  · exact hP.lines _ _ h
  · exact h

theorem LineBlind.writeLine (hP : LineBlind P) (l : LineId) (cfg : LineConfig) {s : State} (h : P s) :
    P (writeLine l cfg s) := by
  obtain ⟨line, x, _, hwritten⟩ := writeLine_frame l cfg s
  rw [hwritten]
  exact hP.wires _ _ (hP.lines _ _ h)

theorem LineBlind.restoreLines (hP : LineBlind P) (p : Profile) {s : State} (h : P s) : P (restoreLines p s) :=
  foldl_keeps (fun _ _ h => hP.writeLine _ _ h) _ _ h

/-- An INPUT line that judges its pin at the start of the contact block (R130). -/
theorem LineBlind.startPin (hP : LineBlind P) (s : State) (l : LineId) (h : P s) : P (startPin s l) := by
  unfold Machine.startPin judgePin
  split
  · split
    · exact hP.beginChange _ h
    · exact h
  · exact h

theorem LineBlind.fullReset (hP : LineBlind P) {straps : Straps} {rate : HostRate} {std : Standard} {s : State}
    (h : P (startBlocks straps rate std s)) : P (fullReset straps rate std s) :=
  foldl_keeps hP.startPin _ _ h

theorem LineBlind.judgeSetLine (hP : LineBlind P) : JudgementKeeps P judgeSetLine := by
  refine configuration_keeps (judged_keeps fun x s h => ?_)
  dsimp only
  split
  · exact h
  · exact hP.writeLine _ _ h

/-! ### The profile store (chapter 10) -/

/-- A property that no change of the profile store or of the paths can break. -/
structure StoreBlind (P : State → Prop) : Prop where
  store : ∀ s x, P s → P (s.setStore x)
  wires : ∀ s x, P s → P (s.setWires x)

theorem StoreBlind.endOperation (hP : StoreBlind P) (x : ProfileStore) (r : Report) {s : State} (h : P s) :
    P (endOperation x r s) :=
  hP.wires _ _ (hP.store _ _ h)

theorem StoreBlind.takeCommit (hP : StoreBlind P) {s : State} (h : P s) : P (takeCommit s) := by
  unfold Machine.takeCommit
  split
  · exact hP.store _ _ h
  · exact hP.endOperation _ _ h

theorem StoreBlind.completeWrite (hP : StoreBlind P) (stored : Option SlotImage) {s : State} (h : P s) :
    P (completeWrite stored s) := by
  unfold Machine.completeWrite
  split
  · exact hP.store _ _ h
  · exact h

theorem StoreBlind.completeVerify (hP : StoreBlind P) (good : Bool) {s : State} (h : P s) :
    P (completeVerify good s) := by
  unfold Machine.completeVerify
  split
  · split
    · exact hP.store _ _ h
    · exact hP.endOperation _ _ h
  · exact h

theorem StoreBlind.completeGeneration (hP : StoreBlind P) (readBack afterErase : Word32) {s : State} (h : P s) :
    P (completeGeneration readBack afterErase s) := by
  unfold Machine.completeGeneration
  split
  · dsimp only
    split
    · exact hP.endOperation _ _ h
    · exact hP.endOperation _ _ h
  · exact h

theorem StoreBlind.completeRead (hP : StoreBlind P) (good : Bool) {s : State} (h : P s) : P (completeRead good s) := by
  unfold Machine.completeRead
  split
  · split
    · exact hP.store _ _ h
    · exact hP.endOperation _ _ h
  · exact h

theorem StoreBlind.takePartNotice (hP : StoreBlind P) (p : Part) {s : State} (h : P s) : P (takePartNotice p s) := by
  rcases takePartNotice_cases p s with heq | ⟨_, heq | ⟨_, _, heq⟩⟩ <;> rw [heq]
  · exact h
  · exact hP.store _ _ h
  · exact hP.endOperation _ _ h

theorem StoreBlind.completeErase (hP : StoreBlind P) (readA readB : Word32) {s : State} (h : P s) :
    P (completeErase readA readB s) := by
  unfold Machine.completeErase
  split
  · exact hP.endOperation _ _ h
  · exact h

theorem StoreBlind.judgeCommit (hP : StoreBlind P) : JudgementKeeps P judgeCommit := by
  refine judged_keeps fun _ s h => ?_
  split
  · exact hP.takeCommit h
  · exact h

theorem StoreBlind.judgeRestore (hP : StoreBlind P) : JudgementKeeps P judgeRestore := by
  refine judged_keeps fun _ s h => ?_
  split
  · split
    · exact hP.store _ _ h
    · exact h
  · exact h

theorem StoreBlind.judgeErase (hP : StoreBlind P) : JudgementKeeps P judgeErase := by
  refine judged_keeps fun _ s h => ?_
  split
  · exact hP.store _ _ h
  · exact h

end Sys2Proof.Machine
end

section
/-! The relay queue (R139–R142, R149–R151, R186): the entry of a transaction under a free tid, the supersession of a
queued recall, and the cancellation of a queued and of the in-flight transaction. -/

namespace Sys2Proof.Machine

open Sys2Proof.Safety

/-! ### The transactions that wait (R140) -/

theorem waiting_eq_drop (h : HeadLink) : waiting h = h.queue.drop (if h.inFlight then 1 else 0) := by
  unfold waiting
  cases h.inFlight <;> simp

/-- Behind the in-flight transaction, if there is one, the queue waits. -/
theorem waiting_of_split {h : HeadLink} {pre post : List Transaction} (hqueue : h.queue = pre ++ post)
    (hpre : h.inFlight = true → pre ≠ []) : waiting h = pre.drop (if h.inFlight then 1 else 0) ++ post := by
  have hlength : (if h.inFlight then 1 else 0) ≤ pre.length := by
    split
    next hflight => exact List.length_pos_iff.mpr (hpre hflight)
    · exact Nat.zero_le _
  rw [waiting_eq_drop, hqueue, List.drop_append_of_le_length hlength]

/-- A transaction that waits stands in the queue behind the one in flight. -/
theorem split_of_mem_waiting {h : HeadLink} {t : Transaction} (hmem : t ∈ waiting h) :
    ∃ pre post, h.queue = pre ++ t :: post ∧ (h.inFlight = true → pre ≠ []) := by
  rw [waiting_eq_drop] at hmem
  obtain ⟨mid, post, hmid⟩ := List.append_of_mem hmem
  refine ⟨h.queue.take (if h.inFlight then 1 else 0) ++ mid, post, ?_, fun hflight hnil => ?_⟩
  · rw [List.append_assoc, ← hmid, List.take_append_drop]
  · rw [if_pos hflight] at hnil hmid
    obtain ⟨hqueue, rfl⟩ := List.append_eq_nil_iff.mp hnil
    rw [(List.take_eq_nil_iff.mp hqueue).resolve_left one_ne_zero] at hmid
    cases hmid

/-- Among distinct tids no other transaction has that of one of them. -/
theorem tids_of_split {pre post : List Transaction} {x : Transaction}
    (htids : ((pre ++ x :: post).map (·.tid)).Nodup) :
    (∀ t ∈ pre ++ post, t.tid ≠ x.tid) ∧ ((pre ++ post).map (·.tid)).Nodup := by
  rw [List.map_append, List.map_cons, List.nodup_middle, ← List.map_append, List.nodup_cons] at htids
  obtain ⟨hfresh, hrest⟩ := htids
  exact ⟨fun t ht heq => hfresh (List.mem_map.mpr ⟨t, ht, heq⟩), hrest⟩

theorem filter_tid_of_split {pre post : List Transaction} {x : Transaction}
    (htids : ((pre ++ x :: post).map (·.tid)).Nodup) :
    ((pre ++ x :: post).filter fun t => t.tid != x.tid) = pre ++ post := by
  obtain ⟨hother, _⟩ := tids_of_split htids
  rw [List.filter_append, List.filter_cons_of_neg (by simp), ← List.filter_append, List.filter_eq_self]
  exact fun t ht => bne_iff_ne.mpr (hother t ht)

theorem map_tid_of_split {pre post : List Transaction} {x : Transaction} (new : Transaction)
    (htids : ((pre ++ x :: post).map (·.tid)).Nodup) :
    ((pre ++ x :: post).map fun t => if t.tid = x.tid then new else t) = pre ++ new :: post := by
  obtain ⟨hother, _⟩ := tids_of_split htids
  have hkept : ∀ l : List Transaction, (∀ t ∈ l, t.tid ≠ x.tid) →
      (l.map fun t => if t.tid = x.tid then new else t) = l := fun l hl =>
    (List.map_congr_left fun t ht => if_neg (hl t ht)).trans (List.map_id' l)
  rw [List.map_append, List.map_cons, if_pos rfl, hkept pre fun t ht => hother t (List.mem_append_left _ ht),
    hkept post fun t ht => hother t (List.mem_append_right _ ht)]

theorem find_tid_of_split {pre post : List Transaction} {x : Transaction}
    (htids : ((pre ++ x :: post).map (·.tid)).Nodup) :
    ((pre ++ x :: post).find? fun t => t.tid == x.tid) = some x := by
  obtain ⟨hother, _⟩ := tids_of_split htids
  have hpre : (pre.find? fun t => t.tid == x.tid) = none :=
    List.find?_eq_none.mpr fun t ht heq => hother t (List.mem_append_left _ ht) (beq_iff_eq.mp heq)
  rw [List.find?_append, hpre, Option.none_or, List.find?_cons_of_pos (by exact beq_self_eq_true _)]

/-- No transaction of a queue of at most 8 holds the tid that the next one takes (R140). -/
theorem freeTid_spec {h : HeadLink} (hsize : h.queue.length ≤ 8) : TidTaken h.queue h.nextTid (freeTid h) :=
  freeTid_taken _ (Nat.lt_of_le_of_lt hsize (by decide)) _

theorem relayReport_eq (now : Time) (t : Transaction) (result : RelayResult) :
    relayReport now t result = relayTold now t result := by
  cases result <;> rfl

/-! ### RELAY (R141) -/

theorem exec_relay_taken {head : HeadAddr} {op : HeadOp} {f : Frame} {rest : List Frame} {s : State}
    (hready : Ready 0x49 f rest s) (hparse : parseRelay f.payload = .ok (head, op))
    (hroom : s.head.queue.length < 8) :
    ∃ t, exec .relay s = .next t ∧
      Taken f rest [0x01, freeTid s.head] s (s.setHead (enterTransaction .host head op s.head)) t :=
  ⟨_, rfl, takeKind_judged_taken (a := answerAccepted [freeTid s.head]) hready hparse (if_pos hroom)⟩

theorem exec_relay_full {head : HeadAddr} {op : HeadOp} {f : Frame} {rest : List Frame} {s : State}
    (hready : Ready 0x49 f rest s) (hparse : parseRelay f.payload = .ok (head, op))
    (hfull : s.head.queue.length = 8) : ∃ t, exec .relay s = .next t ∧ Taken f rest [0x07] s s t :=
  ⟨_, rfl, takeKind_judged_taken (a := answerRefused .full) hready hparse
    (if_neg (Nat.not_lt.mpr (Nat.le_of_eq hfull.symm)))⟩

/-! ### Recalls of rules (R142) -/

/-- A recall of a rule to a head can be replaced by a later one to it (R142). -/
theorem replaceable_iff (head : HeadAddr) (t : Transaction) : replaceable head t = true ↔
    t.head = head ∧ (∃ w, t.origin = .rule w) ∧ ∃ p, t.op = .recall p := by
  unfold replaceable
  cases t.origin <;> cases t.op <;> simp

theorem exec_recall_of_cons {r : Recall} {rest : List Recall} {s : State} (h : s.wires.recalls = r :: rest) :
    exec .recall s = .next (takeRecall r (s.setWires { s.wires with recalls := rest })) := by
  show execRecall s = _
  simp only [execRecall, h]

theorem takeRecall_of_room {r : Recall} {s : State} (hnone : (waiting s.head).find? (replaceable r.head) = none)
    (hroom : s.head.queue.length < 8) :
    takeRecall r s = s.setHead (enterTransaction (.rule r.rule) r.head (.recall r.preset) s.head) := by
  simp only [takeRecall, hnone, if_pos hroom]

theorem takeRecall_of_full {r : Recall} {s : State} (hnone : (waiting s.head).find? (replaceable r.head) = none)
    (hfull : s.head.queue.length = 8) : takeRecall r s = s.offer (refusedReport s.now r) := by
  simp only [takeRecall, hnone, hfull, Nat.lt_irrefl, if_false]

theorem takeRecall_of_found {r : Recall} {old : Transaction} {s : State}
    (hfound : (waiting s.head).find? (replaceable r.head) = some old) : takeRecall r s = supersede old r s := by
  simp only [takeRecall, hfound]

/-- The recall takes the place of the old transaction in the queue, under a tid that no other one holds (R140,
R142). -/
theorem supersede_eq {old : Transaction} {pre post : List Transaction} (r : Recall) {s : State}
    (htids : (s.head.queue.map (·.tid)).Nodup) (hqueue : s.head.queue = pre ++ old :: post) :
    supersede old r s = (s.setHead { s.head with
      queue := pre ++ newTransaction (freeTidFrom (pre ++ post) 256 s.head.nextTid) (.rule r.rule) r.head
        (.recall r.preset) :: post
      nextTid := freeTidFrom (pre ++ post) 256 s.head.nextTid + 1 }).offer (relayTold s.now old .superseded) := by
  rw [hqueue] at htids
  simp only [supersede, freeTid, hqueue, filter_tid_of_split htids, map_tid_of_split _ htids, relayReport_eq]

/-! ### CANCEL_RELAY (R149, R150) -/

theorem inFlightOf_of_head {t : Transaction} {rest : List Transaction} {h : HeadLink}
    (hqueue : h.queue = t :: rest) (hflight : h.inFlight = true) : inFlightOf t.tid h = some t := by
  simp [inFlightOf, hqueue, hflight]

/-- The transaction in flight is the oldest of the queue and holds the tid it is found by. -/
theorem inFlightOf_eq_some {tid : Byte} {t : Transaction} {h : HeadLink} (hfound : inFlightOf tid h = some t) :
    h.inFlight = true ∧ t.tid = tid ∧ ∃ rest, h.queue = t :: rest := by
  unfold inFlightOf at hfound
  split at hfound
  next hflight =>
    obtain ⟨hhead, htid⟩ := Option.filter_eq_some_iff.mp hfound
    exact ⟨hflight, beq_iff_eq.mp htid, List.head?_eq_some_iff.mp hhead⟩
  · cases hfound

theorem inFlightOf_eq_none {tid : Byte} {h : HeadLink}
    (hother : ∀ t rest, h.queue = t :: rest → h.inFlight = true → t.tid ≠ tid) : inFlightOf tid h = none := by
  cases hfound : inFlightOf tid h with
  | none => rfl
  | some t =>
    obtain ⟨hflight, htid, rest, hqueue⟩ := inFlightOf_eq_some hfound
    exact absurd htid (hother t rest hqueue hflight)

/-- A transaction behind the one in flight is not in flight itself. -/
theorem inFlightOf_of_split {pre post : List Transaction} {x : Transaction} {h : HeadLink}
    (htids : (h.queue.map (·.tid)).Nodup) (hqueue : h.queue = pre ++ x :: post)
    (hpre : h.inFlight = true → pre ≠ []) : inFlightOf x.tid h = none := by
  refine inFlightOf_eq_none fun t rest hhead hflight => ?_
  rw [hqueue] at htids
  obtain ⟨hother, _⟩ := tids_of_split htids
  cases pre with
  | nil => exact absurd rfl (hpre hflight)
  | cons y ys =>
    obtain ⟨rfl, _⟩ := List.cons.inj (hqueue.symm.trans hhead)
    exact hother y List.mem_cons_self

theorem cancelQueued_eq {x : Transaction} {pre post : List Transaction} {s : State}
    (htids : (s.head.queue.map (·.tid)).Nodup) (hqueue : s.head.queue = pre ++ x :: post) :
    cancelQueued x s = (s.setHead { s.head with queue := pre ++ post }).offer (relayTold s.now x .cancelled) := by
  rw [hqueue] at htids
  simp only [cancelQueued, hqueue, filter_tid_of_split htids, relayReport_eq]

theorem cancelInFlight_of_gap {x : Transaction} {post : List Transaction} {s : State}
    (hqueue : s.head.queue = x :: post) (hgap : s.head.link = .gap) : cancelInFlight x s =
      (s.setHead { s.head with queue := post, inFlight := false }).offer (relayTold s.now x .cancelled) := by
  simp only [cancelInFlight, hgap, if_true, cancelInGap, hqueue, List.tail_cons, relayReport_eq]

theorem cancelInFlight_of_attempt {x : Transaction} {post : List Transaction} {s : State}
    (hqueue : s.head.queue = x :: post) (hgap : s.head.link ≠ .gap) : cancelInFlight x s =
      s.setHead { s.head with queue := { x with cancelPending := true } :: post } := by
  simp only [cancelInFlight, hgap, if_false, hqueue, List.tail_cons]

theorem exec_cancelRelay_absent {tid : Byte} {f : Frame} {rest : List Frame} {s : State}
    (hready : Ready 0x4A f rest s) (hpayload : f.payload = [tid]) (hnone : ∀ t ∈ s.head.queue, t.tid ≠ tid) :
    ∃ t, exec .cancelRelay s = .next t ∧ Taken f rest [0x05] s s t := by
  have hflight : inFlightOf tid s.head = none :=
    inFlightOf_eq_none fun t rest hqueue _ => hnone t (hqueue ▸ List.mem_cons_self)
  have hfind : (s.head.queue.find? fun t => t.tid == tid) = none :=
    List.find?_eq_none.mpr fun t ht heq => hnone t ht (beq_iff_eq.mp heq)
  exact ⟨_, rfl, takeKind_judged_taken (a := answerRefused .absent) (x := tid) hready (by rw [hpayload]; rfl)
    (by simp only [State.setLink_head, hflight, hfind])⟩

theorem exec_cancelRelay_queued {x : Transaction} {pre post : List Transaction} {f : Frame} {rest : List Frame}
    {s : State} (hready : Ready 0x4A f rest s) (hpayload : f.payload = [x.tid])
    (htids : (s.head.queue.map (·.tid)).Nodup) (hqueue : s.head.queue = pre ++ x :: post)
    (hpre : s.head.inFlight = true → pre ≠ []) :
    ∃ t, exec .cancelRelay s = .next t ∧ Taken f rest [0x00, 0x00] s (cancelQueued x s) t := by
  have hflight : inFlightOf x.tid s.head = none := inFlightOf_of_split htids hqueue hpre
  have hfind : (s.head.queue.find? fun t => t.tid == x.tid) = some x := by
    rw [hqueue] at htids ⊢
    exact find_tid_of_split htids
  exact ⟨_, rfl, takeKind_judged_taken (a := answerOk [0]) (x := x.tid) hready (by rw [hpayload]; rfl)
    (by simp only [State.setLink_head, hflight, hfind]; rfl)⟩

theorem cancelInFlight_setLink (x : Transaction) (s : State) (l : HostLink) :
    cancelInFlight x (s.setLink l) = (cancelInFlight x s).setLink l := by
  show (if s.head.link = .gap then _ else _) = State.setLink (if s.head.link = .gap then _ else _) l
  split <;> rfl

theorem exec_cancelRelay_inFlight {x : Transaction} {post : List Transaction} {f : Frame} {rest : List Frame}
    {s : State} (hready : Ready 0x4A f rest s) (hpayload : f.payload = [x.tid]) (hqueue : s.head.queue = x :: post)
    (hflight : s.head.inFlight = true) :
    ∃ t, exec .cancelRelay s = .next t ∧ Taken f rest [0x00, 0x01] s (cancelInFlight x s) t :=
  ⟨_, rfl, takeKind_judged_taken (a := answerOk [1]) (x := x.tid) hready (by rw [hpayload]; rfl)
    (by simp only [State.setLink_head, inFlightOf_of_head hqueue hflight, cancelInFlight_setLink])⟩

end Sys2Proof.Machine

namespace Sys2Proof.CameraHeadLink

open Sys2Proof.Machine Sys2Proof.Safety

/-- Settles O40: RELAY by whether the queue has room, a recall by the queued recall it finds. -/
theorem transactionEnters : Obligations.TransactionEnters := by
  refine ⟨fun head op f rest s hlaw hready hparse => ⟨fun hroom => ?room, fun hfull => ?full⟩,
    fun r rest s hlaw hrecalls => ?recalls⟩
  case room =>
    obtain ⟨t, hexec, htaken⟩ := exec_relay_taken hready hparse hroom
    rw [enterTransaction_eq _ _ _ _ hlaw.idle] at htaken
    exact ⟨t, _, hexec, freeTid_spec hlaw.size, htaken⟩
  case full => exact exec_relay_full hready hparse hfull
  case recalls =>
    intro s1 replaces new
    have hreplaces : ∀ t, replaceable r.head t = true ↔ replaces t := replaceable_iff r.head
    have hnone : ∀ ts : List Transaction, (∀ t ∈ ts, ¬ replaces t) → ts.find? (replaceable r.head) = none :=
      fun ts h => List.find?_eq_none.mpr fun t ht => (hreplaces t).not.mpr (h t ht)
    rw [exec_recall_of_cons hrecalls]
    refine ⟨fun hall hroom => ?_, fun hall hfull => ?_, fun pre old post hqueue hpre hold hbefore => ?_⟩
    · have hentered : takeRecall r s1 = _ := takeRecall_of_room (hnone (waiting s1.head) hall) hroom
      rw [enterTransaction_eq (h := s1.head) _ _ _ hlaw.idle] at hentered
      exact ⟨_, freeTid_spec hlaw.size, congrArg _ hentered⟩
    · exact congrArg _ (takeRecall_of_full (s := s1) (hnone (waiting s1.head) hall) hfull)
    · have hfound : (waiting s.head).find? (replaceable r.head) = some old := by
        rw [waiting_of_split hqueue hpre, List.find?_append, hnone _ hbefore, Option.none_or,
          List.find?_cons_of_pos ((hreplaces old).mpr hold)]
      have hsize : (pre ++ post).length < 256 := by
        have hsize := hlaw.size
        simp only [hqueue, List.length_append, List.length_cons] at hsize ⊢
        omega
      exact ⟨_, freeTid_taken (pre ++ post) hsize s.head.nextTid,
        congrArg _ ((takeRecall_of_found (s := s1) hfound).trans (supersede_eq r hlaw.tids hqueue))⟩

/-- Settles O41, by where the tid stands in the queue. -/
theorem transactionCancelled : Obligations.TransactionCancelled := by
  intro tid f rest s hlaw hready hpayload
  refine ⟨exec_cancelRelay_absent hready hpayload, fun pre x post hqueue htid hpre => ?queued,
    fun x post hqueue htid hflight => ?inFlight⟩
  case queued =>
    subst htid
    rw [← cancelQueued_eq hlaw.tids hqueue]
    exact exec_cancelRelay_queued hready hpayload hlaw.tids hqueue hpre
  case inFlight =>
    subst htid
    have htaken := exec_cancelRelay_inFlight hready hpayload hqueue hflight
    exact ⟨fun hgap => cancelInFlight_of_attempt hqueue hgap ▸ htaken,
      fun hgap => cancelInFlight_of_gap hqueue hgap ▸ htaken⟩

end Sys2Proof.CameraHeadLink
end

section
/-! The law on the relay queue and the link (R139, R140, R143): its two shapes, with nothing in flight and with the
oldest transaction in flight, and the operations of the head link controller that keep it. -/

namespace Sys2Proof.Machine

open Sys2Proof.Safety

/-! ### The two shapes of the law -/

/-- A transaction as it is accepted and waits: no attempt of it has begun (R139). -/
def Unbegun (t : Transaction) : Prop :=
  t.attempts = 0 ∧ t.tag = none ∧ t.cancelPending = false ∧ t.failure = none

/-- The law speaks of the head link alone. -/
theorem relayLaw_of_head_eq {s t : State} (h : RelayLaw s) (heq : t.head = s.head) : RelayLaw t :=
  ⟨by rw [heq]; exact h.size, by rw [heq]; exact h.tids, by rw [heq]; exact h.idle, by rw [heq]; exact h.flying,
    by rw [heq]; exact h.held, by rw [heq]; exact h.queued, by rw [heq]; exact h.received⟩

/-- Nothing is in flight, in a gap or in IDLE. -/
theorem relayLaw_of_rest {s : State} (hflight : s.head.inFlight = false)
    (hlink : s.head.link = .gap ∨ s.head.link = .idle ∧ s.head.queue = []) (hsize : s.head.queue.length ≤ 8)
    (htids : (s.head.queue.map (·.tid)).Nodup) (hqueued : ∀ t ∈ s.head.queue, Unbegun t)
    (hreceived : s.head.received = []) : RelayLaw s where
  size := hsize
  tids := htids
  idle hidle := by
    rcases hlink with hgap | ⟨_, hempty⟩
    · rw [hgap] at hidle; cases hidle
    · exact hempty
  flying hflying := by rcases hlink with hlink | ⟨hlink, _⟩ <;> rw [hlink] at hflying <;> simp at hflying
  held hin := by rw [hflight] at hin; cases hin
  queued := by
    rw [waiting, hflight]
    exact hqueued
  received := .inl hreceived

/-- The oldest transaction is in flight. -/
theorem relayLaw_of_flight {s : State} {t : Transaction} {rest : List Transaction} (hqueue : s.head.queue = t :: rest)
    (hflight : s.head.inFlight = true) (hlink : s.head.link ≠ .idle) (hsize : (t :: rest).length ≤ 8)
    (htids : ((t :: rest).map (·.tid)).Nodup) (hbegun : 1 ≤ t.attempts ∧ t.tag.isSome) (hqueued : ∀ x ∈ rest, Unbegun x)
    (hreceived : s.head.received = [] ∨
      (s.head.link = .awaitReply ∧ s.head.received.head? = some 0x5B ∧ s.head.received.length ≤ 5)) : RelayLaw s where
  size := hqueue ▸ hsize
  tids := hqueue ▸ htids
  idle hidle := absurd hidle hlink
  flying _ := hflight
  held _ := ⟨t, rest, hqueue, hbegun⟩
  queued := by
    rw [waiting, hflight, hqueue]
    exact hqueued
  received := hreceived

/-- At most 8 transactions stand in the queue, under distinct tids (R140). -/
theorem bounds_of_queue {s : State} {q : List Transaction} (h : RelayLaw s) (hqueue : s.head.queue = q) :
    q.length ≤ 8 ∧ (q.map (·.tid)).Nodup :=
  hqueue ▸ ⟨h.size, h.tids⟩

theorem queue_ne_nil_of_flight {s : State} (h : RelayLaw s) (hflight : s.head.inFlight = true) :
    s.head.queue ≠ [] := by
  obtain ⟨t, rest, hqueue, _⟩ := h.held hflight
  rw [hqueue]
  exact List.cons_ne_nil t rest

/-- The transaction in flight has begun and holds a tag, and those behind it have not. -/
theorem begun_of_flight {s : State} {t : Transaction} {rest : List Transaction} (h : RelayLaw s)
    (hqueue : s.head.queue = t :: rest) (hflight : s.head.inFlight = true) :
    (1 ≤ t.attempts ∧ t.tag.isSome) ∧ ∀ x ∈ rest, Unbegun x := by
  obtain ⟨x, xs, hx, hbegun⟩ := h.held hflight
  obtain ⟨rfl, rfl⟩ := List.cons.inj (hqueue.symm.trans hx)
  have hqueued := h.queued
  rw [waiting, hflight, hqueue] at hqueued
  exact ⟨hbegun, hqueued⟩

/-- With nothing in flight every transaction waits. -/
theorem unbegun_of_rest {s : State} (h : RelayLaw s) (hflight : s.head.inFlight = false) :
    ∀ x ∈ s.head.queue, Unbegun x := by
  have hqueued := h.queued
  rw [waiting, hflight] at hqueued
  exact hqueued

/-- Outside AWAIT_REPLY no bytes of a reply frame are held. -/
theorem received_of_not_awaiting {s : State} (h : RelayLaw s) (hlink : s.head.link ≠ .awaitReply) :
    s.head.received = [] :=
  h.received.resolve_right fun hheld => hlink hheld.1

/-- In the queue of a link that is not IDLE, what stands behind the in-flight transaction is replaced by transactions of
it and by others that wait. -/
theorem relayLaw_requeued {s : State} {pre behind behind' : List Transaction} (tid : Byte) (h : RelayLaw s)
    (hqueue : s.head.queue = pre ++ behind) (hpre : s.head.inFlight = true → pre ≠ []) (hlink : s.head.link ≠ .idle)
    (hsize : (pre ++ behind').length ≤ 8) (htids : ((pre ++ behind').map (·.tid)).Nodup)
    (hbehind : ∀ t ∈ behind', t ∈ behind ∨ Unbegun t) :
    RelayLaw (s.setHead { s.head with queue := pre ++ behind', nextTid := tid }) where
  size := hsize
  tids := htids
  idle hidle := absurd hidle hlink
  flying := h.flying
  held hflight := by
    obtain ⟨t, rest, hhead, hbegun⟩ := h.held hflight
    cases pre with
    | nil => exact absurd rfl (hpre hflight)
    | cons x xs =>
      obtain ⟨rfl, _⟩ := List.cons.inj (hqueue.symm.trans hhead)
      exact ⟨x, xs ++ behind', rfl, hbegun⟩
  queued t ht := by
    have hqueued : ∀ x ∈ waiting s.head, Unbegun x := h.queued
    have hwaits : t ∈ pre.drop (if s.head.inFlight then 1 else 0) ++ behind' :=
      waiting_of_split (h := { s.head with queue := pre ++ behind', nextTid := tid }) rfl hpre ▸ ht
    rw [waiting_of_split hqueue hpre] at hqueued
    rcases List.mem_append.mp hwaits with ht | ht
    · exact hqueued t (List.mem_append_left _ ht)
    · exact (hbehind t ht).elim (fun hold => hqueued t (List.mem_append_right _ hold)) id
  received := h.received

/-- While a transaction stands in the queue the link is not IDLE (R143). -/
theorem link_ne_idle_of_split {s : State} {pre post : List Transaction} {x : Transaction} (h : RelayLaw s)
    (hqueue : s.head.queue = pre ++ x :: post) : s.head.link ≠ .idle := fun hidle =>
  List.append_ne_nil_of_right_ne_nil pre (List.cons_ne_nil x post) (hqueue.symm.trans (h.idle hidle))

/-! ### The queue: entry, supersession, cancellation -/

theorem unbegun_newTransaction (tid : Byte) (o : Origin) (head : HeadAddr) (op : HeadOp) :
    Unbegun (newTransaction tid o head op) :=
  ⟨rfl, rfl, rfl, rfl⟩

theorem nodup_tids_insert {pre post : List Transaction} {t : Transaction}
    (htids : ((pre ++ post).map (·.tid)).Nodup) (hfresh : ∀ x ∈ pre ++ post, x.tid ≠ t.tid) :
    ((pre ++ t :: post).map (·.tid)).Nodup := by
  rw [List.map_append, List.map_cons, List.nodup_middle, ← List.map_append, List.nodup_cons]
  refine ⟨fun hmem => ?_, htids⟩
  obtain ⟨x, hx, heq⟩ := List.mem_map.mp hmem
  exact hfresh x hx heq

/-- A transaction enters a queue with room (R140–R143). -/
theorem relayLaw_enterTransaction (o : Origin) (head : HeadAddr) (op : HeadOp) {s : State} (h : RelayLaw s)
    (hroom : s.head.queue.length < 8) : RelayLaw (s.setHead (enterTransaction o head op s.head)) := by
  obtain ⟨_, _, hfresh, _⟩ := freeTid_spec h.size
  rw [enterTransaction_eq _ _ _ _ h.idle]
  unfold transactionIn
  split
  · exact relayLaw_of_flight rfl rfl nofun (by simp) (by simp) ⟨le_rfl, rfl⟩ nofun (.inl rfl)
  next hbusy =>
    refine relayLaw_requeued _ h (List.append_nil _).symm (queue_ne_nil_of_flight h) hbusy ?_ (nodup_tids_insert ?_ ?_)
      fun t ht => .inr ?_
    · rw [List.length_append]
      exact hroom
    · rw [List.append_nil]
      exact h.tids
    · rw [List.append_nil]
      exact hfresh
    · rw [List.mem_singleton.mp ht]
      exact unbegun_newTransaction ..

theorem relayLaw_takeRecall (r : Recall) {s : State} (h : RelayLaw s) : RelayLaw (takeRecall r s) := by
  unfold takeRecall
  split
  next old hfound =>
    obtain ⟨pre, post, hqueue, hpre⟩ := split_of_mem_waiting (List.mem_of_find?_eq_some hfound)
    obtain ⟨hsize, htids⟩ := bounds_of_queue h hqueue
    obtain ⟨_, hkept⟩ := tids_of_split htids
    have hroom : (pre ++ post).length < 256 := by
      simp only [List.length_append, List.length_cons] at hsize ⊢
      omega
    obtain ⟨_, _, hfresh, _⟩ := freeTid_taken (pre ++ post) hroom s.head.nextTid
    rw [supersede_eq r h.tids hqueue]
    refine relayLaw_of_head_eq (relayLaw_requeued _ h hqueue hpre (link_ne_idle_of_split h hqueue) ?_
      (nodup_tids_insert hkept hfresh) fun t ht => ?_) rfl
    · rwa [List.length_append] at hsize ⊢
    · rcases List.mem_cons.mp ht with rfl | ht
      · exact .inr (unbegun_newTransaction ..)
      · exact .inl (List.mem_cons_of_mem _ ht)
  · split
    next hroom => exact relayLaw_enterTransaction _ _ _ h hroom
    · exact relayLaw_of_head_eq h rfl

theorem relayLaw_cancelInFlight {t : Transaction} {rest : List Transaction} {s : State} (h : RelayLaw s)
    (hqueue : s.head.queue = t :: rest) (hflight : s.head.inFlight = true) : RelayLaw (cancelInFlight t s) := by
  obtain ⟨hbegun, hqueued⟩ := begun_of_flight h hqueue hflight
  obtain ⟨hsize, htids⟩ := bounds_of_queue h hqueue
  by_cases hgap : s.head.link = .gap
  · have hreceived : s.head.received = [] := received_of_not_awaiting h (by rw [hgap]; decide)
    rw [cancelInFlight_of_gap hqueue hgap]
    exact relayLaw_of_rest rfl (.inl hgap) (Nat.le_of_succ_le hsize) (List.nodup_cons.mp htids).2 hqueued hreceived
  · have hlink : s.head.link ≠ .idle := link_ne_idle_of_split (pre := []) h hqueue
    rw [cancelInFlight_of_attempt hqueue hgap]
    exact relayLaw_of_flight rfl hflight hlink hsize htids hbegun hqueued h.received

/-- A transaction that waits is taken out of the queue (R149). -/
theorem relayLaw_cancelQueued {x : Transaction} {pre post : List Transaction} {s : State} (h : RelayLaw s)
    (hqueue : s.head.queue = pre ++ x :: post) (hpre : s.head.inFlight = true → pre ≠ []) :
    RelayLaw (cancelQueued x s) := by
  obtain ⟨hsize, htids⟩ := bounds_of_queue h hqueue
  obtain ⟨_, hkept⟩ := tids_of_split htids
  rw [cancelQueued_eq h.tids hqueue]
  refine relayLaw_of_head_eq (relayLaw_requeued s.head.nextTid h hqueue hpre (link_ne_idle_of_split h hqueue) ?_ hkept
    fun t ht => .inl (List.mem_cons_of_mem _ ht)) rfl
  simp only [List.length_append, List.length_cons] at hsize ⊢
  omega

theorem judgeRelay_keeps_relayLaw : JudgementKeeps RelayLaw judgeRelay := by
  refine judged_keeps fun x s h => ?_
  dsimp only
  split
  next hroom => exact relayLaw_enterTransaction _ _ _ h hroom
  · exact h

theorem judgeCancelRelay_keeps_relayLaw : JudgementKeeps RelayLaw judgeCancelRelay := by
  refine judged_keeps fun tid s h => ?_
  split
  next t hfound =>
    obtain ⟨hflight, _, rest, hqueue⟩ := inFlightOf_eq_some hfound
    exact relayLaw_cancelInFlight h hqueue hflight
  next hnone =>
    split
    next t hfound =>
      obtain ⟨pre, post, hqueue⟩ := List.append_of_mem (List.mem_of_find?_eq_some hfound)
      have htid : t.tid = tid := beq_iff_eq.mp (List.find?_some (p := fun x : Transaction => x.tid == tid) hfound)
      refine relayLaw_cancelQueued h hqueue fun hflight hnil => ?_
      rw [← htid, inFlightOf_of_head (by rw [hqueue, hnil]; rfl) hflight] at hnone
      cases hnone
    · exact h

/-! ### The line: attempts, replies and gaps -/

/-- The in-flight transaction ends: behind it the others wait through a gap (R148). -/
theorem relayLaw_endInFlight {t : Transaction} {rest : List Transaction} (result : RelayResult) {s : State}
    (h : RelayLaw s) (hqueue : s.head.queue = t :: rest) (hflight : s.head.inFlight = true) :
    RelayLaw (endInFlight t result s) := by
  obtain ⟨hsize, htids⟩ := bounds_of_queue h hqueue
  obtain ⟨_, hqueued⟩ := begun_of_flight h hqueue hflight
  rw [endInFlight_eq t rest result s hqueue]
  exact relayLaw_of_rest rfl (.inl rfl) (Nat.le_of_succ_le hsize) (List.nodup_cons.mp htids).2 hqueued rfl

theorem relayLaw_failAttempt {t : Transaction} {rest : List Transaction} (f : Failure) {s : State} (h : RelayLaw s)
    (hqueue : s.head.queue = t :: rest) (hflight : s.head.inFlight = true) : RelayLaw (failAttempt t f s) := by
  obtain ⟨hbegun, hqueued⟩ := begun_of_flight h hqueue hflight
  obtain ⟨hsize, htids⟩ := bounds_of_queue h hqueue
  unfold failAttempt
  split
  · exact relayLaw_endInFlight _ h hqueue hflight
  · split
    · exact relayLaw_of_flight (t := { t with failure := some f }) (by rw [State.setHead_head, hqueue]; rfl) hflight
        nofun hsize htids hbegun hqueued (.inl rfl)
    · exact relayLaw_endInFlight _ h hqueue hflight

/-- What is held of a reply frame in AWAIT_REPLY: nothing, or its start (R145). -/
theorem relayLaw_receives {got : List Byte} {s : State} (h : RelayLaw s) (hlink : s.head.link = .awaitReply)
    (hgot : got = [] ∨ got.head? = some 0x5B ∧ got.length ≤ 5) :
    RelayLaw (s.setHead { s.head with received := got }) :=
  ⟨h.size, h.tids, h.idle, h.flying, h.held, h.queued, hgot.imp id fun hheld => ⟨hlink, hheld⟩⟩

theorem relayLaw_completeRequest {s : State} (h : RelayLaw s) : RelayLaw (completeRequest s) := by
  unfold completeRequest
  split
  next t rest hlink hqueue =>
    have hflight := h.flying (.inl hlink)
    obtain ⟨hbegun, hqueued⟩ := begun_of_flight h hqueue hflight
    obtain ⟨hsize, htids⟩ := bounds_of_queue h hqueue
    split
    · exact relayLaw_endInFlight _ h hqueue hflight
    · exact relayLaw_of_flight hqueue hflight nofun hsize htids hbegun hqueued (.inl rfl)
  · exact h

theorem relayLaw_judgeReply {t : Transaction} {rest : List Transaction} (addr tag status : Byte) (crc : Half)
    {s : State} (h : RelayLaw s) (hlink : s.head.link = .awaitReply) (hqueue : s.head.queue = t :: rest) :
    RelayLaw (judgeReply addr tag status crc t s) := by
  have hflight := h.flying (.inr hlink)
  unfold judgeReply
  split
  · exact relayLaw_failAttempt _ h hqueue hflight
  · split
    · exact relayLaw_endInFlight _ h hqueue hflight
    · exact relayLaw_receives h hlink (.inl rfl)

/-- A reply frame in part, one byte later: still nothing, or a start of at most six bytes. -/
theorem gatherReply_held {got : List Byte} (b : Byte)
    (hgot : got = [] ∨ got.head? = some 0x5B ∧ got.length ≤ 5) :
    gatherReply got b = [] ∨ (gatherReply got b).head? = some 0x5B ∧ (gatherReply got b).length ≤ 6 := by
  unfold gatherReply
  rcases hgot with rfl | ⟨hhead, hlength⟩
  · rw [if_pos rfl]
    split
    next hstart => exact .inr ⟨congrArg some hstart, Nat.succ_le_of_lt (by decide)⟩
    · exact .inl rfl
  · have hne : got ≠ [] := by rintro rfl; cases hhead
    rw [if_neg hne, List.head?_append, hhead, List.length_append]
    exact .inr ⟨rfl, Nat.succ_le_succ hlength⟩

/-- In AWAIT_REPLY the sixth byte of a reply frame has it judged, and any other byte is held or discarded. -/
theorem headByte_cases {t : Transaction} {rest : List Transaction} {s : State} (b : Byte)
    (hlink : s.head.link = .awaitReply) (hqueue : s.head.queue = t :: rest) :
    (∃ start addr tag status hi lo, gatherReply s.head.received b = [start, addr, tag, status, hi, lo] ∧
      headByte s b = judgeReply addr tag status (hi ++ lo) t s) ∨
    ((gatherReply s.head.received b).length ≠ 6 ∧
      headByte s b = s.setHead { s.head with received := gatherReply s.head.received b }) := by
  simp only [headByte, hlink, hqueue]
  split
  next start addr tag status hi lo hframe => exact .inl ⟨start, addr, tag, status, hi, lo, hframe, rfl⟩
  next hother =>
    refine .inr ⟨fun hlength => ?_, rfl⟩
    match hframe : gatherReply s.head.received b, hlength with
    | [_, _, _, _, _, _], _ => exact hother _ _ _ _ _ _ hframe

/-- In every other state, and with nothing in the queue, a byte is discarded (R145). -/
theorem headByte_discarded {s : State} (b : Byte) (hoff : s.head.link ≠ .awaitReply ∨ s.head.queue = []) :
    headByte s b = s := by
  unfold headByte
  split
  next hlink hqueue =>
    rcases hoff with hother | hempty
    · exact absurd hlink hother
    · rw [hempty] at hqueue
      cases hqueue
  · rfl

theorem relayLaw_headByte (s : State) (b : Byte) (h : RelayLaw s) : RelayLaw (headByte s b) := by
  by_cases hlink : s.head.link = .awaitReply
  · obtain ⟨t, rest, hqueue, _⟩ := h.held (h.flying (.inr hlink))
    rcases headByte_cases b hlink hqueue with ⟨_, _, _, _, _, _, _, heq⟩ | ⟨hlength, heq⟩ <;> rw [heq]
    · exact relayLaw_judgeReply _ _ _ _ h hlink hqueue
    · have hheld := gatherReply_held b (h.received.imp id And.right)
      exact relayLaw_receives h hlink (hheld.imp id fun ⟨hhead, hmost⟩ =>
        ⟨hhead, Nat.le_of_lt_succ (Nat.lt_of_le_of_ne hmost hlength)⟩)
  · rwa [headByte_discarded b (.inl hlink)]

theorem relayLaw_takeReply (rate : HeadRate) (good : Bool) (sent : List Byte) {s : State} (h : RelayLaw s) :
    RelayLaw (takeReply rate good sent s) := by
  unfold takeReply
  split
  · split
    · exact foldl_keeps relayLaw_headByte _ _ h
    · exact foldl_keeps relayLaw_headByte _ _ (relayLaw_of_head_eq h rfl)
  · exact h

theorem relayLaw_expireReply {s : State} (h : RelayLaw s) : RelayLaw (expireReply s) := by
  unfold expireReply
  split
  next hlink hqueue =>
    split
    · exact relayLaw_failAttempt _ h hqueue (h.flying (.inr hlink))
    · exact h
  · exact h

/-- The link at the end of a gap: IDLE with an empty queue, or in the next attempt (R147, R148). -/
theorem relayLaw_gapEnd {s : State} (h : RelayLaw s) (hgap : s.head.link = .gap) :
    RelayLaw (s.setHead (gapEnd s.head)) := by
  have hreceived : s.head.received = [] := received_of_not_awaiting h (by rw [hgap]; decide)
  unfold gapEnd
  split
  next hqueue =>
    have hflight : s.head.inFlight = false :=
      Bool.eq_false_iff.mpr fun hflight => queue_ne_nil_of_flight h hflight hqueue
    have hqueued : ∀ x ∈ s.head.queue, Unbegun x := unbegun_of_rest h hflight
    exact relayLaw_of_rest hflight (.inr ⟨rfl, hqueue⟩) h.size h.tids hqueued hreceived
  next t rest hqueue =>
    obtain ⟨hsize, htids⟩ := bounds_of_queue h hqueue
    split
    next hflight =>
      obtain ⟨⟨_, htag⟩, hqueued⟩ := begun_of_flight h hqueue hflight
      exact relayLaw_of_flight rfl rfl nofun hsize htids ⟨Nat.le_add_left .., htag⟩ hqueued (.inl rfl)
    next hflight =>
      have hqueued := unbegun_of_rest h (Bool.eq_false_iff.mpr hflight)
      rw [hqueue] at hqueued
      rw [linkTakes, hqueue]
      exact relayLaw_of_flight rfl rfl nofun hsize htids ⟨Nat.le_add_left .., rfl⟩
        (fun x hx => hqueued x (List.mem_cons_of_mem _ hx)) (.inl rfl)

theorem relayLaw_execTurnaroundGapEnd {s : State} (h : RelayLaw s) :
    ∃ t, execTurnaroundGapEnd s = .next t ∧ RelayLaw t := by
  refine ⟨_, rfl, ?_⟩
  split
  next hgap => exact relayLaw_gapEnd h hgap
  · exact h

theorem relayLaw_execRecall {s : State} (h : RelayLaw s) : ∃ t, execRecall s = .next t ∧ RelayLaw t := by
  refine ⟨_, rfl, ?_⟩
  split
  · exact relayLaw_takeRecall _ (relayLaw_of_head_eq h rfl)
  · exact h

/-- The settings of the head link do not enter the law (R138). -/
theorem relayLaw_writeSettings {s : State} (x : HeadSettings) (h : RelayLaw s) :
    RelayLaw (s.setHead { s.head with settings := x }) :=
  ⟨h.size, h.tids, h.idle, h.flying, h.held, h.queued, h.received⟩

/-! ### Every other block -/

/-- A property that only a change of the head link can break. -/
structure BesideHead (P : State → Prop) : Prop extends ZoneBlind P, RuleBlind P, ScheduleBlind P, LineBlind P,
  StoreBlind P, CameraBlind P, CompositorBlind P, SessionBlind P

theorem relayLaw_besideHead : BesideHead RelayLaw where
  zones _ _ h := relayLaw_of_head_eq h rfl
  cams _ _ h := relayLaw_of_head_eq h rfl
  wires _ _ h := relayLaw_of_head_eq h rfl
  rules _ _ h := relayLaw_of_head_eq h rfl
  sched _ _ h := relayLaw_of_head_eq h rfl
  lines _ _ h := relayLaw_of_head_eq h rfl
  pins _ _ h := relayLaw_of_head_eq h rfl
  store _ _ h := relayLaw_of_head_eq h rfl
  fresh _ _ h := relayLaw_of_head_eq h rfl
  comp _ _ h := relayLaw_of_head_eq h rfl
  link _ _ h := relayLaw_of_head_eq h rfl
  reports _ _ h := relayLaw_of_head_eq h rfl

/-- A full reset leaves an empty queue and an IDLE link (R207). -/
theorem relayLaw_fullReset (straps : Straps) (rate : HostRate) (std : Standard) (s : State) :
    RelayLaw (fullReset straps rate std s) :=
  relayLaw_besideHead.toLineBlind.fullReset
    (relayLaw_of_rest rfl (.inr ⟨rfl, rfl⟩) (Nat.zero_le _) List.nodup_nil nofun rfl)

theorem relayLaw_takePart {part : Part} {f : Profile → State → State} {s : State} (h : RelayLaw s)
    (hf : ∀ p, RelayLaw (f p s)) : RelayLaw (takePart part f s) :=
  takePart_keeps relayLaw_besideHead.store h hf

theorem relayLaw_execRestoreRulesArm {s : State} (h : RelayLaw s) :
    ∃ t, execRestoreRulesArm s = .next t ∧ RelayLaw t := by
  refine ⟨_, rfl, ?_⟩
  split
  · exact h
  · exact relayLaw_takePart h fun p => relayLaw_besideHead.toRuleBlind.restoreRules p h

/-- The judgement of every kind of host command keeps the law. -/
theorem hostCommand_keeps_relayLaw (kind : Byte) : JudgementKeeps RelayLaw (hostCommand kind).2 := by
  have hbeside := relayLaw_besideHead
  have hsource := hbeside.toScheduleBlind.toSourceBlind
  unfold hostCommand
  split
  · exact query_keeps
  · exact judged_keeps fun q _ h => hbeside.toSessionBlind.openSession q h
  · exact judged_keeps fun _ _ h => hbeside.toSessionBlind.closeLink h
  · exact query_keeps
  · exact query_keeps
  · exact judged_keeps fun _ _ h => hbeside.link _ _ h
  · exact query_keeps
  · exact configuration_keeps (judged_keeps fun x _ h => hbeside.toCameraBlind.writeCamera .notice x.1 x.2 h)
  · exact query_keeps
  · exact configuration_keeps (judged_keeps fun _ _ h => hbeside.zones _ _ h)
  · exact query_keeps
  · exact configuration_keeps (judged_keeps fun x _ h => hbeside.toZoneBlind.putZone x.1 x.2 h)
  · exact hbeside.toZoneBlind.judgeDropZone
  · exact hbeside.toZoneBlind.judgeRelearnZone
  · exact ZoneBlind.judgeGetZone
  · exact hbeside.toRuleBlind.judgePutRule
  · exact hbeside.toRuleBlind.judgeDropRule
  · exact hbeside.toRuleBlind.judgeArmRule
  · exact RuleBlind.judgeGetRule
  · exact configuration_keeps (judged_keeps fun x _ h => hbeside.toScheduleBlind.putView x.1 x.2 h)
  · exact hbeside.toScheduleBlind.judgeDropView
  · exact hbeside.toScheduleBlind.judgeSetRotation
  · exact configuration_keeps (judged_keeps fun m _ h => hsource.setMinShow m h)
  · exact hbeside.toScheduleBlind.judgeShowView
  · exact hsource.judgeWithdraw
  · exact hbeside.toScheduleBlind.judgeHold
  · exact judged_keeps fun _ _ h => hbeside.toScheduleBlind.releaseHold h
  · exact query_keeps
  · exact configuration_keeps (judged_keeps fun _ _ h => hbeside.reports _ _ h)
  · exact SessionBlind.judgePull
  · exact hbeside.toSessionBlind.judgeAck
  · exact hbeside.toLineBlind.judgeSetLine
  · exact judged_keeps fun _ _ h => hbeside.lines _ _ h
  · exact query_keeps
  · exact configuration_keeps (judged_keeps fun x _ h => relayLaw_writeSettings x h)
  · exact judgeRelay_keeps_relayLaw
  · exact judgeCancelRelay_keeps_relayLaw
  · exact query_keeps
  · exact hbeside.toStoreBlind.judgeCommit
  · exact hbeside.toStoreBlind.judgeRestore
  · exact hbeside.toStoreBlind.judgeErase
  · exact query_keeps
  · exact fun _ _ h => h

/-- Every command answers a state in which the law holds with one in which it holds. -/
theorem relayLaw_exec (i : Instr) {s : State} (h : RelayLaw s) : ∃ t, exec i s = .next t ∧ RelayLaw t := by
  have hbeside := relayLaw_besideHead
  have hlink := hbeside.toSessionBlind
  have hcamera := hbeside.toCameraBlind
  have hzone := hbeside.toZoneBlind
  have hrule := hbeside.toRuleBlind
  have hschedule := hbeside.toScheduleBlind
  have hsource := hschedule.toSourceBlind
  have hcomp := hbeside.toCompositorBlind
  have hline := hbeside.toLineBlind
  have hstore := hbeside.toStoreBlind
  have hcommand : ∀ {i kind}, hostKind i = some kind → ∃ t, exec i s = .next t ∧ RelayLaw t := fun hi =>
    hlink.toLinkBlind.exec_hostKind hostCommand_keeps_relayLaw hi h
  match i with
  | .powerOn _ => exact ⟨_, rfl, relayLaw_fullReset _ _ _ _⟩
  | .resetLine _ => exact ⟨_, rfl, relayLaw_fullReset _ _ _ _⟩
  | .timeBaseTick => exact ⟨_, rfl, relayLaw_of_head_eq h rfl⟩
  | .fieldEnd c f => exact ⟨_, rfl, hcamera.takeFieldEnd c f h⟩
  | .runDeadlineExpiry c => exact ⟨_, rfl, hcamera.expireRun c h⟩
  | .lossDeadlineExpiry c => exact ⟨_, rfl, hcamera.expireLoss c h⟩
  | .lostDeadlineExpiry c => exact ⟨_, rfl, hcamera.expireLost c h⟩
  | .firstActiveLine c => exact ⟨_, rfl, hcamera.takeFirstLine c h⟩
  | .fieldSummary c => exact hzone.execFieldSummary c h
  | .cameraNoticeAtZones c => exact hzone.execCameraNoticeAtZones c h
  | .zoneTransition => exact hrule.execZoneTransition h
  | .lineTransition l => exact hrule.execLineTransition l h
  | .restartNotice => exact hrule.execRestartNotice h
  | .stepDeadlineExpiry r => exact ⟨_, rfl, hrule.expireStep r h⟩
  | .cooldownDeadlineExpiry r => exact ⟨_, rfl, hrule.expireCooldown r h⟩
  | .viewRequest => exact hschedule.execViewRequest h
  | .withdrawal => exact hsource.execWithdrawal h
  | .cameraNoticeAtScheduler c => exact hsource.execCameraNoticeAtScheduler c h
  | .dwellDeadlineExpiry => exact ⟨_, rfl, hsource.expireDwell h⟩
  | .lifetimeDeadlineExpiry o => exact ⟨_, rfl, hsource.expireLifetime o h⟩
  | .rotationDeadlineExpiry => exact ⟨_, rfl, hsource.expireRotation h⟩
  | .deferralDeadlineExpiry => exact ⟨_, rfl, hsource.expireDeferral h⟩
  | .presentation => exact hcomp.execPresentation h
  | .outputFrameStart => exact ⟨_, rfl, hcomp.startFrame h⟩
  | .reportOffer k => exact hlink.execReportOffer k h
  | .retransmitDeadlineExpiry => exact ⟨_, rfl, hlink.expireRetransmit h⟩
  | .pushStallNotice => exact hlink.execPushStallNotice h
  | .pinLevelChange l => exact hline.execPinLevelChange l h
  | .debounceDeadlineExpiry l => exact ⟨_, rfl, hline.expireDebounce l h⟩
  | .latchClaim => exact hline.execLatchClaim h
  | .latchDrop => exact hline.execLatchDrop h
  | .pulseClaim => exact hline.execPulseClaim h
  | .pulseDeadlineExpiry l => exact ⟨_, rfl, hline.expirePulse l h⟩
  | .recall => exact relayLaw_execRecall h
  | .requestFrameComplete => exact ⟨_, rfl, relayLaw_completeRequest h⟩
  | .replyFrame r g b _ => exact ⟨_, rfl, relayLaw_takeReply _ _ _ h⟩
  | .replyDeadlineExpiry => exact ⟨_, rfl, relayLaw_expireReply h⟩
  | .turnaroundGapEnd => exact relayLaw_execTurnaroundGapEnd h
  | .hostByteReceived _ _ => exact ⟨_, rfl, hlink.toLinkBlind.receiveHostByte hostCommand_keeps_relayLaw _ _ h⟩
  | .gapDeadlineExpiry => exact ⟨_, rfl, hlink.toLinkBlind.expireGap h⟩
  | .silenceDeadlineExpiry => exact ⟨_, rfl, hlink.expireSilence h⟩
  | .frameTxComplete _ =>
    exact ⟨_, rfl, hlink.toLinkBlind.completeFrame hostCommand_keeps_relayLaw _
      (fun _ _ => relayLaw_fullReset _ _ _ _) h⟩
  | .unknownKind => exact ⟨_, rfl, hlink.toLinkBlind.takeWhen (hostCommand_keeps_relayLaw 0x00) _ _ h⟩
  | .restoreZones => exact ⟨_, rfl, relayLaw_takePart h fun p => hzone.restoreZones p h⟩
  | .restoreLines => exact ⟨_, rfl, relayLaw_takePart h fun p => hline.restoreLines p h⟩
  | .restoreSchedule => exact ⟨_, rfl, relayLaw_takePart h fun p => hschedule.restoreSchedule p h⟩
  | .restoreRulesRemove => exact ⟨_, rfl, relayLaw_takePart h fun _ => hrule.removeRules h⟩
  | .restoreRulesArm => exact relayLaw_execRestoreRulesArm h
  | .restoreCamera c => exact ⟨_, rfl, relayLaw_takePart h fun p => hcamera.writeCamera _ c (p.cameras.get c) h⟩
  | .restoreFilter => exact ⟨_, rfl, relayLaw_takePart h fun _ => hbeside.reports _ _ h⟩
  | .restoreHeadlink => exact ⟨_, rfl, relayLaw_takePart h fun p => relayLaw_writeSettings p.head h⟩
  | .partTakenNotice p => exact ⟨_, rfl, hstore.takePartNotice p h⟩
  | .restoreReadDone good => exact ⟨_, rfl, hstore.completeRead good h⟩
  | .commitWriteDone stored => exact ⟨_, rfl, hstore.completeWrite stored h⟩
  | .commitVerifyDone good => exact ⟨_, rfl, hstore.completeVerify good h⟩
  | .generationWriteDone back erased => exact ⟨_, rfl, hstore.completeGeneration back erased h⟩
  | .erasePrepareDone a b => exact ⟨_, rfl, hstore.completeErase a b h⟩
  | .setCamera | .getCamera | .setClass | .getClass | .putZone | .dropZone | .relearnZone | .getZone | .putRule
  | .dropRule | .armRule | .getRule | .putView | .dropView | .setRotation | .setMinshow | .showView | .withdraw
  | .hold | .release | .getScreen | .setFilter | .pull | .ack | .setLine | .driveLine | .getLines | .relay
  | .cancelRelay | .setHeadlink | .getRelays | .hello | .openSession | .closeSession | .ping | .setLink | .restart
  | .time | .commit | .restore | .eraseProfile | .getProfile => exact hcommand rfl

end Sys2Proof.Machine

namespace Sys2Proof.CameraHeadLink

open Sys2Proof.Machine Sys2Proof.Safety

/-- Settles O58, by `relayLaw_exec`: the command has one outcome, and in it the law holds. -/
theorem relaysKept : Obligations.RelaysKept := by
  intro i s t h hexec
  obtain ⟨u, hnext, hkept⟩ := relayLaw_exec i h
  cases hexec.symm.trans hnext
  exact hkept

end Sys2Proof.CameraHeadLink
end

section
/-! The line of the head link (R143–R148, R195): the request frame, the search for a reply frame byte by byte, its
judgement, the reply deadline and the turnaround gap. -/

namespace Sys2Proof.Machine

open Sys2Proof.Safety

/-! ### Request frames (R143, R144, R195) -/

theorem requestFrame_eq {t : Transaction} {tag : Byte} (htag : t.tag = some tag) :
    let body := match t.op with | .recall p => [byte p.val] | .raw bytes => bytes
    let covered := [byte t.head.val, tag, (match t.op with | .recall _ => 1 | .raw _ => 2), byte body.length] ++ body
    requestFrame t = 0x5A :: covered ++ be16 (crc16 covered).toNat := by
  unfold requestFrame
  rw [htag]
  cases t.op <;> rfl

theorem completeRequest_of_sending {t : Transaction} {rest : List Transaction} {s : State}
    (hqueue : s.head.queue = t :: rest) (hlink : s.head.link = .sending) : completeRequest s =
      if t.head = 0 then flightOver t rest .ok s
      else s.setHead { s.head with
        link := .awaitReply, replyDeadline := some (later s.now s.head.settings.timeout), received := [] } := by
  rw [← endInFlight_eq t rest .ok s hqueue]
  unfold completeRequest
  rw [hlink, hqueue]

/-! ### One byte (R145) -/

/-- Bytes of a reply frame that are not yet six are held. -/
theorem headByte_gathers {t : Transaction} {rest : List Transaction} {b : Byte} {got : List Byte} {s : State}
    (hlink : s.head.link = .awaitReply) (hqueue : s.head.queue = t :: rest)
    (hgot : gatherReply s.head.received b = got) (hshort : got.length ≠ 6) :
    headByte s b = s.setHead { s.head with received := got } := by
  subst hgot
  rcases headByte_cases b hlink hqueue with ⟨_, _, _, _, _, _, hframe, _⟩ | ⟨_, heq⟩
  · exact absurd (congrArg List.length hframe) hshort
  · exact heq

/-- The sixth byte has the reply frame judged. -/
theorem headByte_judges {t : Transaction} {rest : List Transaction} {start addr tag status hi lo : Byte} {s : State}
    (hlink : s.head.link = .awaitReply) (hqueue : s.head.queue = t :: rest)
    (hreceived : s.head.received = [start, addr, tag, status, hi]) :
    headByte s lo = judgeReply addr tag status (hi ++ lo) t s := by
  have hframe : gatherReply s.head.received lo = [start, addr, tag, status, hi, lo] := by rw [hreceived]; rfl
  simp only [headByte, hlink, hqueue, hframe]

theorem setReceived_self {got : List Byte} {s : State} (hreceived : s.head.received = got) :
    s.setHead { s.head with received := got } = s := by
  subst hreceived
  rfl

/-! ### Runs of bytes -/

theorem foldl_headByte_discarded {s : State} (bytes : List Byte)
    (hoff : s.head.link ≠ .awaitReply ∨ s.head.queue = []) : bytes.foldl headByte s = s := by
  induction bytes with
  | nil => rfl
  | cons b more ih => rw [List.foldl_cons, headByte_discarded b hoff, ih]

/-- Before a start code nothing is held. -/
theorem foldl_headByte_search {t : Transaction} {rest : List Transaction} {before : List Byte} {s : State}
    (hlink : s.head.link = .awaitReply) (hqueue : s.head.queue = t :: rest) (hreceived : s.head.received = [])
    (hno : 0x5B ∉ before) : before.foldl headByte s = s := by
  induction before with
  | nil => rfl
  | cons b more ih =>
    obtain ⟨hb, hmore⟩ := not_or.mp (List.mem_cons.not.mp hno)
    have hgot : gatherReply s.head.received b = s.head.received := by
      rw [hreceived, gatherReply, if_pos rfl, if_neg (Ne.symm hb)]
    rw [List.foldl_cons, headByte_gathers hlink hqueue hgot (by rw [hreceived]; decide)]
    exact ih hmore

/-- After its start the bytes of a reply frame are held, up to five. -/
theorem foldl_headByte_gather {t : Transaction} {rest : List Transaction} {got held : List Byte} {s : State}
    (hlink : s.head.link = .awaitReply) (hqueue : s.head.queue = t :: rest) (hreceived : s.head.received = held)
    (hheld : held ≠ []) (hshort : held.length + got.length ≤ 5) :
    got.foldl headByte s = s.setHead { s.head with received := held ++ got } := by
  induction got generalizing s held with
  | nil => rw [List.append_nil, setReceived_self hreceived, List.foldl_nil]
  | cons b more ih =>
    have hlength : (held ++ [b]).length + more.length ≤ 5 := by
      simp only [List.length_append, List.length_cons, List.length_nil] at hshort ⊢
      omega
    have hgot : gatherReply s.head.received b = held ++ [b] := by rw [hreceived, gatherReply, if_neg hheld]
    have hmore := ih (s := s.setHead { s.head with received := held ++ [b] }) hlink hqueue rfl
      (List.append_ne_nil_of_left_ne_nil hheld [b]) hlength
    rw [List.foldl_cons, headByte_gathers hlink hqueue hgot (by omega), hmore, List.append_cons held b more]
    rfl

/-- A start code and up to four bytes behind it, after bytes that are none, are held. -/
theorem foldl_headByte_start {t : Transaction} {rest : List Transaction} {before got : List Byte} {s : State}
    (hlink : s.head.link = .awaitReply) (hqueue : s.head.queue = t :: rest) (hreceived : s.head.received = [])
    (hno : 0x5B ∉ before) (hshort : got.length ≤ 4) :
    (before ++ 0x5B :: got).foldl headByte s = s.setHead { s.head with received := 0x5B :: got } := by
  have hstart : gatherReply s.head.received 0x5B = [0x5B] := by rw [hreceived]; rfl
  have hgathered := foldl_headByte_gather (s := s.setHead { s.head with received := [0x5B] }) hlink hqueue rfl
    (List.cons_ne_nil _ _) (by rw [List.length_singleton]; omega : [0x5B].length + got.length ≤ 5)
  rw [List.foldl_append, foldl_headByte_search hlink hqueue hreceived hno, List.foldl_cons,
    headByte_gathers hlink hqueue hstart (by decide), hgathered]
  rfl

/-- The reply frame is judged at its last byte. -/
theorem foldl_headByte_frame {t : Transaction} {rest : List Transaction} {before : List Byte}
    {addr tag status hi lo : Byte} {s : State} (hlink : s.head.link = .awaitReply)
    (hqueue : s.head.queue = t :: rest) (hreceived : s.head.received = []) (hno : 0x5B ∉ before) :
    (before ++ [0x5B, addr, tag, status, hi, lo]).foldl headByte s = judgeReply addr tag status (hi ++ lo) t
      (s.setHead { s.head with received := [0x5B, addr, tag, status, hi] }) := by
  have hsplit : before ++ [0x5B, addr, tag, status, hi, lo] = (before ++ 0x5B :: [addr, tag, status, hi]) ++ [lo] := by
    rw [List.append_assoc]
    rfl
  rw [hsplit, List.foldl_append, foldl_headByte_start hlink hqueue hreceived hno le_rfl]
  exact headByte_judges hlink hqueue rfl

/-! ### The judgement (R145, R195) -/

/-- A 16-bit CRC stands in two bytes, most significant first. -/
theorem append_eq_iff_be16 (hi lo : Byte) (crc : Half) : hi ++ lo = crc ↔ be16 crc.toNat = [hi, lo] := by
  have hnat : (hi ++ lo).toNat = hi.toNat * 256 + lo.toNat := by
    rw [BitVec.toNat_append, ← Nat.shiftLeft_add_eq_or_of_lt lo.isLt, Nat.shiftLeft_eq]
  have hhi := hi.isLt
  have hlo := lo.isLt
  have hcrc := crc.isLt
  simp only [be16, byte, List.cons.injEq, and_true, ← BitVec.toNat_inj, BitVec.toNat_ofNat, hnat]
  omega

theorem eq_byte_iff (addr : Byte) (head : HeadAddr) : addr = byte head.val ↔ addr.toNat = head.val := by
  have hhead : (byte head.val).toNat = head.val := byte_toNat (by omega)
  rw [← BitVec.toNat_inj, hhead]

theorem judgeReply_of_bad {t : Transaction} {rest : List Transaction} {addr tag status hi lo : Byte} {s : State}
    (hqueue : s.head.queue = t :: rest) (hbad : ¬ be16 (crc16 [addr, tag, status]).toNat = [hi, lo]) :
    judgeReply addr tag status (hi ++ lo) t s = attemptFailed t rest .badReply s := by
  rw [judgeReply, if_pos ((append_eq_iff_be16 ..).not.mpr hbad), failAttempt_eq t rest _ s hqueue]

theorem judgeReply_of_answer {t : Transaction} {rest : List Transaction} {addr tag status hi lo : Byte} {s : State}
    (hqueue : s.head.queue = t :: rest) (hgood : be16 (crc16 [addr, tag, status]).toNat = [hi, lo])
    (haddr : addr.toNat = t.head.val) (htag : t.tag = some tag) :
    judgeReply addr tag status (hi ++ lo) t s = flightOver t rest (if status = 0 then .ok else .headRefused) s := by
  rw [judgeReply, if_neg (not_not_intro ((append_eq_iff_be16 ..).mpr hgood)),
    if_pos ⟨(eq_byte_iff ..).mpr haddr, htag.symm⟩, endInFlight_eq t rest _ s hqueue]

theorem judgeReply_of_foreign {t : Transaction} {addr tag status hi lo : Byte} {s : State}
    (hgood : be16 (crc16 [addr, tag, status]).toNat = [hi, lo])
    (hforeign : addr.toNat ≠ t.head.val ∨ t.tag ≠ some tag) :
    judgeReply addr tag status (hi ++ lo) t s = s.setHead { s.head with received := [] } := by
  have hother : ¬ (addr = byte t.head.val ∧ some tag = t.tag) := fun ⟨haddr, htag⟩ =>
    hforeign.elim (· ((eq_byte_iff ..).mp haddr)) (· htag.symm)
  rw [judgeReply, if_neg (not_not_intro ((append_eq_iff_be16 ..).mpr hgood)), if_neg hother]

/-! ### The receiver's rate (R145; log 37) -/

/-- While a reply is awaited, it is received at this rate. -/
def ReceivesAt (rate : HeadRate) (s : State) : Prop := s.head.link = .awaitReply → receiveRate s.head = rate

theorem receivesAt_of_line {rate : HeadRate} {request : List Byte} {s : State}
    (hline : s.head.line = some ⟨rate, request⟩) : ReceivesAt rate s := fun _ => by rw [receiveRate, hline]

/-- A failed attempt is followed by a gap (R147). -/
theorem failAttempt_link (t : Transaction) (f : Failure) (s : State) : (failAttempt t f s).head.link = .gap := by
  unfold failAttempt
  split
  · rfl
  · split <;> rfl

theorem receivesAt_judgeReply {rate : HeadRate} (addr tag status : Byte) (crc : Half) (t : Transaction) {s : State}
    (h : ReceivesAt rate s) : ReceivesAt rate (judgeReply addr tag status crc t s) := by
  unfold judgeReply
  split
  · exact fun hlink => nomatch (failAttempt_link t .badReply s).symm.trans hlink
  · split
    · exact nofun
    · exact h

theorem receivesAt_headByte {rate : HeadRate} (s : State) (b : Byte) (h : ReceivesAt rate s) :
    ReceivesAt rate (headByte s b) := by
  unfold headByte
  split
  · split
    · exact receivesAt_judgeReply _ _ _ _ _ h
    · exact h
  · exact h

/-- Bytes at the receiver's rate with good stop bits are read one after another. -/
theorem takeReply_of_read {rate : HeadRate} {sent : List Byte} {s : State} (h : ReceivesAt rate s) :
    takeReply rate true sent s = sent.foldl headByte s := by
  unfold takeReply
  split
  next hlink => rw [if_pos ⟨(h hlink).symm, rfl⟩]
  next hlink => rw [foldl_headByte_discarded sent (.inl hlink)]

theorem exec_replyFrame_of_read {rate : HeadRate} {first : Byte} {more : List Byte} {s : State}
    (h : ReceivesAt rate s) :
    exec (.replyFrame rate true first more) s = .next ((first :: more).foldl headByte s) :=
  congrArg _ (takeReply_of_read h)

/-- What is received of other characters is a free value (log 37). -/
theorem exec_replyFrame_of_misread {rate other : HeadRate} {stopGood : Bool} {first : Byte} {sent : List Byte}
    {s : State} (hlink : s.head.link = .awaitReply) (h : ReceivesAt rate s) (hother : other ≠ rate ∨ stopGood = false) :
    exec (.replyFrame other stopGood first sent) s =
      .next ((Config.misread s.fresh).foldl headByte s.tickFresh) := by
  have hmisread : ¬ (other = receiveRate s.head ∧ stopGood = true) := by
    rw [h hlink]
    rintro ⟨hrate, hgood⟩
    rcases hother with hne | hbad
    · exact hne hrate
    · rw [hbad] at hgood
      cases hgood
  have htaken : takeReply other stopGood (first :: sent) s = (Config.misread s.fresh).foldl headByte s.tickFresh := by
    rw [takeReply, if_pos hlink, if_neg hmisread]
  exact congrArg _ htaken

theorem exec_replyFrame_of_off {rate : HeadRate} {stopGood : Bool} {first : Byte} {sent : List Byte} {s : State}
    (hlink : s.head.link ≠ .awaitReply) : exec (.replyFrame rate stopGood first sent) s = .next s :=
  congrArg _ (if_neg hlink)

/-! ### The reply deadline and the gap (R146–R148) -/

theorem expireReply_of_reached {t : Transaction} {rest : List Transaction} {d : Time} {s : State}
    (hqueue : s.head.queue = t :: rest) (hlink : s.head.link = .awaitReply) (hdeadline : s.head.replyDeadline = some d)
    (hreached : reached s.now d = true) : expireReply s = attemptFailed t rest .noReply s := by
  simp only [expireReply, hlink, hqueue, due_some_of_reached hdeadline hreached, if_true,
    failAttempt_eq t rest _ s hqueue]

theorem exec_turnaroundGapEnd {s : State} (hgap : s.head.link = .gap) :
    exec .turnaroundGapEnd s = .next (s.setHead (gapEnd s.head)) :=
  congrArg _ (if_pos hgap)

theorem gapEnd_of_flight {t : Transaction} {rest : List Transaction} {h : HeadLink} (hqueue : h.queue = t :: rest)
    (hflight : h.inFlight = true) : gapEnd h = sendFrame { t with attempts := t.attempts + 1 } rest h := by
  simp only [gapEnd, hqueue, hflight, if_true]

theorem gapEnd_of_rest {t : Transaction} {rest : List Transaction} {h : HeadLink} (hqueue : h.queue = t :: rest)
    (hflight : h.inFlight = false) : gapEnd h = sendFrame
      { t with tag := some h.nextTag, attempts := t.attempts + 1 } rest { h with nextTag := h.nextTag + 1 } := by
  simp only [gapEnd, linkTakes, hqueue, hflight, Bool.false_eq_true, if_false]

theorem gapEnd_of_empty {h : HeadLink} (hqueue : h.queue = []) :
    gapEnd h = { h with link := .idle, gapLength := none } := by
  simp only [gapEnd, hqueue]

end Sys2Proof.Machine

namespace Sys2Proof.CameraHeadLink

open Sys2Proof.Machine Sys2Proof.Safety

/-- Settles O42, by the state of the link and the bytes that arrive. -/
theorem attemptsOnTheLine : Obligations.AttemptsOnTheLine := by
  intro t rest s sends
  refine ⟨fun hqueue => ⟨fun hlink hhead => ?broadcast, fun hlink hhead => ?addressed,
    fun rate request before hlink hreceived hline hno first more => ⟨fun got hshort hrun => ?part,
      fun addr tag status hi lo hrun => ?frame⟩,
    fun d hlink hdeadline hreached => congrArg _ (expireReply_of_reached hqueue hlink hdeadline hreached),
    fun hgap hflight => ?again, fun hgap hflight => ?next⟩,
    fun hgap hqueue => ?idle, fun rate request hlink hline => ⟨fun b more c others u hfirst => ?runs,
      fun other stopGood first sent hother => ?misread⟩,
    fun hlink _ _ _ _ => exec_replyFrame_of_off hlink, fun _ htag => requestFrame_eq htag⟩
  case broadcast => exact congrArg _ ((completeRequest_of_sending hqueue hlink).trans (if_pos hhead))
  case addressed => exact congrArg _ ((completeRequest_of_sending hqueue hlink).trans (if_neg hhead))
  case part =>
    rw [exec_replyFrame_of_read (receivesAt_of_line hline), hrun,
      foldl_headByte_start hlink hqueue hreceived hno hshort]
  case frame =>
    rw [exec_replyFrame_of_read (receivesAt_of_line hline), hrun,
      foldl_headByte_frame hlink hqueue hreceived hno]
    refine ⟨fun hbad => ?_, fun hgood haddr htag => ?_, fun hgood hforeign => ?_⟩
    · exact congrArg _ (judgeReply_of_bad hqueue hbad)
    · exact congrArg _ (judgeReply_of_answer hqueue hgood haddr htag)
    · exact congrArg _ ((judgeReply_of_foreign hgood hforeign).trans (setReceived_self hreceived))
  case again => rw [exec_turnaroundGapEnd hgap, gapEnd_of_flight hqueue hflight]; rfl
  case next => rw [exec_turnaroundGapEnd hgap, gapEnd_of_rest hqueue hflight]; rfl
  case idle => rw [exec_turnaroundGapEnd hgap, gapEnd_of_empty hqueue]
  case runs =>
    have hreads : ReceivesAt rate s := receivesAt_of_line hline
    rw [exec_replyFrame_of_read hreads] at hfirst ⊢
    cases hfirst
    rw [exec_replyFrame_of_read (foldl_keeps receivesAt_headByte _ _ hreads), ← List.foldl_append, List.cons_append]
  case misread =>
    have hreads : ReceivesAt rate s := receivesAt_of_line hline
    rw [exec_replyFrame_of_misread hlink hreads hother]
    refine ⟨fun hnone => ?_, fun b more hsome => ?_⟩
    · rw [hnone]
      rfl
    · have hticked : ReceivesAt rate s.tickFresh := receivesAt_of_line (s := s.tickFresh) hline
      rw [exec_replyFrame_of_read hticked, hsome]

end Sys2Proof.CameraHeadLink
end

section
/-! The judging of host commands that are turned away (R164, R174, R175), and the answers of SET_LINK and RESTART (R172,
R173, R178): each is the reply to the frame, entered over the state that its judgement leaves. -/

namespace Sys2Proof.Machine

open Sys2Proof.Safety

/-! ### The reply that has entered the cache (R163) -/

/-- A frame that leaves the command queue (R164). -/
def dequeued (rest : List Frame) (s : State) : State := s.setLink { s.link with commands := rest }

/-- The newest entry of the cache is the reply to the frame, with what its completion brings about. -/
theorem replied_newest (f : Frame) (a : Answer) (u : State) : ∃ e, (replied f a u).link.cache.getLast? = some e ∧
    e.frame = buildFrame f.seq (replyKind f.kind) a.payload ∧ e.post = a.post := by
  obtain ⟨-, -, -, -, -, -, -, hmap⟩ := kick_link (u.setLink (cacheReply f a u.link))
  have hlast := congrArg List.getLast? hmap
  simp only [List.getLast?_map, State.setLink_link, cacheReply, List.getLast?_append, List.getLast?_singleton,
    Option.some_or, Option.map_some, Option.map_eq_some_iff, Prod.mk.injEq] at hlast
  obtain ⟨e, he, -, -, hframe, hpost⟩ := hlast
  exact ⟨e, he, hframe, hpost⟩

theorem replied_restartPending (f : Frame) (a : Answer) (u : State) :
    (replied f a u).link.restartPending = u.link.restartPending := by
  obtain ⟨-, -, -, -, -, -, hrestart, -⟩ := kick_link (u.setLink (cacheReply f a u.link))
  exact hrestart

/-- A reply whose command has no effect leaves the state as a taking without effect does (R174). -/
theorem replied_taken (f : Frame) (rest : List Frame) (a : Answer) (s : State) :
    Taken f rest a.payload s s (replied f a (dequeued rest s)) := by
  obtain ⟨hrate, hreceiver, hgap, hbadStop, hcommands, hsession, hrestart, -⟩ :=
    kick_link ((dequeued rest s).setLink (cacheReply f a (dequeued rest s).link))
  exact
    { commands := hcommands
      answer := replied_answered f a _
      session := hsession
      rate := hrate
      receiver := hreceiver
      gap := hgap
      badStop := hbadStop
      restart := hrestart
      beyond := replied_beyond f a _ }

/-! ### Refusals before the judgement (R164, R174) -/

/-- The row of a host command other than HELLO and OPEN takes the command of its kind in an OPEN session only. -/
theorem exec_hostKind_takeKind {i : Instr} {kind : Byte} (hi : hostKind i = some kind) (hhello : i ≠ .hello)
    (hopen : i ≠ .openSession) (s : State) : exec i s = .next (takeKind kind (hostCommand kind).2 s) := by
  cases i <;> simp only [hostKind, Option.some.injEq, reduceCtorEq, ne_eq, not_true_eq_false] at hi hhello hopen <;>
    (subst hi; rfl)

theorem takeKind_closed {kind : Byte} {f : Frame} {rest : List Frame} {s : State} (j : Judgement)
    (holdest : s.link.commands = f :: rest) (hkind : f.kind = kind) (htake : takeable s.link = true)
    (hclosed : s.link.session.state = .closed) :
    takeKind kind j s = replied f (answerRefused .closed) (dequeued rest s) := by
  simp [takeKind, takeWhen, holdest, hkind, htake, takeFrame, hclosed, replied, dequeued]

theorem exec_unknownKind {f : Frame} {rest : List Frame} {s : State} (hready : Ready f.kind f rest s)
    (hnone : ∀ i, hostKind i ≠ some f.kind) :
    exec .unknownKind s = .next (replied f (answerRefused .unknown) (dequeued rest s)) := by
  obtain ⟨hunassigned, -⟩ := hostCommand_unassigned f.kind hnone
  refine congrArg Host.Outcome.next ?_
  simp [takeWhen, hready.oldest, hunassigned, ready_takeable hready, takeFrame, hready.session, judgeUnknown, replied,
    dequeued]

theorem replyKind_high {kind : Byte} (h : 128 ≤ kind.toNat) : replyKind kind = 0xFF :=
  if_neg (Nat.not_lt.mpr h)

/-! ### SET_LINK and RESTART (R172, R173, R178) -/

theorem exec_setLink_replied {r : HostRate} {f : Frame} {rest : List Frame} {s : State} (hready : Ready 0x05 f rest s)
    (hparse : parseSetLink f.payload = .ok r) :
    exec .setLink s = .next (replied f ⟨[0x00], some (.switchRate r)⟩ (dequeued rest s)) :=
  congrArg Host.Outcome.next (takeKind_replied hready (judged_ok hparse))

/-- A restart becomes pending (R173). -/
def restartAwaited (s : State) : State := s.setLink { s.link with restartPending := true }

theorem exec_restart_replied {f : Frame} {rest : List Frame} {s : State} (hready : Ready 0x06 f rest s)
    (hnone : f.payload = []) :
    exec .restart s = .next (replied f ⟨[0x00], some .restart⟩ (restartAwaited (dequeued rest s))) :=
  congrArg Host.Outcome.next (takeKind_replied hready (judged_ok (parseNone_nil hnone)))

/-- While a restart is pending no frame is taken (R173). -/
theorem takeable_of_restartPending {l : HostLink} (h : l.restartPending = true) : takeable l = false := by
  simp [takeable, h]

end Sys2Proof.Machine

namespace Sys2Proof.HostLinkFraming

open Sys2Proof.Machine Sys2Proof.Safety

/-- Settles O5: both refusals are replies over the state that the frame has left. -/
theorem commandsTurnedAway : Obligations.CommandsTurnedAway := by
  refine ⟨fun i kind f rest s hi hhello hopen holdest hkind htake hclosed => ?closed,
    fun f rest s hready hnone => ⟨_, exec_unknownKind hready hnone,
      replied_taken f rest (answerRefused .unknown) s, fun hhigh => ?high⟩⟩
  case closed =>
    rw [exec_hostKind_takeKind hi hhello hopen, takeKind_closed _ holdest hkind htake hclosed]
    exact ⟨_, rfl, replied_taken f rest (answerRefused .closed) s⟩
  case high =>
    obtain ⟨e, hlast, hframe, -⟩ := replied_newest f (answerRefused .unknown) (dequeued rest s)
    rw [replyKind_high hhigh] at hframe
    exact ⟨e, hlast, hframe⟩

end Sys2Proof.HostLinkFraming
end

section
/-! The receiver (R157–R164, R170): what one byte does in each of its states, the refusals, and the judgement of a
complete frame. -/

namespace Sys2Proof.Machine

open Sys2Proof.Safety

/-! ### One byte at the receiver (R157, R158) -/

section
variable {now : Time} {b len seq kind : Byte} {payload got : List Byte} {good : Bool} {l : HostLink}

theorem receiveByte_noise (h : l.receiver = .hunt) (hb : b ≠ 0xA5) : receiveByte now b good l = l := by
  simp only [receiveByte, h, hb, if_false]

theorem receiveByte_startCode (h : l.receiver = .hunt) :
    receiveByte now 0xA5 good l = awaitByte now (.header []) good (huntAgain l) := by
  simp only [receiveByte, h, if_true]

theorem receiveByte_len (h : l.receiver = .header []) :
    receiveByte now b good l = awaitByte now (.header [b]) good l := by
  simp only [receiveByte, h]; rfl

theorem receiveByte_seq (h : l.receiver = .header [len]) :
    receiveByte now b good l = awaitByte now (.header [len, b]) good l := by
  simp only [receiveByte, h]; rfl

theorem receiveByte_kind_oversize (h : l.receiver = .header [len, seq]) (hlen : 240 < len.toNat) :
    receiveByte now kind good l = refuseFrame seq .oversize l := by
  simp only [receiveByte, h, headerByte, if_pos hlen]

theorem receiveByte_kind_noPayload (h : l.receiver = .header [0, seq]) :
    receiveByte now kind good l = awaitByte now (.check 0 seq kind [] []) good l := by
  simp only [receiveByte, h]; rfl

theorem receiveByte_kind_payload (h : l.receiver = .header [len, seq]) (hzero : len ≠ 0) (hlen : len.toNat ≤ 240) :
    receiveByte now kind good l = awaitByte now (.body len seq kind []) good l := by
  simp only [receiveByte, h, headerByte, if_neg (Nat.not_lt.mpr hlen), if_neg hzero]

theorem receiveByte_payload (h : l.receiver = .body len seq kind got) (hmore : got.length + 1 < len.toNat) :
    receiveByte now b good l = awaitByte now (.body len seq kind (got ++ [b])) good l := by
  simp only [receiveByte, h, bodyByte, if_neg (Nat.ne_of_lt hmore)]

theorem receiveByte_payload_last (h : l.receiver = .body len seq kind got) (hlast : got.length + 1 = len.toNat) :
    receiveByte now b good l = awaitByte now (.check len seq kind (got ++ [b]) []) good l := by
  simp only [receiveByte, h, bodyByte, if_pos hlast]

theorem receiveByte_crc (h : l.receiver = .check len seq kind payload []) :
    receiveByte now b good l = awaitByte now (.check len seq kind payload [b]) good l := by
  simp only [receiveByte, h]; rfl

theorem receiveByte_crc_last {hi : Byte} (h : l.receiver = .check len seq kind payload [hi]) :
    receiveByte now b good l =
      judgeFrame now ⟨seq, kind, payload, hi ++ b⟩ { l with badStop := l.badStop || !good } := by
  simp only [receiveByte, h]; rfl

end

/-! ### The step that a byte is (R158, R159, R165) -/

/-- A byte that hands on no frame changes the receiver, and the transmitter chooses. -/
theorem exec_hostByteReceived {b : Byte} {good : Bool} {s : State} {l : HostLink}
    (h : receiveByte s.now b good s.link = l) (hcommands : l.commands = s.link.commands) :
    exec (.hostByteReceived b good) s = .next (s.setLink l).kick := by
  subst h
  exact congrArg Host.Outcome.next (if_neg (by rw [hcommands]; exact Nat.lt_irrefl _))

/-- A byte with which a frame enters the command queue makes the controller take what it can (R164). -/
theorem exec_hostByteReceived_queued {b : Byte} {good : Bool} {f : Frame} {s : State} {l : HostLink}
    (h : receiveByte s.now b good s.link = l) (hcommands : l.commands = s.link.commands ++ [f]) :
    ∃ u, TakesOn (s.setLink l) u ∧ exec (.hostByteReceived b good) s = .next u.kick := by
  obtain ⟨u, htakes, hcheck⟩ := checkCommands_takesOn (s.setLink l)
  subst h
  exact ⟨u, htakes, congrArg Host.Outcome.next
    ((if_pos (by rw [hcommands, List.length_append]; exact Nat.lt_succ_self _)).trans hcheck)⟩

/-- A partial frame is held, its gap deadline 50 ms away, and the transmitter has chosen (R159). -/
def midFrame (r : Receiver) (bad : Bool) (s : State) : State :=
  (s.setLink { s.link with receiver := r, gap := some (later s.now 5), badStop := bad }).kick

theorem midFrame_eq (r : Receiver) (bad : Bool) (s : State) : midFrame r bad s =
    s.kick.setLink { s.kick.link with receiver := r, gap := some (later s.now 5), badStop := bad } :=
  kick_receiver ..

theorem midFrame_now (r : Receiver) (bad : Bool) (s : State) : (midFrame r bad s).now = s.now := kick_now _

/-- What a partial frame held before leaves no trace in the state with a later one. -/
theorem midFrame_midFrame (r r' : Receiver) (bad bad' : Bool) (s : State) :
    midFrame r' bad' (midFrame r bad s) = midFrame r' bad' s := by
  have hkick : (midFrame r bad s).kick = midFrame r bad s := kick_kick _
  rw [midFrame_eq r' bad' (midFrame r bad s), hkick, midFrame_now, midFrame_eq r bad s, midFrame_eq r' bad' s]
  rfl

theorem midFrame_link (r : Receiver) (bad : Bool) (s : State) :
    (midFrame r bad s).link.receiver = r ∧ (midFrame r bad s).link.badStop = bad := by
  obtain ⟨-, hreceiver, -, hbadStop, -⟩ :=
    kick_link (s.setLink { s.link with receiver := r, gap := some (later s.now 5), badStop := bad })
  exact ⟨hreceiver, hbadStop⟩

theorem exec_hostByteReceived_awaits {b : Byte} {good : Bool} {r : Receiver} {s : State}
    (h : receiveByte s.now b good s.link = awaitByte s.now r good s.link) :
    exec (.hostByteReceived b good) s = .next (midFrame r (s.link.badStop || !good) s) :=
  exec_hostByteReceived h rfl

/-- A start code begins a partial frame afresh (R157). -/
theorem exec_hostByteReceived_startCode (good : Bool) {s : State} (h : s.link.receiver = .hunt) :
    exec (.hostByteReceived 0xA5 good) s = .next (midFrame (.header []) (!good) s) :=
  exec_hostByteReceived (receiveByte_startCode h) rfl

/-! ### Refusals (R157–R160) -/

theorem offerImmediate_eq (f : ImmediateFrame) (l : HostLink) : offerImmediate f l = { l with
    immediate := if l.immediate.length < 4 then l.immediate ++ [f] else l.immediate } := by
  unfold offerImmediate
  split <;> rfl

/-- A refused frame leaves the receiver in HUNT, and its NAK in the immediate queue where that has room. -/
theorem refuseFrame_eq (seq : Byte) (reason : NakReason) (l : HostLink) (bad : Bool) :
    refuseFrame seq reason { l with badStop := bad } = { l with
      receiver := .hunt, gap := none, badStop := false
      immediate := if l.immediate.length < 4 then l.immediate ++ [.nak seq reason] else l.immediate } :=
  offerImmediate_eq ..

theorem exec_hostByteReceived_refused {b seq : Byte} {good bad : Bool} {reason : NakReason} {s : State}
    (h : receiveByte s.now b good s.link = refuseFrame seq reason { s.link with badStop := bad }) :
    exec (.hostByteReceived b good) s = .next (refusedFrame seq reason s) :=
  exec_hostByteReceived (h.trans (refuseFrame_eq ..)) rfl

/-- The gap deadline that expires refuses the partial frame with the SEQ that had arrived (R159). -/
theorem exec_gapDeadlineExpiry {d : Time} {s : State} (hgap : s.link.gap = some d) (hreached : reached s.now d = true) :
    exec .gapDeadlineExpiry s = .next (refusedFrame (partialSeq s.link.receiver) .gap s) := by
  have hexpires : expireGap s = (s.setLink (refuseFrame (partialSeq s.link.receiver) .gap s.link)).kick :=
    if_pos (by rw [hgap]; exact hreached)
  rw [refuseFrame_eq _ _ s.link s.link.badStop] at hexpires
  exact congrArg Host.Outcome.next hexpires

/-! ### A run of bytes (R157, R158) -/

/-- A good byte that goes on with a partial frame is followed by the bytes behind it. -/
theorem receiving_awaits {b : Byte} {bs : List Byte} {r r' : Receiver} {s : State}
    (h : ∀ l : HostLink, l.receiver = r → receiveByte s.now b true l = awaitByte s.now r' true l) :
    receiving (b :: bs) (midFrame r false s) = receiving bs (midFrame r' false s) := by
  obtain ⟨hreceiver, hbadStop⟩ := midFrame_link r false s
  have hstep : exec (.hostByteReceived b true) (midFrame r false s) = .next (midFrame r' false s) := by
    rw [exec_hostByteReceived_awaits (by rw [midFrame_now]; exact h _ hreceiver), midFrame_midFrame, hbadStop]
    rfl
  simp only [receiving, hstep]

theorem receiving_startCode {bs : List Byte} {s : State} (h : s.link.receiver = .hunt) :
    receiving (0xA5 :: bs) s = receiving bs (midFrame (.header []) false s) := by
  simp only [receiving, exec_hostByteReceived_startCode true h, Bool.not_true]

/-- The payload's bytes lead from BODY to CHECK (R158). -/
theorem receiving_body {len seq kind b : Byte} {more got bs : List Byte} {s : State}
    (hlen : got.length + (more.length + 1) = len.toNat) :
    receiving (b :: more ++ bs) (midFrame (.body len seq kind got) false s) =
      receiving bs (midFrame (.check len seq kind (got ++ b :: more) []) false s) := by
  induction more generalizing b got with
  | nil => exact receiving_awaits fun l h => receiveByte_payload_last h hlen
  | cons c more ih =>
    have hmore : got.length + 1 < len.toNat := by rw [List.length_cons] at hlen; omega
    have hrest : (got ++ [b]).length + (more.length + 1) = len.toNat := by
      rw [List.length_append, List.length_singleton]; rw [List.length_cons] at hlen; omega
    rw [List.append_cons got b, ← ih hrest]
    exact receiving_awaits fun l h => receiveByte_payload h hmore

theorem toNat_byte_of_le {n : Nat} (h : n ≤ 240) : (byte n).toNat = n :=
  Nat.mod_eq_of_lt (Nat.lt_of_le_of_lt h (by decide))

/-- KIND and the payload lead from HEADER to CHECK (R157, R158). -/
theorem receiving_kind {seq kind : Byte} {payload bs : List Byte} {s : State} (hlen : payload.length ≤ 240) :
    receiving (kind :: payload ++ bs) (midFrame (.header [byte payload.length, seq]) false s) =
      receiving bs (midFrame (.check (byte payload.length) seq kind payload []) false s) := by
  cases payload with
  | nil => exact receiving_awaits fun l h => receiveByte_kind_noPayload h
  | cons b more =>
    have htoNat : (byte (b :: more).length).toNat = more.length + 1 := toNat_byte_of_le hlen
    have hzero : byte (b :: more).length ≠ 0 := fun h => by rw [h] at htoNat; cases htoNat
    have hbody := receiving_body (seq := seq) (kind := kind) (b := b) (more := more) (got := []) (bs := bs) (s := s)
      (by rw [htoNat]; exact Nat.zero_add _)
    exact (receiving_awaits fun l h => receiveByte_kind_payload h hzero (htoNat ▸ hlen)).trans hbody

/-! ### The judgement of a frame (R158, R161, R162, R170) -/

section
variable {now : Time} {f : Frame} {l : HostLink}

theorem judgeFrame_badCrc (h : l.badStop = true ∨ f.crc ≠ frameCrc f.seq f.kind f.payload) :
    judgeFrame now f l = refuseFrame f.seq .badCrc l := if_pos (h.imp_right Ne.symm)

theorem judgeFrame_badSeq (h : ¬ (l.badStop = true ∨ f.crc ≠ frameCrc f.seq f.kind f.payload)) (hseq : f.seq = 0) :
    judgeFrame now f l = refuseFrame 0 .badSeq l :=
  (if_neg (mt (Or.imp_right Ne.symm) h)).trans (if_pos hseq)

theorem judgeFrame_valid (h : ¬ (l.badStop = true ∨ f.crc ≠ frameCrc f.seq f.kind f.payload)) (hseq : f.seq ≠ 0) :
    judgeFrame now f l = takeValid now f (huntAgain l) :=
  (if_neg (mt (Or.imp_right Ne.symm) h)).trans (if_neg hseq)

/-- A cached reply answers the frame (R161). -/
def Cached (f : Frame) (l : HostLink) : Prop := ∃ e ∈ l.cache, e.seq = f.seq ∧ e.crc = f.crc

/-- A waiting frame is the same (R161). -/
def Waits (f : Frame) (l : HostLink) : Prop := ∃ g ∈ l.commands, g.seq = f.seq ∧ g.crc = f.crc

theorem cached_iff (f : Frame) (l : HostLink) : l.cache.any (answers f) = true ↔ Cached f l := by
  simp [Cached, answers]

theorem waits_iff (f : Frame) (l : HostLink) :
    (l.commands.any fun g => g.seq == f.seq && g.crc == f.crc) = true ↔ Waits f l := by
  simp [Waits]

/-- The link at the arrival of a valid frame, before what it asks for is looked at (R161, R170). -/
def heard (now : Time) (l : HostLink) : HostLink :=
  { l with receiver := .hunt, gap := none, badStop := false, session := heardSession now l.session }

theorem takeValid_cached (h : Cached f l) : takeValid now f (huntAgain l) = { heard now l with
    cache := l.cache.map fun e =>
      if e.seq = f.seq ∧ e.crc = f.crc ∧ e.mark = .sent then { e with mark := .unsent } else e } := by
  have hresend : resendEntry f = fun e =>
      if e.seq = f.seq ∧ e.crc = f.crc ∧ e.mark = .sent then { e with mark := .unsent } else e := by
    funext e
    simp only [resendEntry, answers, Bool.and_eq_true, beq_iff_eq, and_assoc]
  rw [← hresend]
  exact if_pos ((cached_iff f l).mpr h)

theorem takeValid_waits (hcached : ¬ Cached f l) (hwaits : Waits f l) :
    takeValid now f (huntAgain l) = heard now l :=
  (if_neg (mt (cached_iff f l).mp hcached)).trans (if_pos ((waits_iff f l).mpr hwaits))

theorem takeValid_new (hcached : ¬ Cached f l) (hwaits : ¬ Waits f l) :
    takeValid now f (huntAgain l) = offerCommand f (heard now l) :=
  (if_neg (mt (cached_iff f l).mp hcached)).trans (if_neg (mt (waits_iff f l).mp hwaits))

theorem offerCommand_room (h : l.commands.length < 4) :
    offerCommand f l = { l with commands := l.commands ++ [f] } := if_pos h

theorem offerCommand_full (h : 4 ≤ l.commands.length) : offerCommand f l = { l with
    immediate := if l.immediate.length < 4 then l.immediate ++ [.busy f.seq f.kind] else l.immediate } :=
  (if_neg (Nat.not_lt.mpr h)).trans (offerImmediate_eq ..)

end

end Sys2Proof.Machine

namespace Sys2Proof.HostLinkFraming

open Sys2Proof.Machine Sys2Proof.Safety

/-- Settles O44, by the receiver's state and the byte that arrives, and the SEQ of the partial frame at a gap. -/
theorem framesRefused : Obligations.FramesRefused := by
  intro s goesOn
  refine ⟨fun b good h hb => exec_hostByteReceived (receiveByte_noise h hb) rfl,
    fun good h => exec_hostByteReceived_startCode good h,
    fun b good h => exec_hostByteReceived_awaits (receiveByte_len h),
    fun len b good h => exec_hostByteReceived_awaits (receiveByte_seq h),
    fun len seq kind good h => ⟨fun hlen => ?oversize, fun hzero => ?noPayload, fun hzero hlen => ?payload⟩,
    fun len seq kind got b good h => ⟨fun hmore => ?more, fun hlast => ?last⟩,
    fun len seq kind payload b good h => exec_hostByteReceived_awaits (receiveByte_crc h),
    fun d hgap hreached => ?gap⟩
  case oversize => exact exec_hostByteReceived_refused (bad := s.link.badStop) (receiveByte_kind_oversize h hlen)
  case noPayload => subst hzero; exact exec_hostByteReceived_awaits (receiveByte_kind_noPayload h)
  case payload => exact exec_hostByteReceived_awaits (receiveByte_kind_payload h hzero hlen)
  case more => exact exec_hostByteReceived_awaits (receiveByte_payload h hmore)
  case last => exact exec_hostByteReceived_awaits (receiveByte_payload_last h hlast)
  case gap =>
    rw [exec_gapDeadlineExpiry hgap hreached]
    refine ⟨?_, fun _ _ h => by rw [h]; rfl, fun _ _ _ _ h => by rw [h]; rfl, fun _ _ _ _ _ h => by rw [h]; rfl⟩
    rintro (h | ⟨len, h⟩) <;> rw [h] <;> rfl

/-- Settles O43: the bytes lead from HUNT to CHECK one by one, and the last is judged as `judgeFrame` says. -/
theorem frameReceived : Obligations.FrameReceived := by
  refine ⟨fun seq kind hi payload s hlen hhunt => ?bytes,
    fun len seq kind hi lo payload good s hcheck => ?judged⟩
  case bytes =>
    calc receiving (0xA5 :: byte payload.length :: seq :: kind :: payload ++ [hi]) s
      _ = receiving (byte payload.length :: seq :: (kind :: payload ++ [hi])) (midFrame (.header []) false s) :=
          receiving_startCode hhunt
      _ = receiving (seq :: (kind :: payload ++ [hi])) (midFrame (.header [byte payload.length]) false s) :=
          receiving_awaits fun l h => receiveByte_len h
      _ = receiving (kind :: payload ++ [hi]) (midFrame (.header [byte payload.length, seq]) false s) :=
          receiving_awaits fun l h => receiveByte_seq h
      _ = receiving [hi] (midFrame (.check (byte payload.length) seq kind payload []) false s) :=
          receiving_kind hlen
      _ = some (midFrame (.check (byte payload.length) seq kind payload [hi]) false s) :=
          receiving_awaits fun l h => receiveByte_crc h
  case judged =>
    intro last crc spoilt afterwards
    have hbyte := receiveByte_crc_last (now := s.now) (b := lo) (good := good) hcheck
    have hspoilt : spoilt ↔ (s.link.badStop || !good) = true ∨ crc ≠ frameCrc seq kind payload := by
      simp only [spoilt, frameCrc, Bool.or_eq_true, Bool.not_eq_true', or_assoc]
    refine ⟨fun hbad => ?badCrc, fun hgood hseq => ?badSeq, fun hgood hseq => ?valid⟩
    case badCrc =>
      rw [judgeFrame_badCrc (hspoilt.mp hbad)] at hbyte
      exact exec_hostByteReceived_refused hbyte
    case badSeq =>
      rw [judgeFrame_badSeq (mt hspoilt.mpr hgood) hseq] at hbyte
      exact exec_hostByteReceived_refused hbyte
    case valid =>
      intro cached waits
      replace hbyte : receiveByte s.now lo good s.link =
          takeValid s.now ⟨seq, kind, payload, crc⟩ (huntAgain s.link) :=
        hbyte.trans (judgeFrame_valid (mt hspoilt.mpr hgood) hseq)
      have hnew : ¬ cached → ¬ waits → receiveByte s.now lo good s.link =
          offerCommand ⟨seq, kind, payload, crc⟩ (heard s.now s.link) :=
        fun hcached hwaits => hbyte.trans (takeValid_new hcached hwaits)
      refine ⟨fun hcached => ?_, fun hcached hwaits => ?_, fun hcached hwaits hfull => ?_,
        fun hcached hwaits hroom => ?_⟩
      · exact exec_hostByteReceived (hbyte.trans (takeValid_cached hcached)) rfl
      · exact exec_hostByteReceived (hbyte.trans (takeValid_waits hcached hwaits)) rfl
      · exact exec_hostByteReceived ((hnew hcached hwaits).trans (offerCommand_full hfull)) rfl
      · exact exec_hostByteReceived_queued ((hnew hcached hwaits).trans (offerCommand_room hroom)) rfl

end Sys2Proof.HostLinkFraming
end

section
/-! The end of a reply's transmission (R163–R165, R172, R173, R206): the entry that is SENT, what it brings about, and the
full reset of RESTART beside that of a power-on. -/

namespace Sys2Proof.Machine

open Sys2Proof.Safety

/-! ### The reply that completes (R163, R165) -/

theorem exec_frameTxComplete_reply {bytes : List Byte} {rate : HostRate} {s : State} (s3 : Level)
    (htx : s.link.tx = some ⟨bytes, .reply, rate⟩) :
    exec (.frameTxComplete s3) s = .next (completeReply s3 s) := by
  change Host.Outcome.next (completeFrame s3 s) = _
  simp only [completeFrame, htx]

theorem map_sentEntry_of_none {cache : List CacheEntry} (h : ∀ x ∈ cache, x.mark ≠ .sending) :
    cache.map sentEntry = cache :=
  (List.map_congr_left fun x hx => if_neg (by simpa using h x hx)).trans (List.map_id _)

/-- The one entry that is SENDING is marked SENT, and what it carried is done with. -/
theorem map_sentEntry_split {pre post : List CacheEntry} {e : CacheEntry} (he : e.mark = .sending)
    (hothers : ∀ x ∈ pre ++ post, x.mark ≠ .sending) :
    (pre ++ e :: post).map sentEntry = pre ++ { e with mark := .sent, post := none } :: post := by
  obtain ⟨hpre, hpost⟩ := List.forall_mem_append.mp hothers
  rw [List.map_append, List.map_cons, map_sentEntry_of_none hpre, map_sentEntry_of_none hpost, sentEntry, he]
  rfl

theorem completedAction_split {pre post : List CacheEntry} {e : CacheEntry} (he : e.mark = .sending)
    (hpre : ∀ x ∈ pre, x.mark ≠ .sending) : completedAction (pre ++ e :: post) = e.post := by
  have hfound : (pre ++ e :: post).find? (fun x => x.mark == .sending) = some e :=
    List.find?_eq_some_iff_append.mpr ⟨by simp [he], pre, post, rfl, by simpa using hpre⟩
  rw [completedAction, hfound]
  rfl

/-- The link at the completion of the reply on the line: the transmitter is free, the entry SENT. -/
def replySent (l : HostLink) : HostLink := { l with tx := none, cache := l.cache.map sentEntry }

section
variable {s : State}

theorem completeReply_of_none (s3 : Level) (h : completedAction s.link.cache = none) :
    completeReply s3 s = checkCommands (s.setLink (replySent s.link)) := by
  simp only [completeReply, h, replySent]

theorem completeReply_of_switchRate {r : HostRate} (s3 : Level)
    (h : completedAction s.link.cache = some (.switchRate r)) :
    completeReply s3 s = checkCommands (s.setLink (switchRate r (replySent s.link))) := by
  simp only [completeReply, h, replySent]

theorem completeReply_of_restart (s3 : Level) (h : completedAction s.link.cache = some .restart) :
    completeReply s3 s = restartReset s3 (s.setLink (replySent s.link)) := by
  simp only [completeReply, h, replySent]

end

/-! ### The rate and the restart (R172, R173, R206) -/

theorem switchRate_same {r : HostRate} {l : HostLink} (h : l.rate = r) : switchRate r l = l := if_pos h

theorem switchRate_other {r : HostRate} {l : HostLink} (h : l.rate ≠ r) :
    switchRate r l = { l with rate := r, receiver := .hunt, gap := none, badStop := false } := if_neg h

/-- A state with another link and another output standard. -/
def relinked (l : HostLink) (std : Standard) (s : State) : State := { s with link := l, outputStandard := std }

theorem beginChange_relinked (l : HostLink) (std : Standard) (s : State) (line : LineId) :
    beginChange line (relinked l std s) = relinked l std (beginChange line s) := by
  rw [beginChange, beginChange, apply_ite (relinked l std)]
  rfl

theorem judgePin_relinked (l : HostLink) (std : Standard) (s : State) (line : LineId) :
    judgePin line (relinked l std s) = relinked l std (judgePin line s) := by
  rw [judgePin, judgePin, apply_ite (relinked l std), beginChange_relinked]
  rfl

/-- An INPUT line that judges its pin at the start looks at neither the link nor the output standard (R130). -/
theorem startPin_relinked (l : HostLink) (std : Standard) (s : State) (line : LineId) :
    startPin (relinked l std s) line = relinked l std (startPin s line) := by
  rw [startPin, startPin, apply_ite (relinked l std), judgePin_relinked]
  rfl

theorem foldl_startPin_relinked (l : HostLink) (std : Standard) (s : State) (lines : List LineId) :
    lines.foldl startPin (relinked l std s) = relinked l std (lines.foldl startPin s) := by
  induction lines generalizing s with
  | nil => rfl
  | cons line lines ih => rw [List.foldl_cons, List.foldl_cons, startPin_relinked, ih]

/-- A full reset does not depend on the link before it, and the rate and the output standard it is given show in the
link and the output standard alone (R173, R206). -/
theorem fullReset_relinked (straps : Straps) (rate rate' : HostRate) (std std' : Standard) (l : HostLink) (s : State) :
    fullReset straps rate std (s.setLink l) = relinked (startLink rate) std (fullReset straps rate' std' s) :=
  foldl_startPin_relinked (startLink rate) std (startBlocks straps rate' std' s) (allIds 8)

end Sys2Proof.Machine

namespace Sys2Proof.HostLinkFraming

open Sys2Proof.Machine Sys2Proof.Safety

/-- Settles O46: the two commands leave their action with their reply, and its completion goes by that action. -/
theorem linkCommands : Obligations.LinkCommands := by
  refine ⟨fun r f rest s hready hparse => ?setLink, fun f rest s hready hnone => ?restart,
    fun pre post e bytes rate s htx hcache he hothers => ?completes⟩
  case setLink =>
    obtain ⟨e, hlast, -, hpost⟩ := replied_newest f ⟨[0x00], some (.switchRate r)⟩ (dequeued rest s)
    exact ⟨_, exec_setLink_replied hready hparse,
      replied_taken f rest ⟨[0x00], some (.switchRate r)⟩ s, e, hlast, hpost⟩
  case restart =>
    obtain ⟨e, hlast, -, hpost⟩ := replied_newest f ⟨[0x00], some .restart⟩ (restartAwaited (dequeued rest s))
    have hpending := replied_restartPending f ⟨[0x00], some .restart⟩ (restartAwaited (dequeued rest s))
    exact ⟨_, exec_restart_replied hready hnone, replied_answered .., hpending, replied_commands .., replied_beyond ..,
      takeable_of_restartPending hpending, e, hlast, hpost⟩
  case completes =>
    intro sent s3 answersOn
    have hsent : replySent s.link = sent := by rw [replySent, hcache, map_sentEntry_split he hothers]
    have haction : completedAction s.link.cache = e.post := by
      rw [hcache, completedAction_split he (List.forall_mem_append.mp hothers).1]
    have hexec := exec_frameTxComplete_reply s3 htx
    have hanswers : ∀ l, completeReply s3 s = checkCommands (s.setLink l) → answersOn l := fun l hcheck => by
      obtain ⟨u, htakes, hkick⟩ := checkCommands_takesOn (s.setLink l)
      exact ⟨u, htakes, by rw [hexec, hcheck, hkick]⟩
    refine ⟨fun hpost => ?_, fun hpost => ?_, fun r hpost hr => ?_, fun hpost => ?_⟩ <;> rw [hpost] at haction
    · exact hanswers _ (by rw [completeReply_of_none s3 haction, hsent])
    · exact hanswers _ (by rw [completeReply_of_switchRate s3 haction, hsent, switchRate_same (l := sent) rfl])
    · exact hanswers _ (by rw [completeReply_of_switchRate s3 haction, hsent, switchRate_other (l := sent) (Ne.symm hr)])
    · rw [hexec, completeReply_of_restart s3 haction]
      exact ⟨_, rfl, congrArg Host.Outcome.next (fullReset_relinked ..)⟩

end Sys2Proof.HostLinkFraming
end

section
/-! Refusals of host commands (R174–R176): a configuration command that a profile operation holds off, and a command of
any kind that its tests turn down, are replies over the state that the frame has left. -/

namespace Sys2Proof.Machine

open Sys2Proof.Safety

/-! ### Configuration commands that are held off (R176) -/

/-- The judgement of a configuration command first asks for a profile operation in progress (R176). -/
theorem hostCommand_configuration {i : Instr} {kind : Byte} (hi : i ∈ configurationCommands)
    (hkind : hostKind i = some kind) : ∃ j, (hostCommand kind).2 = configuration j := by
  simp only [configurationCommands, List.mem_cons, List.not_mem_nil, or_false] at hi
  rcases hi with rfl | rfl | rfl | rfl | rfl | rfl | rfl | rfl | rfl | rfl | rfl | rfl | rfl | rfl <;>
    (obtain rfl := Option.some.inj hkind; exact ⟨_, rfl⟩)

theorem configuration_held (j : Judgement) (p : List Byte) {s : State}
    (hheld : s.store.block = .restoring ∨ s.store.block = .erasing) :
    configuration j p s = (answerRefused .busy, s) :=
  if_pos (by simpa using hheld)

/-! ### The taking of a command in an OPEN session (R164) -/

/-- The row of a host command that is ready leaves the reply of its judgement over the state that this leaves. -/
theorem exec_ready_replied {i : Instr} {kind : Byte} {f : Frame} {rest : List Frame} {s u : State} {a : Answer}
    (hi : hostKind i = some kind) (hready : Ready kind f rest s)
    (hj : (hostCommand kind).2 f.payload (dequeued rest s) = (a, u)) : exec i s = .next (replied f a u) := by
  by_cases hany : i = .hello ∨ i = .openSession
  · rcases hany with rfl | rfl <;>
      (obtain rfl := Option.some.inj hi
       exact congrArg Host.Outcome.next
        (takeWhen_any_replied hready.oldest (by rw [hready.kind]; rfl) (ready_takeable hready) hj))
  · obtain ⟨hhello, hopen⟩ := not_or.mp hany
    rw [exec_hostKind_takeKind hi hhello hopen, takeKind_replied hready hj]

/-! ### The payload of a reply (R156) -/

/-- A frame on the line spells its payload: what stands between the four bytes of its head and its CRC. -/
theorem buildFrame_payload_injective {seq kind : Byte} {p q : List Byte}
    (h : buildFrame seq kind p = buildFrame seq kind q) : p = q := by
  simp only [buildFrame, List.cons_append, List.cons.injEq, true_and] at h
  exact (List.append_inj' h.2 rfl).1

/-- A frame whose reply has entered the cache is answered with that reply's payload and no other. -/
theorem replied_payload_eq {f : Frame} {a : Answer} {u : State} {payload : List Byte}
    (h : Answered f payload (replied f a u)) : a.payload = payload := by
  obtain ⟨e, hlast, hframe, -⟩ := replied_newest f a u
  obtain ⟨e', hlast', -, -, hframe'⟩ := h
  obtain rfl := Option.some.inj (hlast.symm.trans hlast')
  exact buildFrame_payload_injective (hframe.symm.trans hframe')

/-! ### Judgements that refuse without effect (R174) -/

/-- The status of the answer is OK or ACCEPTED, or the state is as it was. -/
def AcceptedOrUnchanged (s : State) (outcome : Answer × State) : Prop :=
  outcome.1.payload.head? = some 0 ∨ outcome.1.payload.head? = some 1 ∨ outcome.2 = s

section
variable {s u : State} {fields : List Byte}

theorem AcceptedOrUnchanged.ok {post : Option PostAction} : AcceptedOrUnchanged s (⟨0x00 :: fields, post⟩, u) :=
  .inl rfl

theorem AcceptedOrUnchanged.accepted : AcceptedOrUnchanged s (answerAccepted fields, u) := .inr (.inl rfl)

theorem AcceptedOrUnchanged.same {a : Answer} : AcceptedOrUnchanged s (a, s) := .inr (.inr rfl)

theorem AcceptedOrUnchanged.ite {c : Prop} [Decidable c] {x y : Answer × State} (hx : AcceptedOrUnchanged s x)
    (hy : AcceptedOrUnchanged s y) : AcceptedOrUnchanged s (if c then x else y) := by
  split
  · exact hx
  · exact hy

end

/-- A judgement that changes no state unless it answers OK or ACCEPTED (R174). -/
def RefusesWithoutEffect (j : Judgement) : Prop := ∀ p s, AcceptedOrUnchanged s (j p s)

theorem judged_refuses {α : Type} {parse : List Byte → Except Turndown α} {ap : α → State → Answer × State}
    (h : ∀ x s, AcceptedOrUnchanged s (ap x s)) : RefusesWithoutEffect (judged parse ap) := by
  intro p s
  unfold judged
  split
  · exact h _ s
  · exact .same

/-- A command that its payload's tests alone can turn down. -/
theorem judged_ok_refuses {α : Type} {parse : List Byte → Except Turndown α} {fields : α → State → List Byte}
    {post : α → State → Option PostAction} {effect : α → State → State} :
    RefusesWithoutEffect (judged parse fun x s => (⟨0x00 :: fields x s, post x s⟩, effect x s)) :=
  judged_refuses fun _ _ => .ok

theorem configuration_refuses {j : Judgement} (h : RefusesWithoutEffect j) :
    RefusesWithoutEffect (configuration j) :=
  fun p s => .ite .same (h p s)

theorem judgeDropZone_refuses : RefusesWithoutEffect judgeDropZone := by
  refine configuration_refuses (judged_refuses fun z s => ?_)
  split
  · exact .same
  · exact .ite .same .ok

theorem judgeRelearnZone_refuses : RefusesWithoutEffect judgeRelearnZone := by
  refine judged_refuses fun z s => ?_
  split
  · exact .same
  · exact .ite .ok .same

theorem judgeGetZone_refuses : RefusesWithoutEffect judgeGetZone := by
  refine judged_refuses fun z s => ?_
  split <;> exact .same

theorem judgePutRule_refuses : RefusesWithoutEffect judgePutRule := by
  refine configuration_refuses (judged_refuses fun x s => ?_)
  dsimp only
  split
  · exact .same
  · exact .ok

/-- A command on a rule is refused ABSENT without effect where the rule is undefined. -/
theorem AcceptedOrUnchanged.onRule {r : RuleId} {f : Rule → State → Answer × State} {s : State}
    (h : ∀ rule, AcceptedOrUnchanged s (f rule s)) : AcceptedOrUnchanged s (onRule r f s) := by
  unfold Machine.onRule
  split
  · exact .same
  · exact h _

theorem judgeDropRule_refuses : RefusesWithoutEffect judgeDropRule :=
  configuration_refuses (judged_refuses fun _ _ => .onRule fun _ => .ok)

theorem judgeArmRule_refuses : RefusesWithoutEffect judgeArmRule :=
  configuration_refuses (judged_refuses fun _ _ => .onRule fun _ => .ok)

theorem judgeGetRule_refuses : RefusesWithoutEffect judgeGetRule :=
  judged_refuses fun _ _ => .onRule fun _ => .same

theorem judgeDropView_refuses : RefusesWithoutEffect judgeDropView :=
  configuration_refuses (judged_refuses fun _ _ => .ite .same (.ite .same .ok))

theorem judgeSetRotation_refuses : RefusesWithoutEffect judgeSetRotation :=
  configuration_refuses (judged_refuses fun _ _ => .ite .same .ok)

theorem judgeWithdraw_refuses : RefusesWithoutEffect judgeWithdraw := by
  refine judged_refuses fun _ s => ?_
  split
  · exact .same
  · exact .ok

theorem judgeHold_refuses : RefusesWithoutEffect judgeHold := judged_refuses fun _ _ => .ite .same .ok

theorem judgePull_refuses : RefusesWithoutEffect judgePull := judged_refuses fun _ _ => .ite .same .same

theorem judgeAck_refuses : RefusesWithoutEffect judgeAck := by
  refine judged_refuses fun seq s => ?_
  split
  · exact .same
  · exact .ok

theorem judgeSetLine_refuses : RefusesWithoutEffect judgeSetLine :=
  configuration_refuses (judged_refuses fun _ _ => .ite .same .ok)

theorem judgeRelay_refuses : RefusesWithoutEffect judgeRelay := judged_refuses fun _ _ => .ite .accepted .same

theorem judgeCancelRelay_refuses : RefusesWithoutEffect judgeCancelRelay := by
  refine judged_refuses fun tid s => ?_
  split
  · exact .ok
  · split
    · exact .ok
    · exact .same

theorem judgeCommit_refuses : RefusesWithoutEffect judgeCommit := judged_refuses fun _ _ => .ite .accepted .same

theorem judgeRestore_refuses : RefusesWithoutEffect judgeRestore := by
  refine judged_refuses fun selector s => .ite ?_ .same
  split
  · exact .accepted
  · exact .same

theorem judgeErase_refuses : RefusesWithoutEffect judgeErase := judged_refuses fun _ _ => .ite .accepted .same

/-- Of all kinds of host command SHOW_VIEW alone can be refused with an effect, its REFUSED_FULL report. -/
theorem hostCommand_refuses {kind : Byte} (hshow : kind ≠ 0x2C) : RefusesWithoutEffect (hostCommand kind).2 := by
  unfold hostCommand
  split
  case h_24 hkind => exact absurd (BitVec.eq_of_toNat_eq hkind) hshow
  case h_13 => exact judgeDropZone_refuses
  case h_14 => exact judgeRelearnZone_refuses
  case h_15 => exact judgeGetZone_refuses
  case h_16 => exact judgePutRule_refuses
  case h_17 => exact judgeDropRule_refuses
  case h_18 => exact judgeArmRule_refuses
  case h_19 => exact judgeGetRule_refuses
  case h_21 => exact judgeDropView_refuses
  case h_22 => exact judgeSetRotation_refuses
  case h_25 => exact judgeWithdraw_refuses
  case h_26 => exact judgeHold_refuses
  case h_30 => exact judgePull_refuses
  case h_31 => exact judgeAck_refuses
  case h_32 => exact judgeSetLine_refuses
  case h_36 => exact judgeRelay_refuses
  case h_37 => exact judgeCancelRelay_refuses
  case h_39 => exact judgeCommit_refuses
  case h_40 => exact judgeRestore_refuses
  case h_41 => exact judgeErase_refuses
  case h_43 => exact fun _ _ => .same
  case h_8 | h_10 | h_12 | h_20 | h_23 | h_29 | h_35 => exact configuration_refuses judged_ok_refuses
  all_goals exact judged_ok_refuses

end Sys2Proof.Machine

namespace Sys2Proof.HostMessages

open Sys2Proof.Machine Sys2Proof.Safety

/-- Settles O6: the judgement answers BUSY before it looks at the payload. -/
theorem configurationHeldOff : Obligations.ConfigurationHeldOff := by
  intro i kind f rest s hi hkind hready hheld
  obtain ⟨j, hj⟩ := hostCommand_configuration hi hkind
  have hbusy : (hostCommand kind).2 f.payload (dequeued rest s) = (answerRefused .busy, dequeued rest s) := by
    rw [hj]
    exact configuration_held j f.payload hheld
  exact ⟨_, exec_ready_replied hkind hready hbusy, replied_taken f rest (answerRefused .busy) s⟩

/-- Settles O7: a judgement that answers another status than OK or ACCEPTED leaves the state that the frame has left. -/
theorem refusalsChangeNothing : Obligations.RefusalsChangeNothing := by
  intro i kind f rest s t status fields hi hnotShow hready hexec hanswered hnotOk hnotAccepted
  have hshow : kind ≠ 0x2C := by
    rintro rfl
    revert hi hnotShow
    cases i <;> simp [hostKind]
  obtain ⟨a, u, hj⟩ : ∃ a u, (hostCommand kind).2 f.payload (dequeued rest s) = (a, u) := ⟨_, _, rfl⟩
  obtain rfl := Host.Outcome.next.inj ((exec_ready_replied hi hready hj).symm.trans hexec)
  have hpayload : a.payload = status :: fields := replied_payload_eq hanswered
  have hunchanged : u = dequeued rest s := by
    have hrefuses := hostCommand_refuses hshow f.payload (dequeued rest s)
    rw [hj] at hrefuses
    rcases hrefuses with hok | haccepted | hsame
    · rw [hpayload] at hok; exact absurd (Option.some.inj hok) hnotOk
    · rw [hpayload] at haccepted; exact absurd (Option.some.inj haccepted) hnotAccepted
    · exact hsame
  rw [hunchanged, ← hpayload]
  exact replied_taken f rest a s

end Sys2Proof.HostMessages
end

section
/-! The payloads of SET_CLASS, PUT_ZONE, PUT_RULE and PUT_VIEW laid out again (R179–R181, R183, R192–R194): each field
that passes its test has the byte it was read from, and the shape tests leave no byte over. -/

namespace Sys2Proof.Machine

open Sys2Proof.Safety

/-! ### Tests in sequence -/

/-- Where one test after another passes, the first has passed with a value that the second accepts. -/
theorem bind_ok {ε α β : Type} {x : Except ε α} {f : α → Except ε β} {b : β} (h : x >>= f = .ok b) :
    ∃ a, x = .ok a ∧ f a = .ok b := by
  cases x with
  | error e => cases h
  | ok a => exact ⟨a, rfl, h⟩

theorem require_ok {c : Bool} {e : Turndown} {x : Unit} (h : require c e = .ok x) : c = true := by
  cases c with
  | false => cases h
  | true => rfl

/-! ### Fields laid out again -/

theorem byte_of_toNat (b : Byte) : byte b.toNat = b := by simp [byte]

theorem eq_byte_of_toNat {b : Byte} {n : Nat} (h : b.toNat = n) : b = byte n := by rw [← h, byte_of_toNat]

/-- The two bytes of the number that two bytes carry. -/
theorem be16_word16 (hi lo : Byte) : be16 (word16 hi lo) = [hi, lo] := by
  have hhi : byte (word16 hi lo / 256) = hi := by
    rw [word16, show (hi.toNat * 256 + lo.toNat) / 256 = hi.toNat by omega, byte_of_toNat]
  have hlo : byte (word16 hi lo) = lo := by
    apply BitVec.eq_of_toNat_eq
    simp only [word16, byte, BitVec.toNat_ofNat]
    omega
  rw [be16, hhi, hlo]

section
variable {n lo hi v i : Nat} {b : Byte}

theorem byte_of_idField {x : Fin n} (h : idField n b i = .ok x) : byte x.val = b := by
  unfold idField at h
  split at h
  · cases h; exact byte_of_toNat b
  · cases h

theorem byte_of_numberField {x : Fin n} (h : numberField n b i = .ok x) : byte (x.val + 1) = b := by
  unfold numberField at h
  split at h
  next hrange => cases h; exact (congrArg byte (Nat.sub_add_cancel hrange.1)).trans (byte_of_toNat b)
  · cases h

theorem eq_of_natField {x : Nat} (h : natField lo hi v i = .ok x) : x = v := by
  unfold natField at h
  split at h
  · cases h; rfl
  · cases h

theorem zero_of_natField {x : Nat} (h : natField 0 0 v i = .ok x) : v = 0 := by
  unfold natField at h
  split at h
  next hrange => exact Nat.le_zero.mp hrange.2
  · cases h

theorem byte_of_natField {x : Nat} (h : natField lo hi b.toNat i = .ok x) : byte x = b := by
  rw [eq_of_natField h, byte_of_toNat]

theorem be16_of_natField {x : Nat} {b1 b0 : Byte} (h : natField lo hi (word16 b1 b0) i = .ok x) :
    be16 x = [b1, b0] := by
  rw [eq_of_natField h, be16_word16]

theorem yesNo_of_yesNoField {x : Bool} (h : yesNoField b i = .ok x) : yesNo x = b := by
  unfold yesNoField at h
  split at h
  next hb => cases h; exact (eq_byte_of_toNat hb).symm
  next hb => cases h; exact (eq_byte_of_toNat hb).symm
  · cases h

theorem componentCode_of_componentField {x : Component} (h : componentField b i = .ok x) : componentCode x = b := by
  unfold componentField at h
  split at h
  next hb => cases h; exact (eq_byte_of_toNat hb).symm
  next hb => cases h; exact (eq_byte_of_toNat hb).symm
  next hb => cases h; exact (eq_byte_of_toNat hb).symm
  · cases h

/-- Below 32 a byte has no bit outside the five report causes (R189). -/
theorem presence_low_bits : ∀ b : Fin 32, presence ((List.range 5).map (byte b.val).getLsbD) = byte b.val := by decide

theorem causeBits_of_causesField {x : CauseFlags} (h : causesField b i = .ok x) : causeBits x = b := by
  unfold causesField at h
  split at h
  next hb =>
    have hbits := presence_low_bits ⟨b.toNat, hb⟩
    rw [byte_of_toNat] at hbits
    cases h
    exact hbits
  · cases h

theorem eq_of_textField {cs text : List Byte} (h : textField cs i = .ok text) : text = cs := by
  unfold textField at h
  split at h
  · cases h; rfl
  · cases h

end

/-! ### Classes (R179) -/

theorem classBytes_of_parseSetClass {p : List Byte} {k : ClassId} {cls : SensClass}
    (h : parseSetClass p = .ok (k, cls)) : classBytes k cls = p := by
  unfold parseSetClass at h
  split at h
  · obtain ⟨k', hk, h⟩ := bind_ok h
    obtain ⟨threshold, hthreshold, h⟩ := bind_ok h
    obtain ⟨darkFloor, hdarkFloor, h⟩ := bind_ok h
    obtain ⟨window, hwindow, h⟩ := bind_ok h
    obtain ⟨kOn, hkOn, h⟩ := bind_ok h
    obtain ⟨kOff, hkOff, h⟩ := bind_ok h
    obtain ⟨learn, hlearn, h⟩ := bind_ok h
    obtain ⟨adapt, hadapt, h⟩ := bind_ok h
    cases h
    simp only [classBytes, byte_of_idField hk, be16_of_natField hthreshold, be16_of_natField hdarkFloor,
      byte_of_natField hwindow, byte_of_natField hkOn, byte_of_natField hkOff, byte_of_toNat, byte_of_natField hlearn,
      byte_of_natField hadapt, be16_word16, List.cons_append, List.nil_append]
  · cases h

/-! ### Zones (R180, R192) -/

theorem zoneBytes_of_parseZone {p : List Byte} {z : ZoneId} {cfg : ZoneConfig} (h : parseZone p = .ok (z, cfg)) :
    zoneBytes z cfg = p := by
  unfold parseZone at h
  split at h
  next len rest =>
    obtain ⟨_, hlength, h⟩ := bind_ok h
    obtain ⟨z', hz, h⟩ := bind_ok h
    obtain ⟨cam, hcam, h⟩ := bind_ok h
    obtain ⟨col0, hcol0, h⟩ := bind_ok h
    obtain ⟨row0, hrow0, h⟩ := bind_ok h
    obtain ⟨col1, hcol1, h⟩ := bind_ok h
    obtain ⟨row1, hrow1, h⟩ := bind_ok h
    obtain ⟨component, hcomponent, h⟩ := bind_ok h
    obtain ⟨cls, hcls, h⟩ := bind_ok h
    obtain ⟨enabled, henabled, h⟩ := bind_ok h
    obtain ⟨causes, hcauses, h⟩ := bind_ok h
    obtain ⟨priority, hpriority, h⟩ := bind_ok h
    obtain ⟨label, hlabel, h⟩ := bind_ok h
    obtain ⟨_, hlast, h⟩ := bind_ok h
    cases h
    replace hlength : rest.length = len.toNat + 1 := by simpa using require_ok hlength
    replace hlast : rest.drop len.toNat = [0] := by simpa using require_ok hlast
    have hlen : (rest.take len.toNat).length = len.toNat := by rw [List.length_take, hlength]; omega
    simp only [zoneBytes, byte_of_idField hz, byte_of_numberField hcam, byte_of_natField hcol0,
      byte_of_natField hrow0, byte_of_natField hcol1, byte_of_natField hrow1,
      componentCode_of_componentField hcomponent, byte_of_idField hcls, yesNo_of_yesNoField henabled,
      causeBits_of_causesField hcauses, byte_of_natField hpriority, eq_of_textField hlabel, hlen, byte_of_toNat,
      ← hlast, List.cons_append, List.nil_append, List.take_append_drop]
  · cases h

/-! ### The terms of a rule (R193) -/

/-- The bytes of a term before any range test (R193). -/
def rawTermBytes (raw : Byte × Byte) : List Byte := [raw.1, raw.2]

/-- A term's type is ZONE or LINE (R189). -/
def termTyped (raw : Byte × Byte) : Prop := termType raw.1 = 1 ∨ termType raw.1 = 2

/-- A type byte is its bit 7 and the type in the bits below it (R189). -/
theorem typeByte_eq (t : Byte) : t = if t.getLsbD 7 then 0x80 ||| byte (termType t) else byte (termType t) := by
  revert t
  decide

theorem readTerms_some {n : Nat} {bytes rest : List Byte} {raws : List (Byte × Byte)}
    (h : readTerms n bytes = some (raws, rest)) :
    bytes = raws.flatMap rawTermBytes ++ rest ∧ raws.length = n ∧ ∀ raw ∈ raws, termTyped raw := by
  induction n generalizing bytes raws with
  | zero => cases h; simp
  | succ n ih =>
    unfold readTerms at h
    split at h
    · cases ‹n + 1 = 0›
    next t o behind heq =>
      cases heq
      split at h
      next htype =>
        obtain ⟨⟨raws', rest'⟩, hread, h⟩ := Option.map_eq_some_iff.mp h
        cases h
        obtain ⟨hbytes, hlength, htyped⟩ := ih hread
        refine ⟨by rw [hbytes]; rfl, by rw [List.length_cons, hlength], List.forall_mem_cons.mpr ⟨?_, htyped⟩⟩
        simpa [termTyped] using htype
      · cases h
    · cases h

theorem termBytes_of_termField {raw : Byte × Byte} {i : Nat} {term : Term} (htyped : termTyped raw)
    (h : termField raw.1 raw.2 i = .ok term) : termBytes term = rawTermBytes raw := by
  have htype := typeByte_eq raw.1
  unfold termField at h
  split at h
  next hzone =>
    obtain ⟨z, hz, h⟩ := bind_ok h
    cases h
    rw [beq_iff_eq.mp hzone] at htype
    simp only [termBytes, byte_of_idField hz]
    exact congrArg (· :: [raw.2]) htype.symm
  next hnotZone =>
    obtain ⟨l, hl, h⟩ := bind_ok h
    cases h
    have hline : termType raw.1 = 2 := htyped.resolve_left (by simpa using hnotZone)
    rw [hline] at htype
    simp only [termBytes, byte_of_numberField hl]
    exact congrArg (· :: [raw.2]) htype.symm

theorem termBytes_of_termFields {raws : List (Byte × Byte)} {i : Nat} {terms : List Term}
    (htyped : ∀ raw ∈ raws, termTyped raw) (h : termFields raws i = .ok terms) :
    terms.flatMap termBytes = raws.flatMap rawTermBytes ∧ terms.length = raws.length := by
  induction raws generalizing i terms with
  | nil => cases h; exact ⟨rfl, rfl⟩
  | cons raw raws ih =>
    obtain ⟨hraw, hraws⟩ := List.forall_mem_cons.mp htyped
    obtain ⟨term, hterm, h⟩ := bind_ok h
    obtain ⟨terms', hterms, h⟩ := bind_ok h
    cases h
    obtain ⟨hbytes, hlength⟩ := ih hraws hterms
    rw [List.flatMap_cons, List.flatMap_cons, termBytes_of_termField hraw hterm, hbytes, List.length_cons, hlength]
    exact ⟨rfl, rfl⟩

/-! ### The actions of a rule (R193) -/

/-- The bytes of an action before any range test (R193). -/
def rawActionBytes : RawAction → List Byte
  | .report p c => [1, p, c]
  | .showView v p d l w => [2, v, p, d] ++ be16 l ++ [w]
  | .line l form d => [3, l, form, d]
  | .recall head preset => [4, head, preset]

theorem readAction_some {bytes rest : List Byte} {raw : RawAction} (h : readAction bytes = some (raw, rest)) :
    bytes = rawActionBytes raw ++ rest := by
  unfold readAction at h
  split at h
  next t behind =>
    split at h
    next htype => cases h; rw [eq_byte_of_toNat htype]; rfl
    next htype =>
      cases h
      rw [eq_byte_of_toNat htype, rawActionBytes, be16_word16]
      rfl
    next htype => cases h; rw [eq_byte_of_toNat htype]; rfl
    next htype => cases h; rw [eq_byte_of_toNat htype]; rfl
    · cases h
  · cases h

theorem readActions_some {n : Nat} {bytes rest : List Byte} {raws : List RawAction}
    (h : readActions n bytes = some (raws, rest)) :
    bytes = raws.flatMap rawActionBytes ++ rest ∧ raws.length = n := by
  induction n generalizing bytes raws with
  | zero => cases h; simp
  | succ n ih =>
    obtain ⟨⟨raw, behind⟩, hraw, h⟩ := Option.bind_eq_some_iff.mp h
    obtain ⟨⟨raws', rest'⟩, hraws, h⟩ := Option.bind_eq_some_iff.mp h
    cases h
    obtain ⟨hbytes, hlength⟩ := ih hraws
    rw [readAction_some hraw, hbytes, List.flatMap_cons, List.append_assoc, List.length_cons, hlength]
    exact ⟨rfl, rfl⟩

theorem actionBytes_of_actionField {raw : RawAction} {i : Nat} {a : Action} (h : actionField raw i = .ok a) :
    actionBytes a = rawActionBytes raw := by
  rcases raw with ⟨p, c⟩ | ⟨v, p, d, l, w⟩ | ⟨l, form, d⟩ | ⟨head, preset⟩
  · obtain ⟨priority, hpriority, h⟩ := bind_ok h
    obtain ⟨clear, hclear, h⟩ := bind_ok h
    cases h
    simp only [actionBytes, rawActionBytes, byte_of_natField hpriority, yesNo_of_yesNoField hclear]
  · obtain ⟨view, hview, h⟩ := bind_ok h
    obtain ⟨priority, hpriority, h⟩ := bind_ok h
    obtain ⟨dwell, hdwell, h⟩ := bind_ok h
    obtain ⟨lifetime, hlifetime, h⟩ := bind_ok h
    obtain ⟨withdraw, hwithdraw, h⟩ := bind_ok h
    cases h
    simp only [actionBytes, rawActionBytes, byte_of_idField hview, byte_of_natField hpriority,
      byte_of_natField hdwell, eq_of_natField hlifetime, yesNo_of_yesNoField hwithdraw]
  · obtain ⟨line, hline, h⟩ := bind_ok h
    split at h
    next hform =>
      obtain ⟨steps, hsteps, h⟩ := bind_ok h
      cases h
      rw [rawActionBytes, eq_byte_of_toNat hform, actionBytes, byte_of_numberField hline, byte_of_natField hsteps]
      rfl
    next hform =>
      obtain ⟨duration, hduration, h⟩ := bind_ok h
      cases h
      rw [rawActionBytes, eq_byte_of_toNat hform, actionBytes, byte_of_numberField hline,
        eq_byte_of_toNat (zero_of_natField hduration)]
      rfl
    · cases h
  · obtain ⟨address, haddress, h⟩ := bind_ok h
    obtain ⟨place, hplace, h⟩ := bind_ok h
    cases h
    simp only [actionBytes, rawActionBytes, byte_of_idField haddress, byte_of_idField hplace]

theorem actionBytes_of_actionFields {raws : List RawAction} {i : Nat} {actions : List Action}
    (h : actionFields raws i = .ok actions) :
    actions.flatMap actionBytes = raws.flatMap rawActionBytes ∧ actions.length = raws.length := by
  induction raws generalizing i actions with
  | nil => cases h; exact ⟨rfl, rfl⟩
  | cons raw raws ih =>
    obtain ⟨a, ha, h⟩ := bind_ok h
    obtain ⟨actions', hactions, h⟩ := bind_ok h
    cases h
    obtain ⟨hbytes, hlength⟩ := ih hactions
    rw [List.flatMap_cons, List.flatMap_cons, actionBytes_of_actionField ha, hbytes, List.length_cons, hlength]
    exact ⟨rfl, rfl⟩

/-! ### The record of a rule (R181, R193) -/

theorem guard_some {c : Prop} [Decidable c] {α : Type} {x : Unit → Option α} {a : α}
    (h : (guard c >>= x) = some a) : c ∧ x () = some a := by
  by_cases hc : c
  · simpa [guard, hc] using h
  · simp [guard, hc] at h

/-- The bytes of a rule payload of good shape (R193). -/
def rawRuleBytes (raw : RawRule) : List Byte :=
  [raw.rule, raw.armed, raw.mode, raw.count, byte raw.terms.length]
    ++ raw.terms.flatMap rawTermBytes ++ be16 raw.window ++ be16 raw.cooldown ++ [byte raw.actions.length]
    ++ raw.actions.flatMap rawActionBytes

/-- A payload that passes the shape tests is its raw record, its terms are typed, and its count is 0 outside COUNT
(R67, R181). -/
theorem shapeRule_some {p : List Byte} {raw : RawRule} (h : shapeRule p = some raw) :
    p = rawRuleBytes raw ∧ (∀ t ∈ raw.terms, termTyped t) ∧ (raw.mode.toNat ≠ 2 → raw.count.toNat = 0) := by
  unfold shapeRule at h
  split at h
  next rule armed mode count n rest =>
    obtain ⟨-, h⟩ := guard_some h
    obtain ⟨⟨terms, _⟩, hterms, h⟩ := Option.bind_eq_some_iff.mp h
    obtain ⟨htermBytes, htermCount, htyped⟩ := readTerms_some hterms
    dsimp only at h
    split at h
    next w1 w0 c1 c0 m behind =>
      obtain ⟨-, h⟩ := guard_some h
      obtain ⟨⟨actions, left⟩, hactions, h⟩ := Option.bind_eq_some_iff.mp h
      obtain ⟨hactionBytes, hactionCount⟩ := readActions_some hactions
      obtain ⟨⟨hleft, -⟩, h⟩ := guard_some h
      obtain ⟨hcount, h⟩ := guard_some h
      cases h
      refine ⟨?_, htyped, fun hmode => by rwa [if_neg hmode] at hcount⟩
      obtain rfl : left = [] := List.isEmpty_iff.mp hleft
      rw [htermBytes, hactionBytes]
      simp only [rawRuleBytes, htermCount, hactionCount, byte_of_toNat, be16_word16, List.cons_append, List.nil_append,
        List.append_assoc, List.append_nil]
    · cases h
  · cases h

theorem modeBytes_of_modeField {mode count : Byte} {terms : Nat} {x : Mode} (h : modeField mode count terms = .ok x)
    (hcount : mode.toNat ≠ 2 → count.toNat = 0) : modeCode x = mode ∧ byte (modeCount x) = count := by
  have hzero : mode.toNat ≠ 2 → byte 0 = count := fun hmode => (eq_byte_of_toNat (hcount hmode)).symm
  unfold modeField at h
  split at h
  next hmode => cases h; exact ⟨(eq_byte_of_toNat hmode).symm, hzero (by omega)⟩
  next hmode => cases h; exact ⟨(eq_byte_of_toNat hmode).symm, hzero (by omega)⟩
  next hmode =>
    split at h
    · cases h; exact ⟨(eq_byte_of_toNat hmode).symm, byte_of_toNat count⟩
    · cases h
  next hmode =>
    split at h
    · cases h; exact ⟨(eq_byte_of_toNat hmode).symm, hzero (by omega)⟩
    · cases h
  · cases h

theorem ruleBytes_of_rangeRule {raw : RawRule} {r : RuleId} {cfg : RuleConfig}
    (htyped : ∀ t ∈ raw.terms, termTyped t) (hcount : raw.mode.toNat ≠ 2 → raw.count.toNat = 0)
    (h : rangeRule raw = .ok (r, cfg)) : ruleBytes r cfg = rawRuleBytes raw := by
  obtain ⟨rule, hrule, h⟩ := bind_ok h
  obtain ⟨armed, harmed, h⟩ := bind_ok h
  obtain ⟨mode, hmode, h⟩ := bind_ok h
  obtain ⟨terms, hterms, h⟩ := bind_ok h
  obtain ⟨window, hwindow, h⟩ := bind_ok h
  obtain ⟨actions, hactions, h⟩ := bind_ok h
  cases h
  obtain ⟨hmodeCode, hmodeCount⟩ := modeBytes_of_modeField hmode hcount
  obtain ⟨htermBytes, htermCount⟩ := termBytes_of_termFields htyped hterms
  obtain ⟨hactionBytes, hactionCount⟩ := actionBytes_of_actionFields hactions
  simp only [ruleBytes, rawRuleBytes, byte_of_idField hrule, yesNo_of_yesNoField harmed, hmodeCode, hmodeCount,
    htermBytes, htermCount, eq_of_natField hwindow, hactionBytes, hactionCount]

theorem ruleBytes_of_parseRule {p : List Byte} {r : RuleId} {cfg : RuleConfig} (h : parseRule p = .ok (r, cfg)) :
    ruleBytes r cfg = p := by
  unfold parseRule at h
  split at h
  next raw hshape =>
    obtain ⟨hbytes, htyped, hcount⟩ := shapeRule_some hshape
    rw [ruleBytes_of_rangeRule htyped hcount h, ← hbytes]
  · cases h

/-! ### Views (R183, R194) -/

theorem tileByte_of_tileField {b : Byte} {i : Nat} {tile : Option CameraId} (h : tileField b i = .ok tile) :
    tileByte tile = b := by
  unfold tileField at h
  split at h
  next hempty => cases h; exact (eq_byte_of_toNat hempty).symm
  · cases hcamera : numberField 6 b i with
    | error e => rw [hcamera] at h; cases h
    | ok c => rw [hcamera] at h; cases h; exact byte_of_numberField hcamera

theorem tileBytes_of_tileFields {bs : List Byte} {i : Nat} {tiles : List (Option CameraId)}
    (h : tileFields bs i = .ok tiles) : tiles.map tileByte = bs := by
  induction bs generalizing i tiles with
  | nil => cases h; rfl
  | cons b bs ih =>
    obtain ⟨tile, htile, h⟩ := bind_ok h
    obtain ⟨tiles', htiles, h⟩ := bind_ok h
    cases h
    rw [List.map_cons, tileByte_of_tileField htile, ih htiles]

theorem layoutCode_of_layoutOf {layout count : Byte} {x : Layout} (h : layoutOf layout count = some x) :
    layoutCode x = layout := by
  unfold layoutOf at h
  split at h
  next hlayout _ => cases h; exact (eq_byte_of_toNat hlayout).symm
  next hlayout _ => cases h; exact (eq_byte_of_toNat hlayout).symm
  · cases h

theorem viewBytes_of_parseView {p : List Byte} {v : ViewId} {cfg : ViewConfig} (h : parseView p = .ok (v, cfg)) :
    viewBytes v cfg = p := by
  unfold parseView at h
  split at h
  next n rest =>
    split at h
    next lay len title hlayout hdrop =>
      obtain ⟨_, hlength, h⟩ := bind_ok h
      obtain ⟨view, hview, h⟩ := bind_ok h
      obtain ⟨tiles, htiles, h⟩ := bind_ok h
      obtain ⟨text, htext, h⟩ := bind_ok h
      cases h
      replace hlength : title.length = len.toNat := by simpa using require_ok hlength
      have hbytes : tiles.map tileByte = rest.take n.toNat := tileBytes_of_tileFields htiles
      have hcount : tiles.length = n.toNat := by
        have hbehind := congrArg List.length hdrop
        have htaken := congrArg List.length hbytes
        rw [List.length_drop, List.length_cons] at hbehind
        rw [List.length_map, List.length_take] at htaken
        omega
      simp only [viewBytes, byte_of_idField hview, layoutCode_of_layoutOf hlayout, hcount, hbytes,
        eq_of_textField htext, hlength, byte_of_toNat, List.cons_append, List.nil_append, List.append_assoc, ← hdrop,
        List.take_append_drop]
    · cases h
  · cases h

end Sys2Proof.Machine

namespace Sys2Proof.HostMessages

open Sys2Proof.Machine

/-- Settles O52, command by command: each field's byte is the byte it was read from. -/
theorem payloadsSpellRecords : Obligations.PayloadsSpellRecords :=
  ⟨fun _ _ _ => classBytes_of_parseSetClass, fun _ _ _ => zoneBytes_of_parseZone,
    fun _ _ _ => ruleBytes_of_parseRule, fun _ _ _ => viewBytes_of_parseView⟩

end Sys2Proof.HostMessages
end

section
/-! The slots of the profile store (R196, R198–R203, R205): what each operation of the store leaves of the slots, the
directory and a commit's target, and that every command keeps the directory true and a valid slot valid. -/

namespace Sys2Proof.Machine

open Sys2Proof.Safety

/-! ### Slots and the directory (R196, R198) -/

theorem slotOf_putSlot (id k : SlotId) (slot : Slot) (dir : Option DirectoryEntry) (x : ProfileStore) :
    slotOf k (putSlot id slot dir x) = if k = id then slot else slotOf k x := by
  cases id <;> cases k <;> rfl

theorem dirOf_putSlot (id k : SlotId) (slot : Slot) (dir : Option DirectoryEntry) (x : ProfileStore) :
    dirOf k (putSlot id slot dir x) = if k = id then dir else dirOf k x := by
  cases id <;> cases k <;> rfl

theorem judgeSlot_of_valid {slot : Slot} (h : slotValid slot = true) :
    judgeSlot slot = some ⟨slot.generation, slot.length⟩ := if_pos h

theorem judgeSlot_isSome_iff (slot : Slot) : (judgeSlot slot).isSome ↔ slotValid slot = true := by
  unfold judgeSlot
  split
  next hvalid => simp [hvalid]
  next hinvalid => simp [hinvalid]

/-- A slot whose generation is FFFFFFFFh is not valid (R196). -/
theorem judgeSlot_of_erased {slot : Slot} (h : slot.generation = 0xFFFFFFFF) : judgeSlot slot = none :=
  if_neg (by simp [slotValid, h])

/-- The newest valid slot is valid in the directory, and there is one when any slot is (R198). -/
theorem newest_of_dirOf {x : ProfileStore} {id : SlotId} (h : (dirOf id x).isSome) :
    ∃ n, newest x = some n ∧ (dirOf n x).isSome := by
  cases ha : x.dirA with
  | none =>
    cases hb : x.dirB with
    | none => cases id <;> simp [dirOf, ha, hb] at h
    | some b => exact ⟨.b, by simp [newest, newestSlot, ha, hb], by simp [dirOf, hb]⟩
  | some a =>
    cases hb : x.dirB with
    | none => exact ⟨.a, by simp [newest, newestSlot, ha, hb], by simp [dirOf, ha]⟩
    | some b =>
      by_cases hlt : a.generation.toNat < b.generation.toNat
      · exact ⟨.b, by simp [newest, newestSlot, ha, hb, hlt], by simp [dirOf, hb]⟩
      · exact ⟨.a, by simp [newest, newestSlot, ha, hb, hlt], by simp [dirOf, ha]⟩

theorem otherSlot_ne (id : SlotId) : id ≠ otherSlot id := by cases id <;> decide

/-- A commit's generation is not the erased one (R200). -/
theorem commitGeneration_ne_erased {x : ProfileStore} {gen : Word32} (h : commitGeneration x = some gen) :
    gen ≠ 0xFFFFFFFF := by
  unfold commitGeneration at h
  split at h
  · cases h
    decide
  · split at h
    · cases h
    · obtain rfl := Option.some.inj h
      bv_omega

/-! ### The law, and a valid slot beside the target (R198–R202) -/

/-- The law on the store and, where it is asked for, a valid slot that is not the target of a commit (R202). -/
structure SlotsHold (asked : Prop) (s : State) : Prop where
  law : StoreLaw s
  beside : asked → ∃ id, slotValid (slotOf id s.store) = true ∧ s.store.target ≠ some id

variable {asked : Prop}

theorem SlotsHold.directory {s : State} (h : SlotsHold asked s) (id : SlotId) :
    dirOf id s.store = judgeSlot (slotOf id s.store) := by
  cases id
  · exact h.law.dirA
  · exact h.law.dirB

/-- The store enters the law alone; what else a command changes does not matter. -/
theorem SlotsHold.of_store {s t : State} (h : SlotsHold asked s) (hstore : t.store = s.store) :
    SlotsHold asked t where
  law :=
    { dirA := by rw [hstore]; exact h.law.dirA
      dirB := by rw [hstore]; exact h.law.dirB
      erased := by rw [hstore]; exact h.law.erased
      generation := by rw [hstore]; exact h.law.generation
      verified := by rw [hstore]; exact h.law.verified }
  beside := by rw [hstore]; exact h.beside

/-- The store's progress in a restore or an erase enters neither the law nor the slots (R203–R205). -/
theorem SlotsHold.progress {s : State} (h : SlotsHold asked s) (block : BlockState) (restoreSlot : Option SlotId)
    (applying : Option Profile) (handed notices taken : List Part) :
    SlotsHold asked (s.setStore { s.store with
      block := block, restoreSlot := restoreSlot, applying := applying, handed := handed, notices := notices
      taken := taken }) where
  law := { h.law with }
  beside := h.beside

/-- An operation ends: no slot is a target any more (R199). -/
theorem slotsHold_endOperation {x : ProfileStore} {r : Report} {s : State}
    (hdirectory : ∀ id, dirOf id x = judgeSlot (slotOf id x))
    (hvalid : asked → ∃ id, slotValid (slotOf id x) = true) : SlotsHold asked (endOperation x r s) where
  law :=
    { dirA := hdirectory .a
      dirB := hdirectory .b
      erased := nofun
      generation := nofun
      verified := nofun }
  beside hasked := by
    obtain ⟨id, hid⟩ := hvalid hasked
    exact ⟨id, hid, nofun⟩

theorem SlotsHold.endOperation {s : State} (h : SlotsHold asked s) (r : Report) :
    SlotsHold asked (endOperation s.store r s) :=
  slotsHold_endOperation h.directory fun hasked => (h.beside hasked).imp fun _ hid => hid.1

/-! ### Commit (R200, R201) -/

/-- The target of a commit is rewritten, and its directory entry is what the slot is judged to be. -/
theorem SlotsHold.directory_putSlot {s : State} (h : SlotsHold asked s) {id : SlotId} {slot : Slot}
    {dir : Option DirectoryEntry} (hdir : dir = judgeSlot slot) (k : SlotId) :
    dirOf k (putSlot id slot dir s.store) = judgeSlot (slotOf k (putSlot id slot dir s.store)) := by
  rw [dirOf_putSlot, slotOf_putSlot]
  split
  · exact hdir
  · exact h.directory k

/-- The valid slot beside the target stays when the target is rewritten. -/
theorem SlotsHold.beside_putSlot {s : State} (h : SlotsHold asked s) {id : SlotId} (htarget : s.store.target = some id)
    (slot : Slot) (dir : Option DirectoryEntry) (hasked : asked) :
    ∃ k, slotValid (slotOf k (putSlot id slot dir s.store)) = true ∧ k ≠ id := by
  obtain ⟨k, hvalid, hbeside⟩ := h.beside hasked
  have hne : k ≠ id := fun heq => hbeside (heq ▸ htarget)
  refine ⟨k, ?_, hne⟩
  rw [slotOf_putSlot, if_neg hne]
  exact hvalid

/-- A commit spares the newest valid slot (R200). -/
theorem SlotsHold.beside_commitTarget {s : State} (h : SlotsHold asked s) (hasked : asked) :
    ∃ k, slotValid (slotOf k s.store) = true ∧ k ≠ commitTarget s.store := by
  obtain ⟨id, hvalid, -⟩ := h.beside hasked
  obtain ⟨n, hnewest, hn⟩ := newest_of_dirOf (x := s.store) (id := id)
    (by rw [h.directory, judgeSlot_isSome_iff]; exact hvalid)
  rw [h.directory, judgeSlot_isSome_iff] at hn
  refine ⟨n, hn, ?_⟩
  rw [commitTarget, hnewest]
  exact otherSlot_ne n

theorem SlotsHold.beginCommit {s : State} (h : SlotsHold asked s) {gen : Word32} (p : Profile)
    (hgen : gen ≠ 0xFFFFFFFF) : SlotsHold asked (s.setStore (beginCommit gen p s.store)) := by
  have hdirectory := h.directory_putSlot (id := commitTarget s.store)
    (judgeSlot_of_erased (slot := { slotOf (commitTarget s.store) s.store with generation := 0xFFFFFFFF }) rfl).symm
  refine ⟨⟨hdirectory .a, hdirectory .b, fun id hid => ?_, fun g hg => Option.some.inj hg ▸ hgen, nofun⟩,
    fun hasked => ?_⟩
  · obtain rfl := Option.some.inj hid
    show (slotOf _ (putSlot _ _ _ s.store)).generation = _
    rw [slotOf_putSlot, if_pos rfl]
  · obtain ⟨k, hvalid, hne⟩ := h.beside_commitTarget hasked
    refine ⟨k, ?_, fun htarget => hne (Option.some.inj htarget).symm⟩
    show slotValid (slotOf k (putSlot _ _ _ s.store)) = true
    rw [slotOf_putSlot, if_neg hne]
    exact hvalid

theorem SlotsHold.takeCommit {s : State} (h : SlotsHold asked s) : SlotsHold asked (takeCommit s) := by
  unfold Machine.takeCommit
  split
  next gen hgen => exact h.beginCommit _ (commitGeneration_ne_erased hgen)
  · exact h.endOperation _

theorem SlotsHold.completeWrite {s : State} (h : SlotsHold asked s) (stored : Option SlotImage) :
    SlotsHold asked (completeWrite stored s) := by
  unfold Machine.completeWrite
  split
  next id p _ htarget _ =>
    have herased : (writtenSlot (slotOf id s.store) (stored.getD (writtenImage p))).generation = 0xFFFFFFFF :=
      h.law.erased id htarget
    have hdirectory := h.directory_putSlot (id := id) (judgeSlot_of_erased herased).symm
    refine ⟨⟨hdirectory .a, hdirectory .b, fun k hk => ?_, fun g hg => ?_, nofun⟩, fun hasked => ?_⟩
    · have hk : (putSlot id _ _ s.store).target = some k := hk
      show (slotOf k (putSlot id _ _ s.store)).generation = _
      rw [slotOf_putSlot]
      split
      · exact herased
      next hne =>
        refine absurd (Option.some.inj (htarget.symm.trans ?_)).symm hne
        rw [← hk]
        cases id <;> rfl
    · refine h.law.generation g (Eq.trans ?_ hg)
      cases id <;> rfl
    · obtain ⟨k, hvalid, hne⟩ := h.beside_putSlot htarget _ none hasked
      refine ⟨k, hvalid, fun hk => hne (Option.some.inj (Eq.trans hk.symm (Eq.trans ?_ htarget)))⟩
      cases id <;> rfl
  · exact h

theorem SlotsHold.completeVerify {s : State} (h : SlotsHold asked s) (readGood : Bool) :
    SlotsHold asked (completeVerify readGood s) := by
  unfold Machine.completeVerify
  split
  next id p _ htarget _ =>
    split
    next hverified =>
      simp only [verifies, Bool.and_eq_true] at hverified
      obtain ⟨-, hgood, -⟩ := hverified
      refine ⟨{ h.law with verified := fun _ k hk => ?_ }, h.beside⟩
      obtain rfl := Option.some.inj (htarget.symm.trans hk)
      exact hgood
    · exact h.endOperation _
  · exact h

theorem SlotsHold.completeGeneration {s : State} (h : SlotsHold asked s) (readBack afterErase : Word32) :
    SlotsHold asked (completeGeneration readBack afterErase s) := by
  unfold Machine.completeGeneration
  split
  next id gen hphase htarget hgen =>
    have hvalid : ∀ slot dir, asked → ∃ k, slotValid (slotOf k (putSlot id slot dir s.store)) = true :=
      fun slot dir hasked => (h.beside_putSlot htarget slot dir hasked).imp fun _ hk => hk.1
    have hgood : slotValid { slotOf id s.store with generation := gen } = true := by
      have hcrc := h.law.verified hphase id htarget
      have hne := h.law.generation gen hgen
      simp only [slotValid, Bool.and_eq_true, bne_iff_ne, ne_eq]
      exact ⟨hne, hcrc⟩
    dsimp only
    split
    · exact slotsHold_endOperation (h.directory_putSlot (judgeSlot_of_valid hgood).symm) (hvalid _ _)
    · exact slotsHold_endOperation (h.directory_putSlot rfl) (hvalid _ _)
  · exact h

/-! ### Restore, erase and the full reset (R202–R206) -/

theorem SlotsHold.completeRead {s : State} (h : SlotsHold asked s) (readGood : Bool) :
    SlotsHold asked (completeRead readGood s) := by
  unfold Machine.completeRead
  split
  · split
    · exact h.progress _ _ _ _ _ _
    · exact h.endOperation _
  · exact h

theorem SlotsHold.takePartNotice {s : State} (h : SlotsHold asked s) (p : Part) :
    SlotsHold asked (takePartNotice p s) := by
  unfold Machine.takePartNotice
  split
  · dsimp only
    split
    · exact slotsHold_endOperation h.directory fun hasked => (h.beside hasked).imp fun _ hid => hid.1
    · exact h.progress _ _ _ _ _ _
  · exact h

/-- A block takes its part: the slots are not touched (R204). -/
theorem SlotsHold.takePart {s : State} (h : SlotsHold asked s) {part : Part} {f : Profile → State → State}
    (hf : ∀ p, SlotsHold asked (f p s)) : SlotsHold asked (takePart part f s) := by
  rcases takePart_cases part f s with heq | ⟨p, -, heq⟩ <;> rw [heq]
  · exact h
  · exact (hf p).progress _ _ _ _ _ _

/-- An erase invalidates both slots, and is all that takes the last valid one (R202, R205). -/
theorem SlotsHold.completeErase {s : State} (h : SlotsHold asked s) (herasing : asked → s.store.block ≠ .erasing)
    (readA readB : Word32) : SlotsHold asked (completeErase readA readB s) := by
  unfold Machine.completeErase
  split
  next hblock =>
    exact slotsHold_endOperation (fun id => by cases id <;> rfl) fun hasked => absurd hblock (herasing hasked)
  · exact h

/-- A full reset rebuilds the directory from the slots that it keeps (R198, R206). -/
theorem SlotsHold.startBlocks {s : State} (h : SlotsHold asked s) (straps : Straps) (rate : HostRate)
    (std : Standard) : SlotsHold asked (startBlocks straps rate std s) where
  law :=
    { dirA := rfl
      dirB := rfl
      erased := nofun
      generation := nofun
      verified := nofun }
  beside hasked := by
    obtain ⟨id, hvalid, -⟩ := h.beside hasked
    exact ⟨id, by cases id <;> exact hvalid, nofun⟩

/-! ### The judgements of the profile commands -/

theorem judgeCommit_keeps_slotsHold : JudgementKeeps (SlotsHold asked) judgeCommit := by
  refine judged_keeps fun _ s h => ?_
  split
  · exact h.takeCommit
  · exact h

theorem judgeRestore_keeps_slotsHold : JudgementKeeps (SlotsHold asked) judgeRestore := by
  refine judged_keeps fun _ s h => ?_
  split
  · split
    · exact h.progress _ _ _ _ _ _
    · exact h
  · exact h

theorem judgeErase_keeps_slotsHold : JudgementKeeps (SlotsHold asked) judgeErase := by
  refine judged_keeps fun _ s h => ?_
  split
  · exact h.progress _ _ _ _ _ _
  · exact h

/-! ### Every other block -/

/-- A property that only a change of the profile store can break. -/
structure BesideStore (P : State → Prop) : Prop extends ZoneBlind P, RuleBlind P, ScheduleBlind P, LineBlind P,
  HeadBlind P, CameraBlind P, CompositorBlind P, SessionBlind P

theorem slotsHold_besideStore : BesideStore (SlotsHold asked) where
  zones _ _ h := h.of_store rfl
  cams _ _ h := h.of_store rfl
  wires _ _ h := h.of_store rfl
  rules _ _ h := h.of_store rfl
  sched _ _ h := h.of_store rfl
  lines _ _ h := h.of_store rfl
  pins _ _ h := h.of_store rfl
  head _ _ h := h.of_store rfl
  fresh _ _ h := h.of_store rfl
  comp _ _ h := h.of_store rfl
  link _ _ h := h.of_store rfl
  reports _ _ h := h.of_store rfl

theorem SlotsHold.fullReset {s : State} (h : SlotsHold asked s) (straps : Straps) (rate : HostRate)
    (std : Standard) : SlotsHold asked (fullReset straps rate std s) :=
  slotsHold_besideStore.toLineBlind.fullReset (h.startBlocks straps rate std)

theorem slotsHold_execRestoreRulesArm {s : State} (h : SlotsHold asked s) :
    ∃ t, execRestoreRulesArm s = .next t ∧ SlotsHold asked t := by
  refine ⟨_, rfl, ?_⟩
  split
  · exact h
  · exact h.takePart fun p => slotsHold_besideStore.toRuleBlind.restoreRules p h

/-- The judgement of every kind of host command keeps the law and the valid slot. -/
theorem hostCommand_keeps_slotsHold (kind : Byte) : JudgementKeeps (SlotsHold asked) (hostCommand kind).2 := by
  have hbeside := slotsHold_besideStore (asked := asked)
  have hsource := hbeside.toScheduleBlind.toSourceBlind
  unfold hostCommand
  split
  · exact query_keeps
  · exact judged_keeps fun q _ h => hbeside.toSessionBlind.openSession q h
  · exact judged_keeps fun _ _ h => hbeside.toSessionBlind.closeLink h
  · exact query_keeps
  · exact query_keeps
  · exact judged_keeps fun _ _ h => hbeside.link _ _ h
  · exact query_keeps
  · exact configuration_keeps (judged_keeps fun x _ h => hbeside.toCameraBlind.writeCamera .notice x.1 x.2 h)
  · exact query_keeps
  · exact configuration_keeps (judged_keeps fun _ _ h => hbeside.zones _ _ h)
  · exact query_keeps
  · exact configuration_keeps (judged_keeps fun x _ h => hbeside.toZoneBlind.putZone x.1 x.2 h)
  · exact hbeside.toZoneBlind.judgeDropZone
  · exact hbeside.toZoneBlind.judgeRelearnZone
  · exact ZoneBlind.judgeGetZone
  · exact hbeside.toRuleBlind.judgePutRule
  · exact hbeside.toRuleBlind.judgeDropRule
  · exact hbeside.toRuleBlind.judgeArmRule
  · exact RuleBlind.judgeGetRule
  · exact configuration_keeps (judged_keeps fun x _ h => hbeside.toScheduleBlind.putView x.1 x.2 h)
  · exact hbeside.toScheduleBlind.judgeDropView
  · exact hbeside.toScheduleBlind.judgeSetRotation
  · exact configuration_keeps (judged_keeps fun m _ h => hsource.setMinShow m h)
  · exact hbeside.toScheduleBlind.judgeShowView
  · exact hsource.judgeWithdraw
  · exact hbeside.toScheduleBlind.judgeHold
  · exact judged_keeps fun _ _ h => hbeside.toScheduleBlind.releaseHold h
  · exact query_keeps
  · exact configuration_keeps (judged_keeps fun _ _ h => hbeside.reports _ _ h)
  · exact SessionBlind.judgePull
  · exact hbeside.toSessionBlind.judgeAck
  · exact hbeside.toLineBlind.judgeSetLine
  · exact judged_keeps fun _ _ h => hbeside.lines _ _ h
  · exact query_keeps
  · exact configuration_keeps (judged_keeps fun _ _ h => hbeside.head _ _ h)
  · exact hbeside.toHeadBlind.judgeRelay
  · exact hbeside.toHeadBlind.judgeCancelRelay
  · exact query_keeps
  · exact judgeCommit_keeps_slotsHold
  · exact judgeRestore_keeps_slotsHold
  · exact judgeErase_keeps_slotsHold
  · exact query_keeps
  · exact fun _ _ h => h

/-- Every command keeps the law, and the valid slot unless it ends an erase. -/
theorem slotsHold_exec (i : Instr) {s : State} (h : SlotsHold asked s) (herasing : asked → s.store.block ≠ .erasing) :
    ∃ t, exec i s = .next t ∧ SlotsHold asked t := by
  have hbeside := slotsHold_besideStore (asked := asked)
  have hlink := hbeside.toSessionBlind
  have hcamera := hbeside.toCameraBlind
  have hzone := hbeside.toZoneBlind
  have hrule := hbeside.toRuleBlind
  have hschedule := hbeside.toScheduleBlind
  have hsource := hschedule.toSourceBlind
  have hcomp := hbeside.toCompositorBlind
  have hline := hbeside.toLineBlind
  have hhead := hbeside.toHeadBlind
  have hcommand : ∀ {i kind}, hostKind i = some kind → ∃ t, exec i s = .next t ∧ SlotsHold asked t := fun hi =>
    hlink.toLinkBlind.exec_hostKind hostCommand_keeps_slotsHold hi h
  match i with
  | .powerOn _ => exact ⟨_, rfl, h.fullReset _ _ _⟩
  | .resetLine _ => exact ⟨_, rfl, h.fullReset _ _ _⟩
  | .timeBaseTick => exact ⟨_, rfl, h.of_store rfl⟩
  | .fieldEnd c f => exact ⟨_, rfl, hcamera.takeFieldEnd c f h⟩
  | .runDeadlineExpiry c => exact ⟨_, rfl, hcamera.expireRun c h⟩
  | .lossDeadlineExpiry c => exact ⟨_, rfl, hcamera.expireLoss c h⟩
  | .lostDeadlineExpiry c => exact ⟨_, rfl, hcamera.expireLost c h⟩
  | .firstActiveLine c => exact ⟨_, rfl, hcamera.takeFirstLine c h⟩
  | .fieldSummary c => exact hzone.execFieldSummary c h
  | .cameraNoticeAtZones c => exact hzone.execCameraNoticeAtZones c h
  | .zoneTransition => exact hrule.execZoneTransition h
  | .lineTransition l => exact hrule.execLineTransition l h
  | .restartNotice => exact hrule.execRestartNotice h
  | .stepDeadlineExpiry r => exact ⟨_, rfl, hrule.expireStep r h⟩
  | .cooldownDeadlineExpiry r => exact ⟨_, rfl, hrule.expireCooldown r h⟩
  | .viewRequest => exact hschedule.execViewRequest h
  | .withdrawal => exact hsource.execWithdrawal h
  | .cameraNoticeAtScheduler c => exact hsource.execCameraNoticeAtScheduler c h
  | .dwellDeadlineExpiry => exact ⟨_, rfl, hsource.expireDwell h⟩
  | .lifetimeDeadlineExpiry o => exact ⟨_, rfl, hsource.expireLifetime o h⟩
  | .rotationDeadlineExpiry => exact ⟨_, rfl, hsource.expireRotation h⟩
  | .deferralDeadlineExpiry => exact ⟨_, rfl, hsource.expireDeferral h⟩
  | .presentation => exact hcomp.execPresentation h
  | .outputFrameStart => exact ⟨_, rfl, hcomp.startFrame h⟩
  | .reportOffer k => exact hlink.execReportOffer k h
  | .retransmitDeadlineExpiry => exact ⟨_, rfl, hlink.expireRetransmit h⟩
  | .pushStallNotice => exact hlink.execPushStallNotice h
  | .pinLevelChange l => exact hline.execPinLevelChange l h
  | .debounceDeadlineExpiry l => exact ⟨_, rfl, hline.expireDebounce l h⟩
  | .latchClaim => exact hline.execLatchClaim h
  | .latchDrop => exact hline.execLatchDrop h
  | .pulseClaim => exact hline.execPulseClaim h
  | .pulseDeadlineExpiry l => exact ⟨_, rfl, hline.expirePulse l h⟩
  | .recall => exact hhead.execRecall h
  | .requestFrameComplete => exact ⟨_, rfl, hhead.completeRequest h⟩
  | .replyFrame r g b _ => exact ⟨_, rfl, hhead.takeReply _ _ _ h⟩
  | .replyDeadlineExpiry => exact ⟨_, rfl, hhead.expireReply h⟩
  | .turnaroundGapEnd => exact hhead.execTurnaroundGapEnd h
  | .hostByteReceived _ _ => exact ⟨_, rfl, hlink.toLinkBlind.receiveHostByte hostCommand_keeps_slotsHold _ _ h⟩
  | .gapDeadlineExpiry => exact ⟨_, rfl, hlink.toLinkBlind.expireGap h⟩
  | .silenceDeadlineExpiry => exact ⟨_, rfl, hlink.expireSilence h⟩
  | .frameTxComplete _ =>
    exact ⟨_, rfl, hlink.toLinkBlind.completeFrame hostCommand_keeps_slotsHold _
      (fun _ h => h.fullReset _ _ _) h⟩
  | .unknownKind => exact ⟨_, rfl, hlink.toLinkBlind.takeWhen (hostCommand_keeps_slotsHold 0x00) _ _ h⟩
  | .restoreZones => exact ⟨_, rfl, h.takePart fun p => hzone.restoreZones p h⟩
  | .restoreLines => exact ⟨_, rfl, h.takePart fun p => hline.restoreLines p h⟩
  | .restoreSchedule => exact ⟨_, rfl, h.takePart fun p => hschedule.restoreSchedule p h⟩
  | .restoreRulesRemove => exact ⟨_, rfl, h.takePart fun _ => hrule.removeRules h⟩
  | .restoreRulesArm => exact slotsHold_execRestoreRulesArm h
  | .restoreCamera c => exact ⟨_, rfl, h.takePart fun p => hcamera.writeCamera _ c (p.cameras.get c) h⟩
  | .restoreFilter => exact ⟨_, rfl, h.takePart fun _ => hbeside.reports _ _ h⟩
  | .restoreHeadlink => exact ⟨_, rfl, h.takePart fun _ => hbeside.head _ _ h⟩
  | .partTakenNotice p => exact ⟨_, rfl, h.takePartNotice p⟩
  | .restoreReadDone good => exact ⟨_, rfl, h.completeRead good⟩
  | .commitWriteDone stored => exact ⟨_, rfl, h.completeWrite stored⟩
  | .commitVerifyDone good => exact ⟨_, rfl, h.completeVerify good⟩
  | .generationWriteDone back erased => exact ⟨_, rfl, h.completeGeneration back erased⟩
  | .erasePrepareDone a b => exact ⟨_, rfl, h.completeErase herasing a b⟩
  | .setCamera | .getCamera | .setClass | .getClass | .putZone | .dropZone | .relearnZone | .getZone | .putRule
  | .dropRule | .armRule | .getRule | .putView | .dropView | .setRotation | .setMinshow | .showView | .withdraw
  | .hold | .release | .getScreen | .setFilter | .pull | .ack | .setLine | .driveLine | .getLines | .relay
  | .cancelRelay | .setHeadlink | .getRelays | .hello | .openSession | .closeSession | .ping | .setLink | .restart
  | .time | .commit | .restore | .eraseProfile | .getProfile => exact hcommand rfl

end Sys2Proof.Machine

namespace Sys2Proof.ProfileSlots

open Sys2Proof.Machine Sys2Proof.Safety

/-- Settles O59, by `slotsHold_exec`: the law with no valid slot asked for, then with one. -/
theorem slotsKept : Obligations.SlotsKept := by
  refine ⟨fun i s t hlaw hexec => ?_, fun i s t hlaw herasing hexec hbeside => ?_⟩
  · obtain ⟨u, hnext, hkept⟩ := slotsHold_exec (asked := False) i ⟨hlaw, False.elim⟩ False.elim
    cases hexec.symm.trans hnext
    exact hkept.law
  · obtain ⟨u, hnext, hkept⟩ := slotsHold_exec (asked := True) i ⟨hlaw, fun _ => hbeside⟩ fun _ => herasing
    cases hexec.symm.trans hnext
    exact hkept.beside trivial

end Sys2Proof.ProfileSlots
end

section
/-! The profile operations (R196–R205, R208): COMMIT, RESTORE and ERASE_PROFILE as they are taken, the phases of a
commit, the read and the parts of a restore with the checks of R203, and the end of an erase. -/

namespace Sys2Proof.Machine

open Sys2Proof.Safety

/-! ### Commands that only an IDLE store takes (R200, R203, R205) -/

section
variable {α : Type} {kind : Byte} {f : Frame} {rest : List Frame} {s u : State} {parse : List Byte → Except Turndown α}
  {ap : α → State → Answer × State} {x : α} {a : Answer}

/-- A profile command that is judged while the store is IDLE, and BUSY otherwise. -/
def judgedIdle (parse : List Byte → Except Turndown α) (ap : α → State → Answer × State) : Judgement :=
  judged parse fun x s => if s.store.block = .idle then ap x s else (answerRefused .busy, s)

theorem takeKind_idle_taken (hready : Ready kind f rest s) (hparse : parse f.payload = .ok x)
    (hidle : s.store.block = .idle)
    (hap : ap x (s.setLink { s.link with commands := rest }) = (a, u.setLink { s.link with commands := rest })) :
    Taken f rest a.payload s u (takeKind kind (judgedIdle parse ap) s) :=
  takeKind_judged_taken hready hparse ((if_pos hidle).trans hap)

theorem takeKind_busy_taken (hready : Ready kind f rest s) (hparse : parse f.payload = .ok x)
    (hbusy : s.store.block ≠ .idle) : Taken f rest [0x08] s s (takeKind kind (judgedIdle parse ap) s) :=
  takeKind_judged_taken (a := answerRefused .busy) hready hparse (if_neg hbusy)

end

/-! ### The end of an operation (R208) -/

theorem slotCode_some (id : SlotId) : slotCode (some id) = slotNumber id := by cases id <;> rfl

theorem putSlot_store (id : SlotId) (slot : Slot) (dir : Option DirectoryEntry) (s : State) :
    putSlot id slot dir s.store = (storing id slot dir s).store := by cases id <;> rfl

/-- An operation that ends over a store with a slot rewritten. -/
theorem endOperation_putSlot (id k : SlotId) (slot : Slot) (dir : Option DirectoryEntry) (event : ProfileEvent)
    (gen : Option Word32) (s : State) :
    endOperation (putSlot id slot dir s.store) (profileReport s.now event (some k) gen) s =
      operationOver event (slotNumber k) gen (storing id slot dir s) := by
  cases id <;> cases k <;> rfl

/-! ### COMMIT (R200) -/

/-- The generation of the newest valid slot in the directory, 0 without one. -/
def newestGeneration (x : ProfileStore) : Word32 := (((newest x).bind (dirOf · x)).map (·.generation)).getD 0

theorem commitGeneration_eq (x : ProfileStore) : commitGeneration x =
    if newestGeneration x = 0xFFFFFFFE then none else some (newestGeneration x + 1) := by
  unfold commitGeneration newestGeneration
  cases (newest x).bind (dirOf · x) with
  | none => rfl
  | some e => rfl

theorem commitTarget_eq (x : ProfileStore) : commitTarget x = if newest x = some .a then .b else .a := by
  unfold commitTarget
  cases newest x with
  | none => rfl
  | some id => cases id <;> rfl

theorem takeCommit_of_last {s : State} (h : newestGeneration s.store = 0xFFFFFFFE) :
    takeCommit s = operationOver .commitFailed 0 none s := by
  simp only [takeCommit, commitGeneration_eq, if_pos h]
  rfl

theorem takeCommit_of_room {s : State} (h : newestGeneration s.store ≠ 0xFFFFFFFE) :
    takeCommit s = s.setStore (beginCommit (newestGeneration s.store + 1) (runningProfile s) s.store) := by
  simp only [takeCommit, commitGeneration_eq, if_neg h]

/-! ### The phases of a commit (R201) -/

theorem slotCrcGood_iff (slot : Slot) : slotCrcGood slot = true ↔
    slot.length ≤ 8182 ∧ slot.crc = crc32 (be16 slot.length ++ slot.contents.bytes) := by
  simp only [slotCrcGood, slotCrc, Bool.and_eq_true, decide_eq_true_eq, beq_iff_eq]

theorem verifies_iff (slot : Slot) (p : Profile) : verifies slot p = true ↔
    slot.length ≤ 8182 ∧ slot.crc = crc32 (be16 slot.length ++ slot.contents.bytes) ∧
      slot.contents = profileContents p := by
  simp only [verifies, Bool.and_eq_true, slotCrcGood_iff, beq_iff_eq, and_assoc]

section
variable {id : SlotId} {p : Profile} {gen : Word32} {s : State}

theorem completeWrite_of_writing (htarget : s.store.target = some id) (hsnapshot : s.store.snapshot = some p)
    (hphase : s.store.phase = some .write) (stored : Option SlotImage) : completeWrite stored s =
      s.setStore { putSlot id (writtenSlot (slotOf id s.store) (stored.getD (writtenImage p))) none s.store with
        phase := some .verify } := by
  simp only [completeWrite, htarget, hsnapshot, hphase]

theorem failCommit_of_target (htarget : s.store.target = some id) :
    failCommit s.store s = operationOver .commitFailed (slotNumber id) none s := by
  rw [failCommit, htarget, endOperation_eq, slotCode_some]

theorem failCommit_putSlot (htarget : s.store.target = some id) (slot : Slot) (dir : Option DirectoryEntry) :
    failCommit (putSlot id slot dir s.store) s =
      operationOver .commitFailed (slotNumber id) none (storing id slot dir s) := by
  have hkept : (putSlot id slot dir s.store).target = some id := by
    rw [← htarget]
    cases id <;> rfl
  rw [failCommit, hkept, endOperation_putSlot]

theorem completeVerify_of_good (htarget : s.store.target = some id) (hsnapshot : s.store.snapshot = some p)
    (hphase : s.store.phase = some .verify) (hgood : verifies (slotOf id s.store) p = true) :
    completeVerify true s = s.setStore { s.store with phase := some .generation } := by
  simp only [completeVerify, htarget, hsnapshot, hphase, hgood, Bool.and_self, if_true]

theorem completeVerify_of_bad {good : Bool} (htarget : s.store.target = some id) (hsnapshot : s.store.snapshot = some p)
    (hphase : s.store.phase = some .verify) (hbad : ¬ (good = true ∧ verifies (slotOf id s.store) p = true)) :
    completeVerify good s = operationOver .commitFailed (slotNumber id) none s := by
  simp only [completeVerify, htarget, hsnapshot, hphase, Bool.and_eq_true, if_neg hbad]
  exact failCommit_of_target htarget

theorem completeGeneration_of_same (htarget : s.store.target = some id) (hgen : s.store.targetGen = some gen)
    (hphase : s.store.phase = some .generation) (afterErase : Word32) : completeGeneration gen afterErase s =
      operationOver .committed (slotNumber id) (some gen) (storing id { slotOf id s.store with generation := gen }
        (some ⟨gen, (slotOf id s.store).length⟩) s) := by
  simp only [completeGeneration, htarget, hgen, hphase, if_true]
  exact endOperation_putSlot ..

theorem completeGeneration_of_other {readBack : Word32} (htarget : s.store.target = some id)
    (hgen : s.store.targetGen = some gen) (hphase : s.store.phase = some .generation) (hne : readBack ≠ gen)
    (afterErase : Word32) : completeGeneration readBack afterErase s =
      operationOver .commitFailed (slotNumber id) none
        (storing id { slotOf id s.store with generation := afterErase }
          (judgeSlot { slotOf id s.store with generation := afterErase }) s) := by
  simp only [completeGeneration, htarget, hgen, hphase, if_neg hne]
  exact failCommit_putSlot htarget ..

end

/-! ### The checks of a slot (R203) -/

theorem referencesGood_iff (p : Profile) : referencesGood p = true ↔ ProfileLaw p := by
  refine ⟨profileLaw_of_referencesGood, fun h => ?_⟩
  simp only [referencesGood, Bool.and_eq_true, tableGood_iff, List.all_eq_true]
  refine ⟨fun r cfg hr => ⟨fun t ht => ?_, fun a ha => ?_⟩, h.rotation⟩
  · obtain ⟨operand, negated⟩ := t
    cases operand with
    | zone z => exact h.zones r cfg hr z negated ht
    | line l => exact beq_iff_eq.mpr (h.inputs r cfg hr l negated ht)
  · cases a with
    | showView v _ _ _ _ => exact h.views r cfg hr v _ _ _ _ ha
    | line l form => exact beq_iff_eq.mpr (h.outputs r cfg hr l form ha)
    | _ => rfl

theorem checkedProfile_eq_some_iff (slot : Slot) (p : Profile) : checkedProfile slot = some p ↔ slot.length ≤ 8182 ∧
    slot.crc = crc32 (be16 slot.length ++ slot.contents.bytes) ∧ slot.contents.profile = some p ∧
    rangesGood p = true ∧ ProfileLaw p := by
  rw [← and_assoc, ← slotCrcGood_iff, ← referencesGood_iff, ← Bool.and_eq_true]
  unfold checkedProfile
  split
  next hcrc => simp [hcrc, Option.filter_eq_some_iff]
  next hcrc => simp [hcrc]

/-! ### The read of a restore and its parts (R203, R204) -/

section
variable {id : SlotId} {s : State}

theorem restoreReport_eq (hslot : s.store.restoreSlot = some id) (now : Time) (event : ProfileEvent) :
    restoreReport now event s.store =
      ⟨now, 2, slotNumber id, .profile event ((dirOf id s.store).map (·.generation))⟩ := by
  rw [restoreReport, hslot, profileReport, slotCode_some]
  rfl

theorem completeRead_of_checked {p : Profile} (hblock : s.store.block = .restoring)
    (hslot : s.store.restoreSlot = some id) (hnone : s.store.applying = none)
    (hp : checkedProfile (slotOf id s.store) = some p) :
    completeRead true s = s.setStore { s.store with applying := some p, handed := [.rulesRemove] } := by
  simp only [completeRead, hblock, hslot, hnone, if_true, hp]

theorem completeRead_of_bad {good : Bool} (hblock : s.store.block = .restoring)
    (hslot : s.store.restoreSlot = some id) (hnone : s.store.applying = none)
    (hbad : good = false ∨ checkedProfile (slotOf id s.store) = none) : completeRead good s =
      operationOver .restoreFailed (slotNumber id) ((dirOf id s.store).map (·.generation)) s := by
  have hread : (if good then checkedProfile (slotOf id s.store) else none) = none := by
    rcases hbad with rfl | hnone
    · rfl
    · rw [hnone, ite_self]
  simp only [completeRead, hblock, hslot, hnone, hread, restoreReport_eq hslot]
  rfl

theorem mem_allParts (part : Part) : part ∈ allParts := by
  cases part with
  | camera c => revert c; decide
  | _ => decide

/-- Every part has been taken when this one is the last (R204). -/
theorem allParts_taken_iff (part : Part) (taken : List Part) :
    allParts.all ((part :: taken).contains ·) = true ↔ ∀ x, x ≠ part → x ∈ taken := by
  simp only [List.all_eq_true, mem_allParts, true_implies, List.contains_iff_mem, List.mem_cons, or_iff_not_imp_left]

theorem takePartNotice_of_last {part : Part} (hslot : s.store.restoreSlot = some id)
    (happlying : s.store.applying.isSome) (hmem : part ∈ s.store.notices) (hlast : ∀ x, x ≠ part → x ∈ s.store.taken) :
    takePartNotice part s =
      operationOver .restored (slotNumber id) ((dirOf id s.store).map (·.generation)) s := by
  have hall := (allParts_taken_iff part s.store.taken).mpr hlast
  rw [takePartNotice, if_pos ⟨happlying, hmem⟩]
  dsimp only
  rw [if_pos hall]
  exact congrArg (endOperation s.store · s) (restoreReport_eq hslot s.now .restored)

theorem takePartNotice_of_more {part x : Part} (happlying : s.store.applying.isSome) (hmem : part ∈ s.store.notices)
    (hne : x ≠ part) (hx : x ∉ s.store.taken) : takePartNotice part s = noticeTaken part s := by
  have hmore := mt (allParts_taken_iff part s.store.taken).mp fun hall => hx (hall x hne)
  rw [takePartNotice, if_pos ⟨happlying, hmem⟩]
  exact if_neg hmore

end

/-! ### The end of an erase (R205) -/

theorem completeErase_of_erasing {s : State} (h : s.store.block = .erasing) (readA readB : Word32) :
    completeErase readA readB s = endOperation (erasedSlots readA readB s.store) (eraseReport s.now readA readB) s :=
  if_pos h

end Sys2Proof.Machine

namespace Sys2Proof.ProfileOperations

open Sys2Proof.Machine Sys2Proof.Safety

/-- Settles O49: the taking of COMMIT by the generation it would give, then phase by phase. -/
theorem commitPhases : Obligations.CommitPhases := by
  refine ⟨fun f rest s hready hnone => ?_, fun id p gen s htarget hsnapshot hgen => ?_⟩
  · intro newest target top
    have hparse := parseNone_nil hnone
    have htop : top = newestGeneration s.store := by
      simp only [top, newest, newestGeneration, Machine.newest]
      cases newestSlot s.store.dirA s.store.dirB with
      | none => rfl
      | some id => cases id <;> rfl
    have htarget : target = commitTarget s.store := (commitTarget_eq s.store).symm
    rw [htop, htarget]
    refine ⟨fun hbusy => ⟨_, rfl, takeKind_busy_taken hready hparse hbusy⟩,
      fun hidle hlast => ⟨_, rfl, takeKind_idle_taken (a := answerAccepted []) hready hparse hidle ?_⟩,
      fun hidle hroom _ => ⟨_, s.setStore (beginCommit (newestGeneration s.store + 1) (runningProfile s) s.store), rfl,
        takeKind_idle_taken (a := answerAccepted []) hready hparse hidle ?_, ?_, ?_⟩⟩
    · exact congrArg (Prod.mk _) (takeCommit_of_last (s := s.setLink _) hlast)
    · exact congrArg (Prod.mk _) (takeCommit_of_room (s := s.setLink _) hroom)
    · rw [← putSlot_eq]
      rfl
    · rw [← putSlot_store]
      rfl
  · refine ⟨fun stored hphase => ?_, fun hphase => ⟨fun hlength hcrc hcontents => ?_, fun good hbad => ?_⟩,
      fun hphase readBack afterErase => ⟨fun hsame => ?_, fun hother => ?_⟩⟩ <;> refine congrArg Host.Outcome.next ?_
    · rw [completeWrite_of_writing htarget hsnapshot hphase, putSlot_store]
      cases stored <;> cases id <;> rfl
    · exact completeVerify_of_good htarget hsnapshot hphase ((verifies_iff _ _).mpr ⟨hlength, hcrc, hcontents⟩)
    · refine completeVerify_of_bad htarget hsnapshot hphase fun ⟨hread, hverified⟩ => ?_
      obtain ⟨hlength, hcrc, hcontents⟩ := (verifies_iff _ _).mp hverified
      rcases hbad with hbad | hbad | hbad | hbad
      · exact absurd hread (Bool.eq_false_iff.mp hbad)
      · exact hbad hcontents
      · exact absurd hlength (Nat.not_le.mpr hbad)
      · exact hbad hcrc
    · rw [hsame]
      exact completeGeneration_of_same htarget hgen hphase afterErase
    · exact completeGeneration_of_other htarget hgen hphase hother afterErase

/-- Settles O50: the taking of RESTORE by the slot it selects, the read, and the notices of the parts. -/
theorem restorePhases : Obligations.RestorePhases := by
  refine ⟨fun x f rest s hready hparse => ?taking, fun id s hblock hslot => ?phases, checkedProfile_eq_some_iff⟩
  case taking =>
    intro slot
    have hselected : slot = selected x s.store := by
      cases x with
      | none => rfl
      | some id => cases id <;> rfl
    rw [hselected]
    refine ⟨fun hbusy => ⟨_, rfl, takeKind_busy_taken hready hparse hbusy⟩,
      fun hidle hnone => ⟨_, rfl, takeKind_idle_taken (a := answerRefused .absent) hready hparse hidle ?_⟩,
      fun id hidle hsome => ⟨_, rfl, takeKind_idle_taken (a := answerAccepted []) hready hparse hidle ?_⟩⟩
    · simp only [State.setLink_store, hnone]
    · simp only [State.setLink_store, hsome]
      rfl
  case phases =>
    intro gen
    have hgen : gen = (dirOf id s.store).map (·.generation) := by cases id <;> rfl
    rw [hgen]
    refine ⟨fun hnone => ⟨fun p hp => ?_, fun good hbad => ?_⟩,
      fun happlying part hmem => ⟨fun hlast => ?_, fun x hne hx => ?_⟩⟩ <;> refine congrArg Host.Outcome.next ?_
    · exact completeRead_of_checked hblock hslot hnone hp
    · exact completeRead_of_bad hblock hslot hnone hbad
    · exact takePartNotice_of_last hslot happlying hmem hlast
    · rw [takePartNotice_of_more happlying hmem hne hx]
      cases part <;> rfl

/-- Settles O51: the taking of ERASE_PROFILE, and the report by the first slot that does not read back erased. -/
theorem eraseInvalidates : Obligations.EraseInvalidates := by
  refine ⟨fun f rest s hready hnone => ?_, fun readA readB s herasing => ?_⟩
  · have hparse := parseNone_nil hnone
    exact ⟨fun hidle => ⟨_, rfl, takeKind_idle_taken (a := answerAccepted []) hready hparse hidle rfl⟩,
      fun hbusy => ⟨_, rfl, takeKind_busy_taken hready hparse hbusy⟩⟩
  · intro a b s1
    have hexec : ∀ event slot, eraseReport s.now readA readB = profileReport s.now event slot none →
        exec (.erasePrepareDone readA readB) s = .next (operationOver event (slotCode slot) none s1) := by
      intro event slot hreport
      refine congrArg Host.Outcome.next ?_
      rw [completeErase_of_erasing herasing, hreport]
      rfl
    refine ⟨fun hA hB => ⟨hexec .erased none ?_, judgeSlot_of_erased hA, judgeSlot_of_erased hB⟩,
      fun hA => hexec .eraseFailed (some .a) (if_pos hA), fun hA hB => hexec .eraseFailed (some .b) ?_⟩
    · rw [eraseReport, if_neg (not_not.mpr hA), if_neg (not_not.mpr hB)]
    · rw [eraseReport, if_neg (not_not.mpr hA), if_pos hB]

end Sys2Proof.ProfileOperations
end

section
/-! The full reset (R2, R45, R47, R51, R75, R126, R130, R131, R198, R206, R207): what judging their pins afresh leaves
of the lines and the paths, the slot that is loaded, and the configuration that every block then holds. -/

namespace Sys2Proof.Machine

open Sys2Proof.Safety

/-! ### Tables -/

/-- Tables with the same entries are the same. -/
theorem ext_of_get {α : Type} {n : Nat} {v w : Vector α n} (h : ∀ i, v.get i = w.get i) : v = w :=
  Vector.ext fun i hi => h ⟨i, hi⟩

/-! ### The pins at the start (R130, R131) -/

/-- An INPUT line whose pin stands at the active level. -/
abbrev pinActive (s : State) (l : LineId) : Prop :=
  (s.lines.get l).mode = .input ∧ s.extPins.get l = (s.lines.get l).activeLevel

/-- A line that goes ACTIVE at once when it judges its pin: its debounce is 0. -/
abbrev activeAtOnce (s : State) (l : LineId) : Prop := pinActive s l ∧ (s.lines.get l).debounce = 0

/-- An INACTIVE line after it has judged its pin. -/
def judgedLine (s : State) (l : LineId) : Line :=
  let line := s.lines.get l
  if activeAtOnce s l then { line with accepted := .active, pendingChange := none }
  else if pinActive s l then { line with pendingChange := some (later s.now line.debounce) }
  else line

theorem judgedLine_of_immediate {s : State} {l : LineId} (h : activeAtOnce s l) :
    judgedLine s l = { s.lines.get l with accepted := .active, pendingChange := none } := if_pos h

theorem judgedLine_of_debounced {s : State} {l : LineId} (h : pinActive s l)
    (hdebounce : (s.lines.get l).debounce ≠ 0) :
    judgedLine s l = { s.lines.get l with pendingChange := some (later s.now (s.lines.get l).debounce) } :=
  (if_neg fun hat => hdebounce hat.2).trans (if_pos h)

theorem judgedLine_of_quiet {s : State} {l : LineId} (h : ¬ pinActive s l) : judgedLine s l = s.lines.get l :=
  (if_neg fun hat => h hat.1).trans (if_neg h)

/-- A line that judges its pin moves its accepted state and its pending change only (R130). -/
theorem judgedLine_frame (s : State) (l : LineId) : ∃ accepted pending,
    judgedLine s l = { s.lines.get l with accepted := accepted, pendingChange := pending } := by
  by_cases hactive : pinActive s l
  · by_cases hdebounce : (s.lines.get l).debounce = 0
    · exact ⟨_, _, judgedLine_of_immediate ⟨hactive, hdebounce⟩⟩
    · exact ⟨_, _, judgedLine_of_debounced hactive hdebounce⟩
  · exact ⟨_, _, judgedLine_of_quiet hactive⟩

@[simp] theorem judgedLine_mode (s : State) (l : LineId) : (judgedLine s l).mode = (s.lines.get l).mode := by
  obtain ⟨_, _, hframe⟩ := judgedLine_frame s l
  rw [hframe]

@[simp] theorem judgedLine_activeLevel (s : State) (l : LineId) :
    (judgedLine s l).activeLevel = (s.lines.get l).activeLevel := by
  obtain ⟨_, _, hframe⟩ := judgedLine_frame s l
  rw [hframe]

@[simp] theorem judgedLine_debounce (s : State) (l : LineId) :
    (judgedLine s l).debounce = (s.lines.get l).debounce := by
  obtain ⟨_, _, hframe⟩ := judgedLine_frame s l
  rw [hframe]

/-- A line that has judged its pin is driven AUTO without claimants and pulse, as it started (R126). -/
theorem judgedLine_output {s : State} {l : LineId} {cfg : LineConfig} (h : s.lines.get l = startLine cfg) :
    (judgedLine s l).drive = .auto ∧ (judgedLine s l).claimants = Vector.replicate 24 false ∧
    (judgedLine s l).pulse = none ∧ (judgedLine s l).asserted = false := by
  obtain ⟨_, _, hframe⟩ := judgedLine_frame s l
  rw [hframe, h]
  exact ⟨rfl, rfl, rfl, rfl⟩

/-- What a line that has judged its pin tells: its transition, where it went ACTIVE (R131). -/
def tells (s : State) (l : LineId) : List LineChange :=
  if activeAtOnce s l then [⟨l, .inactive, .active, s.now⟩] else []

/-- The state with the contact lines, their path to the rule engine and the offers as given. -/
def linesStand (lines : Vector Line 8) (path : Vector (List LineChange) 8) (offers : List Report) (s : State) : State :=
  (s.setLines lines).setWires { s.wires with linesToRules := path, offers := offers }

/-- A line stands in a state as it has judged its pin, its transition sent and its report offered. -/
def putJudged (s : State) (l : LineId) (u : State) : State :=
  linesStand (upd u.lines l (judgedLine s l))
    (upd u.wires.linesToRules l (u.wires.linesToRules.get l ++ tells s l))
    (u.wires.offers ++ (tells s l).map contactReport) u

theorem putJudged_of_silent {s : State} {l : LineId} (h : ¬ activeAtOnce s l) (u : State) :
    putJudged s l u = u.setLine l (judgedLine s l) := by
  rw [putJudged, tells, if_neg h, List.append_nil, upd_get_eq, List.map_nil, List.append_nil]
  rfl

/-- An INACTIVE line judges its pin: ACTIVE at once, or with a change pending, or as it was (R130, R131). -/
theorem startPin_of_inactive {s : State} {l : LineId} (h : (s.lines.get l).accepted = .inactive) :
    startPin s l = putJudged s l s := by
  by_cases hactive : pinActive s l
  · have hbegins : startPin s l = beginChange l s := (if_pos hactive.1).trans (if_pos hactive.2)
    by_cases hdebounce : (s.lines.get l).debounce = 0
    · rw [hbegins, beginChange_of_immediate hdebounce, acceptChange_eq, h, putJudged, tells,
        if_pos ⟨hactive, hdebounce⟩, judgedLine_of_immediate ⟨hactive, hdebounce⟩]
      rfl
    · rw [hbegins, beginChange_of_debounced hdebounce, putJudged_of_silent fun hat => hdebounce hat.2,
        judgedLine_of_debounced hactive hdebounce]
  · have hquiet : startPin s l = s := by
      unfold startPin judgePin
      split
      next hmode => exact if_neg fun hpin => hactive ⟨hmode, hpin⟩
      · rfl
    rw [hquiet, putJudged_of_silent fun hat => hactive hat.1, judgedLine_of_quiet hactive]
    exact (congrArg s.setLines (upd_get_eq s.lines l)).symm

/-- The state after these lines have judged their pins, in this order. -/
def pinsJudged (s : State) (ls : List LineId) : State :=
  linesStand (Vector.ofFn fun l => if l ∈ ls then judgedLine s l else s.lines.get l)
    (Vector.ofFn fun l => s.wires.linesToRules.get l ++ if l ∈ ls then tells s l else [])
    (s.wires.offers ++ ls.flatMap fun l => (tells s l).map contactReport) s

theorem pinsJudged_line (s : State) (ls : List LineId) (l : LineId) :
    (pinsJudged s ls).lines.get l = if l ∈ ls then judgedLine s l else s.lines.get l := Vector.get_ofFn _ l

theorem pinsJudged_path (s : State) (ls : List LineId) (l : LineId) :
    (pinsJudged s ls).wires.linesToRules.get l = s.wires.linesToRules.get l ++ if l ∈ ls then tells s l else [] :=
  Vector.get_ofFn _ l

theorem pinsJudged_offers (s : State) (ls : List LineId) :
    (pinsJudged s ls).wires.offers = s.wires.offers ++ ls.flatMap fun l => (tells s l).map contactReport := rfl

theorem pinsJudged_nil (s : State) : pinsJudged s [] = s := by
  have hlines : (Vector.ofFn fun l => s.lines.get l) = s.lines := ext_of_get fun l => Vector.get_ofFn _ l
  have hpath : (Vector.ofFn fun l => s.wires.linesToRules.get l) = s.wires.linesToRules :=
    ext_of_get fun l => Vector.get_ofFn _ l
  simp only [pinsJudged, List.not_mem_nil, if_false, List.append_nil, List.flatMap_nil, hlines, hpath]
  rfl

/-- A line that has not judged its pin yet does so as it would have before the others. -/
theorem putJudged_pinsJudged {s : State} {ls : List LineId} {l : LineId} (hl : l ∉ ls) (u : State) :
    putJudged (pinsJudged s ls) l u = putJudged s l u := by
  have hline : (pinsJudged s ls).lines.get l = s.lines.get l := by rw [pinsJudged_line, if_neg hl]
  have hpins : (pinsJudged s ls).extPins = s.extPins := rfl
  have hnow : (pinsJudged s ls).now = s.now := rfl
  simp only [putJudged, judgedLine, tells, activeAtOnce, pinActive, hline, hpins, hnow]

theorem pinsJudged_append (s : State) {ls : List LineId} {l : LineId} (hl : l ∉ ls) :
    pinsJudged s (ls ++ [l]) = putJudged s l (pinsJudged s ls) := by
  have hlines : (pinsJudged s (ls ++ [l])).lines = upd (pinsJudged s ls).lines l (judgedLine s l) :=
    ext_of_get fun k => by
      rw [pinsJudged_line, upd_get, pinsJudged_line]
      by_cases hk : l = k
      · simp [hk]
      · simp [hk, Ne.symm hk]
  have hpath : (pinsJudged s (ls ++ [l])).wires.linesToRules = upd (pinsJudged s ls).wires.linesToRules l
      ((pinsJudged s ls).wires.linesToRules.get l ++ tells s l) := ext_of_get fun k => by
    rw [pinsJudged_path, upd_get, pinsJudged_path, pinsJudged_path]
    by_cases hk : l = k
    · subst hk
      simp [hl]
    · simp [hk, Ne.symm hk]
  have hoffers : (pinsJudged s (ls ++ [l])).wires.offers =
      (pinsJudged s ls).wires.offers ++ (tells s l).map contactReport := by
    simp only [pinsJudged_offers, List.flatMap_append, List.flatMap_singleton, List.append_assoc]
  rw [putJudged, ← hlines, ← hpath, ← hoffers]
  rfl

theorem foldl_startPin {s : State} (h : ∀ l, (s.lines.get l).accepted = .inactive) {ls : List LineId}
    (hnodup : ls.Nodup) : ls.foldl startPin s = pinsJudged s ls := by
  induction ls using List.reverseRecOn with
  | nil => exact (pinsJudged_nil s).symm
  | append_singleton ls l ih =>
    obtain ⟨hls, -, hdisjoint⟩ := List.nodup_append.mp hnodup
    have hl : l ∉ ls := fun hmem => hdisjoint l hmem l (List.mem_singleton_self l) rfl
    have hinactive : ((pinsJudged s ls).lines.get l).accepted = .inactive := by
      rw [pinsJudged_line, if_neg hl, h]
    rw [List.foldl_append, ih hls, List.foldl_cons, List.foldl_nil, startPin_of_inactive hinactive,
      putJudged_pinsJudged hl, pinsJudged_append s hl]

/-- A full reset: the blocks start, and every line judges its pin (R126, R130, R207). -/
theorem fullReset_eq (straps : Straps) (rate : HostRate) (std : Standard) (s : State) :
    fullReset straps rate std s = pinsJudged (startBlocks straps rate std s) (allIds 8) :=
  foldl_startPin (fun l => by rw [startBlocks, Vector.get_map]; rfl) (List.nodup_finRange 8)

/-- With nothing on its way at time 0, the paths after every line has judged its pin (R131). -/
theorem pinsJudged_wires {s : State} (hwires : s.wires = Wires.empty) (hnow : s.now = 0) :
    (pinsJudged s (allIds 8)).wires = { Wires.empty with
      linesToRules := Vector.ofFn fun l => if activeAtOnce s l then [⟨l, .inactive, .active, 0⟩] else []
      offers := (allIds 8).filterMap fun l =>
        if activeAtOnce s l then some ⟨0, 1, l.val + 1, .contact .inactive .active⟩ else none } := by
  have hpath : (Vector.ofFn fun l => s.wires.linesToRules.get l ++ if l ∈ allIds 8 then tells s l else []) =
      Vector.ofFn fun l => if activeAtOnce s l then [(⟨l, .inactive, .active, 0⟩ : LineChange)] else [] := by
    refine congrArg Vector.ofFn (funext fun l => ?_)
    have hempty : s.wires.linesToRules.get l = [] := by rw [hwires]; exact Vector.get_replicate _ _ l
    rw [hempty, List.nil_append, tells, hnow]
    exact if_pos (List.mem_finRange l)
  have hoffers : (s.wires.offers ++ (allIds 8).flatMap fun l => (tells s l).map contactReport) =
      (allIds 8).filterMap fun l =>
        if activeAtOnce s l then some ⟨0, 1, l.val + 1, .contact .inactive .active⟩ else none := by
    have hnone : s.wires.offers = [] := by rw [hwires]; rfl
    rw [hnone, List.nil_append, List.filterMap_eq_flatMap_toList]
    refine congrArg ((allIds 8).flatMap ·) (funext fun l => ?_)
    rw [tells, hnow]
    split <;> rfl
  rw [pinsJudged, hpath, hoffers, linesStand, State.setWires_wires, hwires]

/-! ### The configuration that is loaded (R197, R203, R206) -/

/-- A slot that is valid and passes the checks of R203, with its profile. -/
def Fits (x : ProfileStore) (id : SlotId) (p : Profile) : Prop :=
  (judgeSlot (slotOf id x)).isSome ∧ checkedProfile (slotOf id x) = some p

theorem slotOf_rebuiltStore (id : SlotId) (x : ProfileStore) : slotOf id (rebuiltStore x) = slotOf id x := by
  cases id <;> rfl

theorem dirOf_rebuiltStore (id : SlotId) (x : ProfileStore) : dirOf id (rebuiltStore x) = judgeSlot (slotOf id x) := by
  cases id <;> rfl

theorem usable_of_fits {x : ProfileStore} {id : SlotId} {p : Profile} (h : Fits x id p) :
    usable (rebuiltStore x) id = some (id, p) := by
  obtain ⟨hvalid, hchecked⟩ := h
  rw [usable, dirOf_rebuiltStore, slotOf_rebuiltStore, if_pos hvalid, hchecked]
  rfl

theorem usable_of_unfit {x : ProfileStore} {id : SlotId} (h : ∀ p, ¬ Fits x id p) :
    usable (rebuiltStore x) id = none := by
  rw [usable, dirOf_rebuiltStore, slotOf_rebuiltStore]
  split
  next hvalid =>
    rw [Option.map_eq_none_iff, Option.eq_none_iff_forall_ne_some]
    exact fun p hchecked => h p ⟨hvalid, hchecked⟩
  · rfl

theorem chosenSlot_of_newest {x : ProfileStore} {id : SlotId} (h : newest x = some id) :
    chosenSlot .low x = (usable x id).or (usable x (otherSlot id)) := by
  simp only [chosenSlot, h]

theorem chosenSlot_of_none {x : ProfileStore} (h : newest x = none) (s3 : Level) : chosenSlot s3 x = none := by
  cases s3 <;> simp only [chosenSlot, h]

/-- The pins do not enter the configuration. -/
theorem runningProfile_pinsJudged (s : State) (ls : List LineId) :
    runningProfile (pinsJudged s ls) = runningProfile s := by
  have hlines : (runningProfile (pinsJudged s ls)).lines = (runningProfile s).lines := ext_of_get fun l => by
    simp only [runningProfile, Vector.get_map, pinsJudged_line]
    split
    · rw [judgedLine_mode, judgedLine_activeLevel, judgedLine_debounce]
    · rfl
  exact congrArg (fun lines => { runningProfile s with lines := lines }) hlines

/-- Every block starts from its part of the profile that is loaded (R197, R206). -/
theorem runningProfile_startBlocks (straps : Straps) (rate : HostRate) (std : Standard) (s : State) :
    runningProfile (startBlocks straps rate std s) =
      loadedProfile (chosenSlot straps.s3 (rebuiltStore s.store)) := by
  obtain ⟨p, hp⟩ : ∃ p, p = loadedProfile (chosenSlot straps.s3 (rebuiltStore s.store)) := ⟨_, rfl⟩
  rw [← hp]
  have hcameras : (p.cameras.map startCamera).map (fun c => (⟨c.enabled, c.parity⟩ : CameraConfig)) = p.cameras :=
    ext_of_get fun c => by rw [Vector.get_map, Vector.get_map]; rfl
  have hzones : (startZones p).table.map (Option.map (·.cfg)) = p.zones := ext_of_get fun z => by
    rw [Vector.get_map, startZones, Vector.get_map]
    cases p.zones.get z <;> rfl
  have hrules : (startRules p).table.map (Option.map (·.cfg)) = p.rules := ext_of_get fun r => by
    rw [Vector.get_map, startRules, Vector.get_map]
    cases p.rules.get r <;> rfl
  have hlines : (p.lines.map startLine).map (fun l => (⟨l.mode, l.activeLevel, l.debounce⟩ : LineConfig)) = p.lines :=
    ext_of_get fun l => by rw [Vector.get_map, Vector.get_map]; rfl
  simp only [runningProfile, startBlocks, ← hp, hcameras, hzones, hrules, hlines]
  rfl

section
variable {straps : Straps} {rate : HostRate} {std : Standard} {s : State} {ls : List LineId}

theorem started_loads {id : SlotId} {p : Profile} (hfits : Fits s.store id p)
    (hchosen : chosenSlot straps.s3 (rebuiltStore s.store) = some (id, p)) :
    (pinsJudged (startBlocks straps rate std s) ls).store.startSource = some id ∧
    (pinsJudged (startBlocks straps rate std s) ls).store.startGen = some (slotOf id s.store).generation ∧
    runningProfile (pinsJudged (startBlocks straps rate std s) ls) = p := by
  have hstore : (pinsJudged (startBlocks straps rate std s) ls).store =
      startStore (some (id, p)) (rebuiltStore s.store) := by
    rw [← hchosen]
    rfl
  have hdir : dirOf id (rebuiltStore s.store) = some ⟨(slotOf id s.store).generation, (slotOf id s.store).length⟩ :=
    (dirOf_rebuiltStore id s.store).trans (judgeSlot_of_valid ((judgeSlot_isSome_iff _).mp hfits.1))
  refine ⟨by rw [hstore]; rfl, ?_, by rw [runningProfile_pinsJudged, runningProfile_startBlocks, hchosen]; rfl⟩
  simp only [hstore, startStore, Option.bind_some, hdir, Option.map_some]

theorem started_factory (hchosen : chosenSlot straps.s3 (rebuiltStore s.store) = none) :
    (pinsJudged (startBlocks straps rate std s) ls).store.startSource = none ∧
    (pinsJudged (startBlocks straps rate std s) ls).store.startGen = none ∧
    runningProfile (pinsJudged (startBlocks straps rate std s) ls) = factoryProfile := by
  have hstore : (pinsJudged (startBlocks straps rate std s) ls).store = startStore none (rebuiltStore s.store) := by
    rw [← hchosen]
    rfl
  exact ⟨by rw [hstore]; rfl, by rw [hstore]; rfl,
    by rw [runningProfile_pinsJudged, runningProfile_startBlocks, hchosen]; rfl⟩

end

/-- The report queue holds the start-up report alone (R114, R115, R207). -/
theorem pinsJudged_startRecord (straps : Straps) (rate : HostRate) (std : Standard) (s : State) (ls : List LineId) :
    let t := pinsJudged (startBlocks straps rate std s) ls
    t.reports.records = [⟨1, ⟨0, 2, slotCode t.store.startSource,
      .profile (if t.store.startSource.isSome then .loaded else .factory) t.store.startGen⟩, .unsent⟩] := rfl

/-! ### The runtime records at the start (R2, R45, R51) -/

/-- Where no camera is LOCKED a zone is placed BLIND, or OFF when it is not enabled (R31, R45). -/
theorem placedZone_of_unlocked {e : ZoneEngine} (h : ∀ c, (e.camCopy.get c).state ≠ .locked) (cfg : ZoneConfig) :
    (placedZone e cfg).run.state = if (placedZone e cfg).cfg.enabled then .blind else .off := by
  have hvisible : zoneVisible e cfg = false := by simp [zoneVisible, h]
  simp only [placedZone, clearedRun, placement, hvisible, Bool.false_eq_true, if_false]

theorem started_camera (straps : Straps) (rate : HostRate) (std : Standard) (s : State) (ls : List LineId)
    (c : CameraId) : ∃ cfg, (pinsJudged (startBlocks straps rate std s) ls).cams.get c = startCamera cfg :=
  ⟨_, Vector.get_map ..⟩

theorem startCameraState_ne_locked (cfg : CameraConfig) : startCameraState cfg ≠ .locked := by
  unfold startCameraState
  split <;> decide

end Sys2Proof.Machine

namespace Sys2Proof.StartUp

open Sys2Proof.Machine Sys2Proof.Safety

/-- Settles O4: the blocks as they start, the slot that is loaded, and the lines as they judge their pins. -/
theorem fullReset : Obligations.FullReset := by
  refine ⟨fun straps s => ?values, fun straps s => ?records, fun straps s => ?lines⟩
  case values =>
    refine ⟨pinsJudged (startBlocks straps (strapRate straps) (strapStandard straps) s) (allIds 8),
      congrArg Host.Outcome.next (fullReset_eq ..), congrArg Host.Outcome.next (fullReset_eq ..), ?_⟩
    generalize allIds 8 = ls
    refine ⟨rfl, rfl, rfl, rfl, rfl, rfl, rfl, rfl, rfl, pinsJudged_startRecord .., rfl, rfl, rfl, rfl, rfl, rfl, rfl,
      rfl, rfl, rfl, rfl, rfl, rfl, ?_⟩
    intro newest other factory loads fits
    refine ⟨fun hhigh => started_factory (by rw [hhigh]; rfl),
      fun _ hnone => started_factory (chosenSlot_of_none (x := rebuiltStore s.store) hnone _),
      fun id hlow hnewest => ?_⟩
    have hchosen := chosenSlot_of_newest (x := rebuiltStore s.store) hnewest
    rw [← hlow] at hchosen
    have hother : other id = otherSlot id := by cases id <;> rfl
    rw [hother]
    refine ⟨fun p hp => started_loads hp ?_, fun p hunfit hp => started_loads hp ?_,
      fun hunfit hunfit' => started_factory ?_⟩
    · rw [hchosen, usable_of_fits hp, Option.some_or]
    · rw [hchosen, usable_of_unfit hunfit, usable_of_fits hp, Option.none_or]
    · rw [hchosen, usable_of_unfit hunfit, usable_of_unfit hunfit', Option.none_or]
  case records =>
    refine ⟨_, congrArg Host.Outcome.next (fullReset_eq ..), map_keeps fun _ => rfl,
      Vector.get_replicate _ _, Vector.get_replicate _ _, map_keeps (placedZone_of_unlocked fun c => ?_), fun c => ?_⟩
    · rw [Vector.get_map]
      exact startCameraState_ne_locked _
    · obtain ⟨cfg, hcam⟩ := started_camera straps (strapRate straps) (strapStandard straps) s (allIds 8) c
      rw [hcam]
      exact ⟨rfl, rfl, rfl⟩
  case lines =>
    refine ⟨_, congrArg Host.Outcome.next (fullReset_eq ..), rfl, ?_⟩
    obtain ⟨b, hb⟩ : ∃ b, b = startBlocks straps (strapRate straps) (strapStandard straps) s := ⟨_, rfl⟩
    have hpins : b.extPins = s.extPins := by rw [hb]; rfl
    have hnow : b.now = 0 := by rw [hb]; rfl
    have hwires : b.wires = Wires.empty := by rw [hb]; rfl
    have hline : ∀ l, (pinsJudged b (allIds 8)).lines.get l = judgedLine b l := fun l =>
      (pinsJudged_line ..).trans (if_pos (List.mem_finRange l))
    rw [← hb]
    intro active
    have hactive : ∀ l, active l ↔ pinActive b l := fun l => by
      simp only [active, hline, judgedLine_mode, judgedLine_activeLevel, ← hpins]
    have hat : ∀ l, active l ∧ ((pinsJudged b (allIds 8)).lines.get l).debounce = 0 ↔ activeAtOnce b l :=
      fun l => by rw [hactive, hline, judgedLine_debounce]
    refine ⟨fun l => ?_, ?_⟩
    · obtain ⟨cfg, hcfg⟩ : ∃ cfg, b.lines.get l = startLine cfg := ⟨_, by rw [hb]; exact Vector.get_map ..⟩
      obtain ⟨hdrive, hclaimants, hpulse, hasserted⟩ := judgedLine_output hcfg
      rw [hactive, hline, judgedLine_debounce]
      refine ⟨hdrive, hclaimants, hpulse, hasserted, fun hquiet => ?_, fun hpin hne => ?_, fun hpin hzero => ?_⟩
      · rw [judgedLine_of_quiet hquiet, hcfg]
        exact ⟨rfl, rfl⟩
      · rw [judgedLine_of_debounced hpin hne, hnow, hcfg]
        exact ⟨rfl, rfl⟩
      · rw [judgedLine_of_immediate ⟨hpin, hzero⟩]
        exact ⟨rfl, rfl⟩
    · rw [pinsJudged_wires hwires hnow]
      refine congrArg₂ (fun path offers => { Wires.empty with linesToRules := path, offers := offers })
        (congrArg Vector.ofFn (funext fun l => ?_)) (List.filterMap_congr fun l _ => ?_)
      · exact if_congr (hat l).symm rfl rfl
      · exact if_congr (hat l).symm rfl rfl

end Sys2Proof.StartUp
end

section
/-! One step (log 3): the equations of `step` for a queue with a command waiting and for an empty one. -/

namespace Sys2Proof.Machine

theorem step_of_pending_cons {s : State} {c : Instr} {rest : List Instr} (h : s.pending = c :: rest) :
    step s = exec c (s.setPending rest) := by
  simp only [step, h]

theorem step_of_pending_nil {s : State} (h : s.pending = []) : step s = .next s := by
  simp only [step, h]

end Sys2Proof.Machine

namespace Sys2Proof.Stepping

open Sys2Proof.Machine

/-- Settles O1, by the equation of `step` for each of the two shapes of the queue. -/
theorem stepTakesFront : Obligations.StepTakesFront :=
  ⟨fun _ _ _ => step_of_pending_cons, fun _ => step_of_pending_nil⟩

end Sys2Proof.Stepping
end

section
/-! The request set and the rotation (R79, R80, R84): the top request, the eviction candidate, and the order of the
search. -/

namespace Sys2Proof.Machine

open Sys2Proof.Safety

/-! ### The top request and the eviction candidate (R84) -/

/-- The first request of a list with the largest key. -/
def firstLargest (key : Request → Int) : List Request → Option Request
  | [] => none
  | r :: rs => match firstLargest key rs with
    | some t => if key r < key t then some t else some r
    | none => some r

theorem topRequest_eq_firstLargest (rs : List Request) :
    topRequest rs = firstLargest (fun q => (q.priority : Int)) rs := by
  induction rs with
  | nil => rfl
  | cons r rs ih =>
    unfold topRequest firstLargest
    rw [ih]
    cases firstLargest _ rs with
    | none => rfl
    | some t => exact if_congr Int.ofNat_lt.symm rfl rfl

theorem evictionCandidate_eq_firstLargest (rs : List Request) :
    evictionCandidate rs = firstLargest (fun q => -(q.priority : Int)) rs := by
  induction rs with
  | nil => rfl
  | cons r rs ih =>
    unfold evictionCandidate firstLargest
    rw [ih]
    cases firstLargest _ rs with
    | none => rfl
    | some t => exact if_congr (Int.neg_lt_neg_iff.trans Int.ofNat_lt).symm rfl rfl

/-- It exists whenever the list is not empty; those before it have a smaller key, those behind it no larger one. -/
theorem firstLargest_split (key : Request → Int) {rs : List Request} (h : rs ≠ []) :
    ∃ q before behind, firstLargest key rs = some q ∧ rs = before ++ q :: behind ∧
      (∀ x ∈ before, key x < key q) ∧ ∀ x ∈ behind, key x ≤ key q := by
  induction rs with
  | nil => exact absurd rfl h
  | cons r rs ih =>
    unfold firstLargest
    by_cases hnil : rs = []
    · subst hnil
      exact ⟨r, [], [], rfl, rfl, by simp, by simp⟩
    · obtain ⟨t, before, behind, htop, hsplit, hbefore, hbehind⟩ := ih hnil
      rw [htop]
      dsimp only
      split
      next hlt =>
        exact ⟨t, r :: before, behind, rfl, by rw [hsplit]; rfl, List.forall_mem_cons.mpr ⟨hlt, hbefore⟩, hbehind⟩
      next hle =>
        refine ⟨r, [], rs, rfl, rfl, by simp, ?_⟩
        rw [hsplit, List.forall_mem_append, List.forall_mem_cons]
        exact ⟨fun x hx => (hbefore x hx).le.trans (not_lt.mp hle), not_lt.mp hle,
          fun x hx => (hbehind x hx).trans (not_lt.mp hle)⟩

theorem topRequest_split {rs : List Request} (h : rs ≠ []) :
    ∃ q before behind, topRequest rs = some q ∧ rs = before ++ q :: behind ∧
      (∀ x ∈ before, x.priority < q.priority) ∧ ∀ x ∈ behind, x.priority ≤ q.priority := by
  simpa only [topRequest_eq_firstLargest, Int.ofNat_lt, Int.ofNat_le] using
    firstLargest_split (fun q => (q.priority : Int)) h

theorem evictionCandidate_split {rs : List Request} (h : rs ≠ []) :
    ∃ q before behind, evictionCandidate rs = some q ∧ rs = before ++ q :: behind ∧
      (∀ x ∈ before, q.priority < x.priority) ∧ ∀ x ∈ behind, q.priority ≤ x.priority := by
  simpa only [evictionCandidate_eq_firstLargest, Int.neg_lt_neg_iff, Int.neg_le_neg_iff, Int.ofNat_lt, Int.ofNat_le]
    using firstLargest_split (fun q => -(q.priority : Int)) h

theorem mem_of_topRequest {rs : List Request} {q : Request} (h : topRequest rs = some q) : q ∈ rs := by
  have hne : rs ≠ [] := fun hnil => by rw [hnil] at h; cases h
  obtain ⟨t, before, behind, htop, hsplit, _⟩ := topRequest_split hne
  cases h.symm.trans htop
  exact hsplit ▸ List.mem_append_right _ List.mem_cons_self

theorem mem_of_evictionCandidate {rs : List Request} {q : Request} (h : evictionCandidate rs = some q) : q ∈ rs := by
  have hne : rs ≠ [] := fun hnil => by rw [hnil] at h; cases h
  obtain ⟨t, before, behind, hleast, hsplit, _⟩ := evictionCandidate_split hne
  cases h.symm.trans hleast
  exact hsplit ▸ List.mem_append_right _ List.mem_cons_self

/-- Without a hold the top request is the source that is chosen (R84, R89). -/
theorem sourceChoice_of_topRequest {sc : Scheduler} {q : Request} (hhold : sc.hold = none)
    (htop : topRequest sc.requests = some q) : sourceChoice sc = .request q := by
  simp only [sourceChoice, hhold, htop]

/-! ### The search (R79, R80) -/

theorem viewShowable_iff (sc : Scheduler) (v : ViewId) : viewShowable sc v = true ↔
    ∃ cfg c, sc.views.get v = some cfg ∧ some c ∈ cfg.tiles ∧ sc.camCopy.get c = .locked := by
  unfold viewShowable
  split
  next cfg hcfg =>
    simp only [hcfg, List.any_eq_true, Option.some.injEq]
    constructor
    · rintro ⟨tile, hmem, hlocked⟩
      cases tile with
      | none => cases hlocked
      | some c => exact ⟨cfg, c, rfl, hmem, by simpa using hlocked⟩
    · rintro ⟨_, c, rfl, hmem, hlocked⟩
      exact ⟨some c, hmem, by simpa using hlocked⟩
  next hnone => simp [hnone]

/-- A position is showable when its entry's dwell is above 0 and a tile of its view names a LOCKED camera (R79, R80). -/
theorem positionShowable_iff (sc : Scheduler) (k : Nat) : positionShowable sc k = true ↔
    ∃ (e : RotationEntry) (cfg : ViewConfig) (c : CameraId), sc.rotation[k]? = some e ∧ 0 < e.dwell ∧
      sc.views.get e.view = some cfg ∧ some c ∈ cfg.tiles ∧ sc.camCopy.get c = .locked := by
  unfold positionShowable
  split
  next e he =>
    simp only [entryShowable, Bool.and_eq_true, decide_eq_true_eq, viewShowable_iff, he, Option.some.injEq]
    constructor
    · rintro ⟨hdwell, cfg, c, hview⟩
      exact ⟨e, cfg, c, rfl, hdwell, hview⟩
    · rintro ⟨_, cfg, c, rfl, hdwell, hview⟩
      exact ⟨hdwell, cfg, c, hview⟩
  next hnone => simp [hnone]

theorem lt_length_of_positionShowable {sc : Scheduler} {k : Nat} (h : positionShowable sc k = true) :
    k < sc.rotation.length := by
  obtain ⟨e, _, _, he, _⟩ := (positionShowable_iff sc k).mp h
  exact (List.getElem?_eq_some_iff.mp he).1

/-- The order of the search: from `k` up to the last, then from 0 (R80). -/
theorem searchOrder_eq {n k : Nat} (hk : k < n) :
    List.range' k (n - k) ++ List.range (min k n) = (List.range n).map fun d => (k + d) % n := by
  refine List.ext_getElem (by simp; omega) fun i hi _ => ?_
  simp only [List.length_append, List.length_range', List.length_range] at hi
  rw [List.getElem_append]
  simp only [List.length_range', List.getElem_range', List.getElem_range, List.getElem_map]
  split
  · rw [Nat.mod_eq_of_lt] <;> omega
  · rw [show k + i = (i - (n - k)) + n by omega, Nat.add_mod_right, Nat.mod_eq_of_lt] ; omega

/-- The steps from `k` to a position in the order of the search. -/
theorem steps_of_position {n k i : Nat} (hk : k < n) (hi : i < n) :
    (k + (i + n - k) % n) % n = i := by
  rw [Nat.add_mod_mod, show k + (i + n - k) = i + n by omega, Nat.add_mod_right, Nat.mod_eq_of_lt hi]

theorem search_eq_none_iff {sc : Scheduler} {k : Nat} (hk : k < sc.rotation.length) :
    search sc k = none ↔ ∀ i, ¬ positionShowable sc i = true := by
  unfold search
  rw [searchOrder_eq hk, List.find?_eq_none]
  constructor
  · intro hnone i hi
    have hlt := lt_length_of_positionShowable hi
    refine hnone i (List.mem_map.mpr ⟨(i + sc.rotation.length - k) % sc.rotation.length, ?_, ?_⟩) hi
    · exact List.mem_range.mpr (Nat.mod_lt _ (by omega))
    · exact steps_of_position hk hlt
  · exact fun hnone x _ => hnone x

/-- What the search yields is showable, and no showable position stands before it in the order of the search (R80). -/
theorem search_eq_some {sc : Scheduler} {k j : Nat} (hk : k < sc.rotation.length) (h : search sc k = some j) :
    positionShowable sc j = true ∧ ∀ i < sc.rotation.length, positionShowable sc i = true →
      (j + sc.rotation.length - k) % sc.rotation.length ≤ (i + sc.rotation.length - k) % sc.rotation.length := by
  unfold search at h
  rw [searchOrder_eq hk] at h
  have hshow : positionShowable sc j = true := List.find?_some h
  refine ⟨hshow, fun i hi hishow => ?_⟩
  rw [List.find?_map, Option.map_eq_some_iff] at h
  obtain ⟨d, hd, rfl⟩ := h
  obtain ⟨_, hd, hbefore⟩ := List.find?_range_eq_some.mp hd
  have hsteps : ∀ x < sc.rotation.length,
      ((k + x) % sc.rotation.length + sc.rotation.length - k) % sc.rotation.length = x := fun x hx => by
    by_cases hwrap : k + x < sc.rotation.length
    · rw [Nat.mod_eq_of_lt hwrap, show k + x + sc.rotation.length - k = x + sc.rotation.length by omega,
        Nat.add_mod_right, Nat.mod_eq_of_lt hx]
    · rw [show k + x = k + x - sc.rotation.length + sc.rotation.length by omega, Nat.add_mod_right,
        Nat.mod_eq_of_lt (a := k + x - sc.rotation.length) (by omega), Nat.mod_eq_of_lt] <;> omega
  rw [hsteps d (List.mem_range.mp hd)]
  by_contra hearlier
  have hmissed := hbefore _ (not_le.mp hearlier)
  simp only [Function.comp_apply, steps_of_position hk hi, hishow] at hmissed
  cases hmissed

end Sys2Proof.Machine

namespace Sys2Proof.ViewSchedule

open Sys2Proof.Machine Sys2Proof.Safety

/-- Settles O23, by the split of the set at the first entry with the largest key. -/
theorem topAndCandidate : Obligations.TopAndCandidate :=
  ⟨fun _ => topRequest_split, fun _ => evictionCandidate_split, fun _ _ => sourceChoice_of_topRequest⟩

/-- Settles O24: the search runs over the positions in the order of their steps from `k`. -/
theorem searchFindsFirst : Obligations.SearchFindsFirst := by
  intro sc k hk showable
  have hshowable : ∀ i, showable i ↔ positionShowable sc i = true := fun i => (positionShowable_iff sc i).symm
  simp only [hshowable]
  exact ⟨search_eq_none_iff hk, fun _ => search_eq_some hk⟩

end Sys2Proof.ViewSchedule
end

section
/-! The presentation scheduler (chapter 04) apart from the host link controller: each of its operations commutes with a
change of the link, so that a host command's effect is that of its operation. -/

namespace Sys2Proof.Machine

open Sys2Proof.Safety

/-! ### Operations of the scheduler and changes of the link -/

theorem setLink_setSched (s : State) (l : HostLink) (x : Scheduler) :
    (s.setLink l).setSched x = (s.setSched x).setLink l := rfl

theorem selectSource_setLink (c : SourceChoice) (s : State) (l : HostLink) :
    selectSource c (s.setLink l) = (selectSource c s).setLink l := rfl

theorem endRequest_setLink (q : Request) (o : RequestOutcome) (s : State) (l : HostLink) :
    endRequest q o (s.setLink l) = (endRequest q o s).setLink l := rfl

theorem enterRequest_setLink (q : ViewRequest) (s : State) (l : HostLink) :
    enterRequest q (s.setLink l) = (enterRequest q s).setLink l := rfl

theorem endAndChoose_setLink (q : Request) (o : RequestOutcome) (s : State) (l : HostLink) :
    endAndChoose q o (s.setLink l) = (endAndChoose q o s).setLink l := by
  unfold endAndChoose
  rw [endRequest_setLink, chooseSource_setLink]
  exact (apply_ite (State.setLink · l) ..).symm

theorem takeWithdrawal_setLink (o : Origin) (s : State) (l : HostLink) :
    takeWithdrawal o (s.setLink l) = (takeWithdrawal o s).setLink l := by
  unfold takeWithdrawal
  rw [State.setLink_sched]
  cases requestOf o s.sched.requests with
  | none => rfl
  | some q => exact endAndChoose_setLink q _ s l

theorem preempt_setLink (s : State) (l : HostLink) : preempt (s.setLink l) = (preempt s).setLink l := by
  unfold preempt
  rw [chooseSource_setLink]
  show (if shownEnough s.now s.sched = true then _ else (deferSwitch s).setLink l) = _
  exact (apply_ite (State.setLink · l) ..).symm

theorem judgeEntry_setLink (o : Origin) (s : State) (l : HostLink) :
    judgeEntry o (s.setLink l) = (judgeEntry o s).setLink l := by
  unfold judgeEntry
  rw [State.setLink_sched, chooseSource_setLink, preempt_setLink]
  cases s.sched.source.state with
  | request => exact (apply_ite (State.setLink · l) ..).symm
  | _ => rfl

theorem enterOver_setLink (old : Request) (o : RequestOutcome) (q : ViewRequest) (s : State) (l : HostLink) :
    enterOver old o q (s.setLink l) = (enterOver old o q s).setLink l := by
  unfold enterOver
  dsimp only
  rw [endRequest_setLink, enterRequest_setLink, chooseSource_setLink, judgeEntry_setLink]
  exact (apply_ite (State.setLink · l) ..).symm

theorem takeRequest_setLink (q : ViewRequest) (s : State) (l : HostLink) :
    takeRequest q (s.setLink l) = ((takeRequest q s).1, (takeRequest q s).2.setLink l) := by
  unfold takeRequest
  simp only [State.setLink_sched, enterOver_setLink, enterRequest_setLink, judgeEntry_setLink]
  repeat' split
  all_goals rfl

theorem advance_setLink (s : State) (l : HostLink) : advance (s.setLink l) = (advance s).setLink l := by
  unfold advance
  rw [setLink_setSched, chooseSource_setLink]
  rfl

theorem advanceUnshowable_setLink (s : State) (l : HostLink) :
    advanceUnshowable (s.setLink l) = (advanceUnshowable s).setLink l := by
  unfold advanceUnshowable
  rw [advance_setLink]
  exact (apply_ite (State.setLink · l) ..).symm

theorem elapseDeferral_setLink (s : State) (l : HostLink) :
    elapseDeferral (s.setLink l) = (elapseDeferral s).setLink l := by
  unfold elapseDeferral
  dsimp only [State.setLink_sched]
  rw [setLink_setSched, chooseSource_setLink]
  cases s.sched.source.state with
  | rotating => exact (apply_ite (State.setLink · l) ..).symm
  | _ => rfl

theorem putView_setLink (v : ViewId) (cfg : ViewConfig) (s : State) (l : HostLink) :
    putView v cfg (s.setLink l) = (putView v cfg s).setLink l := by
  unfold putView
  dsimp only [State.setLink_sched]
  rw [setLink_setSched, chooseSource_setLink, advanceUnshowable_setLink]
  cases s.sched.source.state <;> rfl

theorem setRotation_setLink (es : List RotationEntry) (s : State) (l : HostLink) :
    setRotation es (s.setLink l) = (setRotation es s).setLink l := by
  unfold setRotation
  dsimp only [State.setLink_sched]
  rw [setLink_setSched, chooseSource_setLink]
  cases s.sched.source.state <;> rfl

theorem setMinShow_setLink (m : Nat) (s : State) (l : HostLink) :
    setMinShow m (s.setLink l) = (setMinShow m s).setLink l := by
  unfold setMinShow
  dsimp only [State.setLink_sched]
  rw [setLink_setSched, elapseDeferral_setLink]
  cases s.sched.source.deferral with
  | none => rfl
  | some d =>
    dsimp only
    rw [setLink_setSched]
    exact (apply_ite (State.setLink · l) ..).symm

theorem setHold_setLink (v : ViewId) (s : State) (l : HostLink) :
    setHold v (s.setLink l) = (setHold v s).setLink l := by
  unfold setHold
  rw [setLink_setSched, selectSource_setLink]
  exact (apply_ite (State.setLink · l) ..).symm

theorem releaseHold_setLink (s : State) (l : HostLink) : releaseHold (s.setLink l) = (releaseHold s).setLink l := by
  unfold releaseHold
  dsimp only [State.setLink_sched]
  rw [setLink_setSched, chooseSource_setLink]
  cases s.sched.hold <;> rfl

/-! ### A hold and its release (R88) -/

theorem selectSource_hold (v : ViewId) (s : State) :
    selectSource (.hold v) s = newSource ⟨.hold, s.sched.source.index, none, s.now, none, none⟩
      (s.sched.requests.map (paused s.now)) (.hold v) s := by
  simp only [selectSource, requestsUnder, sourceUnder, presentationOf, newSource, pauseRequest_eq]

theorem setHold_of_held {v : ViewId} {s : State} (hstate : s.sched.source.state = .hold)
    (hheld : s.sched.hold = some v) : setHold v s = s :=
  if_pos ⟨hstate, hheld⟩

theorem setHold_of_other {v : ViewId} {s : State} (h : s.sched.source.state ≠ .hold ∨ s.sched.hold ≠ some v) :
    setHold v s = newSource ⟨.hold, s.sched.source.index, none, s.now, none, none⟩
      (s.sched.requests.map (paused s.now)) (.hold v) (s.setSched { s.sched with hold := some v }) := by
  unfold setHold
  rw [if_neg (fun hboth => h.elim (absurd hboth.1) (absurd hboth.2)), selectSource_hold]
  rfl

theorem releaseHold_of_none {s : State} (h : s.sched.hold = none) : releaseHold s = s := by
  simp only [releaseHold, h]

theorem releaseHold_of_held {v : ViewId} {s : State} (h : s.sched.hold = some v) :
    releaseHold s = chooseSource (s.setSched { s.sched with hold := none }) := by
  simp only [releaseHold, h]

theorem exec_release_taken {f : Frame} {rest : List Frame} {s : State} (hready : Ready 0x2F f rest s)
    (hpayload : f.payload = []) : ∃ t, exec .release s = .next t ∧ Taken f rest [0x00] s (releaseHold s) t :=
  ⟨_, rfl, takeKind_judged_taken (a := answerOk []) hready (parseNone_nil hpayload)
    (congrArg (Prod.mk (answerOk [])) (releaseHold_setLink ..))⟩

theorem exec_hold_absent {v : ViewId} {f : Frame} {rest : List Frame} {s : State} (hready : Ready 0x2E f rest s)
    (hparse : parseId 12 f.payload = .ok v) (hview : s.sched.views.get v = none) :
    ∃ t, exec .hold s = .next t ∧ Taken f rest [0x05] s s t :=
  ⟨_, rfl, takeKind_judged_taken (a := answerRefused .absent) hready hparse
    (by simp only [State.setLink_sched, hview, Option.isNone_none, if_true])⟩

theorem exec_hold_taken {v : ViewId} {f : Frame} {rest : List Frame} {s : State} (hready : Ready 0x2E f rest s)
    (hparse : parseId 12 f.payload = .ok v) (hview : (s.sched.views.get v).isSome) :
    ∃ t, exec .hold s = .next t ∧ Taken f rest [0x00] s (setHold v s) t :=
  ⟨_, rfl, takeKind_judged_taken (a := answerOk []) hready hparse
    (by simp only [State.setLink_sched, Option.isNone_eq_false_iff.mpr hview, Bool.false_eq_true, if_false,
      setHold_setLink])⟩

/-! ### The entry of a request (R85, R93) -/

theorem newEntry_remaining (now : Time) (q : ViewRequest) :
    owedDwell now (newEntry now q) = (newEntry now q).remaining :=
  rfl

theorem refuseRequest_eq {q : ViewRequest} {outcome : RequestOutcome} (s : State) (h : outcome ≠ .done) :
    refuseRequest q outcome s =
      s.offer (requestTold s.now (newEntry s.now q) outcome (newEntry s.now q).remaining) := by
  unfold refuseRequest requestReport requestTold
  rw [if_neg h, newEntry_remaining]

theorem preempt_eq (s : State) : preempt s = preempted s := by
  simp only [preempt, preempted, shownEnough, decide_eq_true_eq]
  rfl

theorem isTop_iff (o : Origin) (rs : List Request) :
    isTop o rs = true ↔ ∃ t, topRequest rs = some t ∧ t.origin = o := by
  unfold isTop
  cases topRequest rs <;> simp

/-- The judgement after an entry is R93's, where the entry is the only one of its origin. -/
theorem judgeEntry_judged {new : Request} {s : State}
    (hunique : ∀ x ∈ s.sched.requests, x.origin = new.origin → x = new) :
    EntryJudged new s (judgeEntry new.origin s) where
  hold h := by simp only [judgeEntry, h]
  blank h := by simp only [judgeEntry, h]
  rotating h := by simp only [judgeEntry, h, preempt_eq]
  top h htop := by
    have : isTop new.origin s.sched.requests = true := (isTop_iff ..).mpr ⟨new, htop, rfl⟩
    simp only [judgeEntry, h, this, if_true, preempt_eq]
  below h hbelow := by
    have : ¬ isTop new.origin s.sched.requests = true := fun htop => by
      obtain ⟨t, htop, horigin⟩ := (isTop_iff ..).mp htop
      exact hbelow (hunique t (mem_of_topRequest htop) horigin ▸ htop)
    simp only [judgeEntry, h, this, Bool.false_eq_true, if_false]

theorem enterRequest_eq (q : ViewRequest) (s : State) : enterRequest q s = requestEntered (newEntry s.now q) s := rfl

theorem requestOf_none_iff (o : Origin) (rs : List Request) : requestOf o rs = none ↔ ∀ x ∈ rs, x.origin ≠ o := by
  simp [requestOf]

theorem requestOf_some {o : Origin} {rs : List Request} {q : Request} (h : requestOf o rs = some q) :
    q ∈ rs ∧ q.origin = o :=
  ⟨List.mem_of_find?_eq_some h, by simpa using List.find?_some h⟩

/-- The judgement after the entry of a request whose origin no other entry has. -/
theorem judgeEntry_entered {now : Time} {q : ViewRequest} {s : State}
    (hfree : ∀ x ∈ s.sched.requests, x.origin ≠ q.origin) :
    EntryJudged (newEntry now q) (requestEntered (newEntry now q) s)
      (judgeEntry q.origin (requestEntered (newEntry now q) s)) := by
  refine judgeEntry_judged fun x hx horigin => ?_
  rcases List.mem_append.mp hx with hx | hx
  · exact absurd horigin (hfree x hx)
  · exact List.mem_singleton.mp hx

theorem onScreen_iff (s : State) (old : Request) : onScreen s.sched old.origin = true ↔ shownNow old s := by
  simp [onScreen, shownNow]

/-- What a request that enters over another leaves: the choice where that one was on screen, else R93's judgement. -/
theorem enterOver_cases {old : Request} {outcome : RequestOutcome} {q : ViewRequest} {s : State}
    (houtcome : outcome ≠ .done) (hfree : ∀ x ∈ s.sched.requests, x.origin = q.origin → x.origin = old.origin) :
    (shownNow old s → enterOver old outcome q s =
      chooseSource (requestEntered (newEntry s.now q) (requestEnded old outcome (owedDwell s.now old) s))) ∧
    (¬ shownNow old s → EntryJudged (newEntry s.now q)
      (requestEntered (newEntry s.now q) (requestEnded old outcome (owedDwell s.now old) s))
      (enterOver old outcome q s)) := by
  have hended := endRequest_eq old outcome (owedDwell s.now old) s (if_neg houtcome).symm
  have hentered : enterRequest q (requestEnded old outcome (owedDwell s.now old) s) =
      requestEntered (newEntry s.now q) (requestEnded old outcome (owedDwell s.now old) s) := rfl
  unfold enterOver
  rw [hended, hentered]
  refine ⟨fun hshown => if_pos ((onScreen_iff s old).mpr hshown), fun hshown => ?_⟩
  dsimp only
  rw [if_neg (mt (onScreen_iff s old).mp hshown)]
  refine judgeEntry_entered fun x hx horigin => ?_
  obtain ⟨hx, hother⟩ := List.mem_filter.mp hx
  exact bne_iff_ne.mp hother (hfree x hx horigin)

section
variable {q : ViewRequest} {s : State}

theorem takeRequest_of_undefined (h : (s.sched.views.get q.view).isNone) : takeRequest q s =
    (false, s.offer (requestTold s.now (newEntry s.now q) .restored (newEntry s.now q).remaining)) := by
  rw [takeRequest, if_pos h, refuseRequest_eq s (by decide)]

theorem takeRequest_of_replaced {old : Request} (hview : (s.sched.views.get q.view).isSome)
    (hold : requestOf q.origin s.sched.requests = some old) :
    takeRequest q s = (true, enterOver old .replaced q s) := by
  simp only [takeRequest, Option.isNone_eq_false_iff.mpr hview, Bool.false_eq_true, if_false, hold]

theorem takeRequest_of_room (hview : (s.sched.views.get q.view).isSome)
    (hnone : requestOf q.origin s.sched.requests = none) (hroom : ¬ 8 ≤ s.sched.requests.length) :
    takeRequest q s = (true, judgeEntry q.origin (requestEntered (newEntry s.now q) s)) := by
  simp only [takeRequest, Option.isNone_eq_false_iff.mpr hview, Bool.false_eq_true, if_false, hnone,
    not_le.mp hroom, if_true, enterRequest_eq]

theorem takeRequest_of_evicted {old : Request} (hview : (s.sched.views.get q.view).isSome)
    (hnone : requestOf q.origin s.sched.requests = none) (hfull : 8 ≤ s.sched.requests.length)
    (hold : evictionCandidate s.sched.requests = some old) (hlower : old.priority < q.priority) :
    takeRequest q s = (true, enterOver old .evicted q s) := by
  simp only [takeRequest, Option.isNone_eq_false_iff.mpr hview, Bool.false_eq_true, if_false, hnone,
    not_lt.mpr hfull, hold, hlower, if_true]

theorem takeRequest_of_full {old : Request} (hview : (s.sched.views.get q.view).isSome)
    (hnone : requestOf q.origin s.sched.requests = none) (hfull : 8 ≤ s.sched.requests.length)
    (hold : evictionCandidate s.sched.requests = some old) (hlower : q.priority ≤ old.priority) :
    takeRequest q s =
      (false, s.offer (requestTold s.now (newEntry s.now q) .refusedFull (newEntry s.now q).remaining)) := by
  simp only [takeRequest, Option.isNone_eq_false_iff.mpr hview, Bool.false_eq_true, if_false, hnone,
    not_lt.mpr hfull, hold, not_lt.mpr hlower, refuseRequest_eq s (show RequestOutcome.refusedFull ≠ .done by decide)]

/-- Of a full set there is a candidate for eviction (R84). -/
theorem evictionCandidate_of_full (hfull : 8 ≤ s.sched.requests.length) :
    ∃ old, evictionCandidate s.sched.requests = some old := by
  obtain ⟨old, _, _, hold, _⟩ := evictionCandidate_split (rs := s.sched.requests) fun hnil => by
    rw [hnil] at hfull; cases hfull
  exact ⟨old, hold⟩

/-- A request of a defined view is refused exactly when the set is full of other origins' requests of at least its
priority (R85). -/
theorem takeRequest_refused_iff (hview : (s.sched.views.get q.view).isSome) : (takeRequest q s).1 = false ↔
    8 ≤ s.sched.requests.length ∧ requestOf q.origin s.sched.requests = none ∧
      ∀ old, evictionCandidate s.sched.requests = some old → q.priority ≤ old.priority := by
  cases hsame : requestOf q.origin s.sched.requests with
  | some old => simp [takeRequest_of_replaced hview hsame]
  | none =>
    by_cases hfull : 8 ≤ s.sched.requests.length
    · obtain ⟨old, hold⟩ := evictionCandidate_of_full hfull
      by_cases hlower : old.priority < q.priority
      · simp [takeRequest_of_evicted hview hsame hfull hold hlower, hold, hlower]
      · simp [takeRequest_of_full hview hsame hfull hold (not_lt.mp hlower), hfull, hold, not_lt.mp hlower]
    · simp [takeRequest_of_room hview hsame hfull, hfull]

theorem exec_viewRequest_of_cons {rest : List ViewRequest} {s0 : State} (h : s0.wires.requests = q :: rest) :
    exec .viewRequest s0 = .next (takeRequest q (s0.setWires { s0.wires with requests := rest })).2 := by
  show execViewRequest s0 = _
  simp only [execViewRequest, h]

theorem exec_showView_absent {f : Frame} {rest : List Frame} (hready : Ready 0x2C f rest s)
    (hparse : parseShow f.payload = .ok q) (hview : s.sched.views.get q.view = none) :
    ∃ t, exec .showView s = .next t ∧ Taken f rest [0x05] s s t :=
  ⟨_, rfl, takeKind_judged_taken (a := answerRefused .absent) hready hparse
    (by simp only [State.setLink_sched, hview, Option.isNone_none, if_true])⟩

/-- SHOW_VIEW of a defined view is answered OK or FULL, by whether its request entered (R85, R183). -/
theorem exec_showView_taken {f : Frame} {rest : List Frame} (hready : Ready 0x2C f rest s)
    (hparse : parseShow f.payload = .ok q) (hview : (s.sched.views.get q.view).isSome) :
    ∃ t, exec .showView s = .next t ∧
      Taken f rest [if (takeRequest q s).1 = false then 0x07 else 0x00] s (takeRequest q s).2 t := by
  refine ⟨_, rfl, ?_⟩
  have htaken := fun a => takeKind_judged_taken (u := (takeRequest q s).2) (a := a) (parse := parseShow)
    (ap := fun q s => if (s.sched.views.get q.view).isNone then (answerRefused .absent, s)
      else match takeRequest q s with
        | (true, s') => (answerOk [], s')
        | (false, s') => (answerRefused .full, s')) hready hparse
  simp only [State.setLink_sched, Option.isNone_eq_false_iff.mpr hview, Bool.false_eq_true, if_false,
    takeRequest_setLink] at htaken
  cases h : (takeRequest q s).1 with
  | true => exact htaken (answerOk []) (by rw [h])
  | false => exact htaken (answerRefused .full) (by rw [h])

end

end Sys2Proof.Machine
end

section
/-! The ends of requests, the rotation, deferrals, the view commands and the restored schedule (R77, R78, R81, R82,
R86, R87, R90–R96, R101, R102). -/

namespace Sys2Proof.Machine

open Sys2Proof.Safety

/-! ### The ends of requests (R86, R87, R90) -/

section
variable {q : Request} {s : State}

theorem exec_dwellDeadlineExpiry_of_due {d : Time} (hq : requestOf q.origin s.sched.requests = some q)
    (hshown : shownNow q s) (hd : q.dwellDeadline = some d) (hreached : reached s.now d = true) :
    exec .dwellDeadlineExpiry s = .next (endAndChoose q .done s) := by
  have hdue : due s.now q.dwellDeadline = true := by rw [hd]; exact hreached
  show Host.Outcome.next (expireDwell s) = _
  simp only [expireDwell, hshown.2, hq, hdue, if_true]

theorem exec_lifetimeDeadlineExpiry_of_reached (hq : requestOf q.origin s.sched.requests = some q)
    (hreached : reached s.now q.lifetime = true) :
    exec (.lifetimeDeadlineExpiry q.origin) s = .next (endAndChoose q .expired s) := by
  show Host.Outcome.next (expireLifetime q.origin s) = _
  simp only [expireLifetime, hq, hreached, if_true]

theorem takeWithdrawal_of_some (hq : requestOf q.origin s.sched.requests = some q) :
    takeWithdrawal q.origin s = endAndChoose q .withdrawn s := by
  simp only [takeWithdrawal, hq]

theorem takeWithdrawal_of_none {o : Origin} (hnone : requestOf o s.sched.requests = none) : takeWithdrawal o s = s := by
  simp only [takeWithdrawal, hnone]

theorem exec_withdrawal_of_cons {o : Origin} {rest : List Origin} (h : s.wires.withdrawals = o :: rest) :
    exec .withdrawal s = .next (takeWithdrawal o (s.setWires { s.wires with withdrawals := rest })) := by
  show execWithdrawal s = _
  simp only [execWithdrawal, h]

theorem exec_withdraw_absent {f : Frame} {rest : List Frame} (hready : Ready 0x2D f rest s) (hpayload : f.payload = [])
    (hnone : requestOf .host s.sched.requests = none) :
    ∃ t, exec .withdraw s = .next t ∧ Taken f rest [0x05] s s t :=
  ⟨_, rfl, takeKind_judged_taken (a := answerRefused .absent) hready (parseNone_nil hpayload)
    (by simp only [State.setLink_sched, hnone])⟩

theorem exec_withdraw_taken {f : Frame} {rest : List Frame} (hready : Ready 0x2D f rest s) (hpayload : f.payload = [])
    (hq : requestOf .host s.sched.requests = some q) :
    ∃ t, exec .withdraw s = .next t ∧ Taken f rest [0x00] s (takeWithdrawal .host s) t :=
  ⟨_, rfl, takeKind_judged_taken (a := answerOk []) hready (parseNone_nil hpayload)
    (by simp only [State.setLink_sched, hq, takeWithdrawal_setLink])⟩

end

/-! ### The rotation and the deferral (R91, R92, R94, R95) -/

section
variable {s : State}

theorem exec_rotationDeadlineExpiry_of_due {d : Time} (hstate : s.sched.source.state = .rotating)
    (hd : s.sched.source.rotationDeadline = some d) (hreached : reached s.now d = true) :
    exec .rotationDeadlineExpiry s = .next (advance s) := by
  have hdue : due s.now s.sched.source.rotationDeadline = true := by rw [hd]; exact hreached
  exact congrArg Host.Outcome.next (if_pos ⟨hstate, hdue⟩)

/-- The state with the deferral discarded (R94). -/
def undeferred (s : State) : State :=
  s.setSched { s.sched with source := { s.sched.source with deferral := none } }

theorem elapseDeferral_of_request (h : s.sched.source.state = .request) :
    elapseDeferral s = chooseSource (undeferred s) := by
  simp only [elapseDeferral, undeferred, h]

theorem elapseDeferral_of_rotating (h : s.sched.source.state = .rotating) :
    elapseDeferral s = if s.sched.requests = [] then undeferred s else chooseSource (undeferred s) := by
  simp only [elapseDeferral, undeferred, h, List.isEmpty_iff]

theorem exec_deferralDeadlineExpiry_of_due {d : Time} (hd : s.sched.source.deferral = some d)
    (hreached : reached s.now d = true) : exec .deferralDeadlineExpiry s = .next (elapseDeferral s) := by
  have hdue : due s.now s.sched.source.deferral = true := by rw [hd]; exact hreached
  exact congrArg Host.Outcome.next (if_pos hdue)

theorem exec_cameraNoticeAtScheduler_of_cons {c : CameraId} {n : CameraNotice} {rest : List CameraNotice}
    (h : s.wires.camToSched.get c = n :: rest) : exec (.cameraNoticeAtScheduler c) s =
      .next (takeSchedNotice c n (s.setWires { s.wires with camToSched := upd s.wires.camToSched c rest })) := by
  show execCameraNoticeAtScheduler c s = _
  simp only [execCameraNoticeAtScheduler, dropSchedNotice, h, List.tail_cons]

theorem advanceUnshowable_of_showable (h : positionShowable s.sched s.sched.source.index = true) :
    advanceUnshowable s = s :=
  if_pos h

theorem advanceUnshowable_of_unshowable (h : positionShowable s.sched s.sched.source.index = false) :
    advanceUnshowable s = advance s :=
  if_neg (by simp [h])

theorem takeSchedNotice_of_rotating (c : CameraId) (n : CameraNotice) (h : s.sched.source.state = .rotating) :
    takeSchedNotice c n s = advanceUnshowable (s.setSched { s.sched with camCopy := upd s.sched.camCopy c n.new }) := by
  simp only [takeSchedNotice, h]

theorem takeSchedNotice_of_blank (c : CameraId) (n : CameraNotice) (h : s.sched.source.state = .blank) :
    takeSchedNotice c n s = if n.new = .locked then
        chooseSource (s.setSched { s.sched with camCopy := upd s.sched.camCopy c n.new })
      else s.setSched { s.sched with camCopy := upd s.sched.camCopy c n.new } := by
  simp only [takeSchedNotice, h]

theorem takeSchedNotice_of_shown (c : CameraId) (n : CameraNotice)
    (h : s.sched.source.state = .request ∨ s.sched.source.state = .hold) :
    takeSchedNotice c n s = s.setSched { s.sched with camCopy := upd s.sched.camCopy c n.new } := by
  rcases h with h | h <;> simp only [takeSchedNotice, h]

end

/-! ### The view commands (R77, R78, R81, R82, R96) -/

section
variable {s : State}

theorem putView_of_rotating (v : ViewId) (cfg : ViewConfig) (h : s.sched.source.state = .rotating) : putView v cfg s =
    advanceUnshowable (s.setSched { s.sched with views := upd s.sched.views v (some cfg) }) := by
  simp only [putView, h]

theorem putView_of_blank (v : ViewId) (cfg : ViewConfig) (h : s.sched.source.state = .blank) : putView v cfg s =
    chooseSource (s.setSched { s.sched with views := upd s.sched.views v (some cfg) }) := by
  simp only [putView, h]

theorem putView_of_shown (v : ViewId) (cfg : ViewConfig)
    (h : s.sched.source.state = .request ∨ s.sched.source.state = .hold) :
    putView v cfg s = s.setSched { s.sched with views := upd s.sched.views v (some cfg) } := by
  rcases h with h | h <;> simp only [putView, h]

theorem setRotation_of_rotation (es : List RotationEntry)
    (h : s.sched.source.state = .rotating ∨ s.sched.source.state = .blank) : setRotation es s =
      chooseSource (s.setSched { s.sched with rotation := es, source := { s.sched.source with index := 0 } }) := by
  rcases h with h | h <;> simp only [setRotation, h]

theorem setRotation_of_shown (es : List RotationEntry)
    (h : s.sched.source.state = .request ∨ s.sched.source.state = .hold) : setRotation es s =
      s.setSched { s.sched with rotation := es, source := { s.sched.source with index := 0 } } := by
  rcases h with h | h <;> simp only [setRotation, h]

theorem setMinShow_of_none (m : Nat) (h : s.sched.source.deferral = none) :
    setMinShow m s = s.setSched { s.sched with minShow := m } := by
  simp only [setMinShow, h]

/-- A pending deferral takes the new setting, and elapses at once when its time has come (R82). -/
theorem setMinShow_of_deferral (m : Nat) {d : Time} (h : s.sched.source.deferral = some d) : setMinShow m s =
    if reached s.now (later s.sched.source.start (m * 10)) then
      elapseDeferral (s.setSched { s.sched with minShow := m })
    else s.setSched { s.sched with
      minShow := m, source := { s.sched.source with deferral := some (later s.sched.source.start (m * 10)) } } := by
  simp only [setMinShow, h]
  rfl

theorem exec_putView_taken {v : ViewId} {cfg : ViewConfig} {f : Frame} {rest : List Frame}
    (hready : Ready 0x28 f rest s) (hheld : Unheld s) (hparse : parseView f.payload = .ok (v, cfg)) :
    ∃ t, exec .putView s = .next t ∧ Taken f rest [0x00] s (putView v cfg s) t :=
  ⟨_, rfl, takeKind_configuration_taken (a := answerOk []) hready hheld hparse
    (congrArg (Prod.mk (answerOk [])) (putView_setLink ..))⟩

theorem exec_dropView_absent {v : ViewId} {f : Frame} {rest : List Frame} (hready : Ready 0x29 f rest s)
    (hheld : Unheld s) (hparse : parseId 12 f.payload = .ok v) (hview : s.sched.views.get v = none) :
    ∃ t, exec .dropView s = .next t ∧ Taken f rest [0x05] s s t :=
  ⟨_, rfl, takeKind_configuration_taken (a := answerRefused .absent) hready hheld hparse
    (by simp only [State.setLink_sched, hview, Option.isNone_none, if_true])⟩

theorem exec_dropView_inUse {v : ViewId} {f : Frame} {rest : List Frame} (hready : Ready 0x29 f rest s)
    (hheld : Unheld s) (hparse : parseId 12 f.payload = .ok v) (hview : (s.sched.views.get v).isSome)
    (huse : viewInUse v s = true) : ∃ t, exec .dropView s = .next t ∧ Taken f rest [0x06] s s t := by
  have huse' : ∀ l, viewInUse v (s.setLink l) = true := fun _ => huse
  exact ⟨_, rfl, takeKind_configuration_taken (a := answerRefused .inUse) hready hheld hparse
    (by simp only [State.setLink_sched, Option.isNone_eq_false_iff.mpr hview, Bool.false_eq_true, if_false, huse',
      if_true])⟩

theorem exec_dropView_taken {v : ViewId} {f : Frame} {rest : List Frame} (hready : Ready 0x29 f rest s)
    (hheld : Unheld s) (hparse : parseId 12 f.payload = .ok v) (hview : (s.sched.views.get v).isSome)
    (hfree : ¬ viewInUse v s = true) : ∃ t, exec .dropView s = .next t ∧
      Taken f rest [0x00] s (s.setSched { s.sched with views := upd s.sched.views v none }) t := by
  have hfree' : ∀ l, ¬ viewInUse v (s.setLink l) = true := fun _ => hfree
  exact ⟨_, rfl, takeKind_configuration_taken (a := answerOk []) hready hheld hparse
    (by simp only [State.setLink_sched, Option.isNone_eq_false_iff.mpr hview, Bool.false_eq_true, if_false, hfree',
      setLink_setSched])⟩

theorem exec_setRotation_absent {es : List RotationEntry} {f : Frame} {rest : List Frame} (hready : Ready 0x2A f rest s)
    (hheld : Unheld s) (hparse : parseRotation f.payload = .ok es)
    (habsent : ∃ e ∈ es, s.sched.views.get e.view = none) :
    ∃ t, exec .setRotation s = .next t ∧ Taken f rest [0x05] s s t := by
  have hany : (es.any fun e => (s.sched.views.get e.view).isNone) = true := by
    simpa only [List.any_eq_true, Option.isNone_iff_eq_none] using habsent
  exact ⟨_, rfl, takeKind_configuration_taken (a := answerRefused .absent) hready hheld hparse
    (by simp only [State.setLink_sched, hany, if_true])⟩

theorem exec_setRotation_taken {es : List RotationEntry} {f : Frame} {rest : List Frame} (hready : Ready 0x2A f rest s)
    (hheld : Unheld s) (hparse : parseRotation f.payload = .ok es)
    (hdefined : ∀ e ∈ es, (s.sched.views.get e.view).isSome) :
    ∃ t, exec .setRotation s = .next t ∧ Taken f rest [0x00] s (setRotation es s) t := by
  have hany : ¬ (es.any fun e => (s.sched.views.get e.view).isNone) = true := by
    simp only [List.any_eq_true, not_exists, not_and]
    exact fun e he hnone => by simpa [Option.isNone_iff_eq_none.mp hnone] using hdefined e he
  exact ⟨_, rfl, takeKind_configuration_taken (a := answerOk []) hready hheld hparse
    (by simp only [State.setLink_sched, hany, Bool.false_eq_true, if_false, setRotation_setLink])⟩

theorem exec_setMinshow_taken {m : Nat} {f : Frame} {rest : List Frame} (hready : Ready 0x2B f rest s)
    (hheld : Unheld s) (hparse : parseMinShow f.payload = .ok m) :
    ∃ t, exec .setMinshow s = .next t ∧ Taken f rest [0x00] s (setMinShow m s) t :=
  ⟨_, rfl, takeKind_configuration_taken (a := answerOk []) hready hheld hparse
    (congrArg (Prod.mk (answerOk [])) (setMinShow_setLink ..))⟩

end

/-! ### The restored schedule (R102) -/

/-- Requests that end one by one leave the set and report in their order; the source stays as it is, except that no
request is shown any longer (R101, R102). -/
theorem endRequests_eq (qs : List Request) : ∀ s : State, ∃ left src,
    qs.foldl (fun s q => endRequest q .restored s) s =
      (s.setSched { s.sched with requests := left, source := src }).setWires { s.wires with
        offers := s.wires.offers ++ qs.map fun q => requestTold s.now q .restored (owedDwell s.now q) } ∧
    (∀ q ∈ left, q ∈ s.sched.requests ∧ q ∉ qs) ∧ src.state = s.sched.source.state ∧
    (s.sched.source.state ≠ .request → src = s.sched.source) := by
  induction qs with
  | nil => exact fun s => ⟨s.sched.requests, s.sched.source, by simp [State.setSched, State.setWires],
      fun q hq => ⟨hq, List.not_mem_nil⟩, rfl, fun _ => rfl⟩
  | cons k qs ih =>
    intro s
    obtain ⟨left, src, hfold, hleft, hstate, hkept⟩ := ih (endRequest k .restored s)
    have hended : endRequest k .restored s = requestEnded k .restored (owedDwell s.now k) s :=
      endRequest_eq k .restored _ s (if_neg (by decide)).symm
    have hstill : (endRequest k .restored s).sched.source.state = s.sched.source.state := by
      rw [hended]
      simp only [requestEnded, State.offer, State.setWires_sched, State.setSched_sched]
      split <;> rfl
    refine ⟨left, src, ?_, fun q hq => ?_, hstate.trans hstill, fun hother => ?_⟩
    · rw [List.foldl_cons, hfold, List.map_cons, List.append_cons, hended]
      rfl
    · obtain ⟨hmem, hnot⟩ := hleft q hq
      obtain ⟨hmem, hne⟩ := List.mem_filter.mp hmem
      refine ⟨hmem, fun hq => ?_⟩
      rcases List.mem_cons.mp hq with rfl | hq
      · simp at hne
      · exact hnot hq
    · rw [hkept (hstill ▸ hother), hended]
      simp only [requestEnded, State.offer, State.setWires_sched, State.setSched_sched]
      exact if_neg fun hshown => hother hshown.1

/-- The scheduler with the profile's part, every request ended, before it chooses the source (R102). -/
def scheduleLoaded (p : Profile) (src : Source) (s : State) : State :=
  (s.setSched ⟨p.views, s.sched.camCopy, p.rotation, p.minShow, [], none, { src with index := 0 }⟩).setWires
    { s.wires with
      offers := s.wires.offers ++ s.sched.requests.map fun q =>
        requestTold s.now q .restored (owedDwell s.now q) }

theorem restoreSchedule_eq (p : Profile) (s : State) : ∃ src, src.state = s.sched.source.state ∧
    (s.sched.source.state ≠ .request → src = { s.sched.source with deferral := none }) ∧
    restoreSchedule p s = chooseSource (scheduleLoaded p src s) := by
  obtain ⟨left, src, hfold, hleft, hstate, hkept⟩ := endRequests_eq s.sched.requests
    (s.setSched { s.sched with source := { s.sched.source with deferral := none } })
  obtain rfl : left = [] := List.eq_nil_iff_forall_not_mem.mpr fun q hq => (hleft q hq).2 (hleft q hq).1
  refine ⟨src, hstate, hkept, ?_⟩
  unfold restoreSchedule
  dsimp only
  rw [hfold]
  rfl

theorem exec_restoreSchedule_handed {p : Profile} {s : State} (h : Handed .schedule p s) :
    exec .restoreSchedule s = .next (partTaken .schedule (restoreSchedule p s)) :=
  congrArg Host.Outcome.next (takePart_handed h.1 h.2)

end Sys2Proof.Machine

namespace Sys2Proof.ViewSchedule

open Sys2Proof.Machine Sys2Proof.Safety

/-- Settles O25: RELEASE by `releaseHold`, which chooses, and HOLD by whether the view is defined and held. -/
theorem holdAndRelease : Obligations.HoldAndRelease := by
  refine fun f rest s => ⟨fun hready hpayload => ?release, fun v => exec_hold_absent,
    fun v hready hparse hview => ?hold⟩
  case release =>
    obtain ⟨t, hexec, htaken⟩ := exec_release_taken hready hpayload
    exact ⟨t, _, hexec, htaken, releaseHold_of_none, fun v hv => releaseHold_of_held hv ▸ chooseSource_chosen _⟩
  case hold =>
    obtain ⟨t, hexec, htaken⟩ := exec_hold_taken hready hparse hview
    exact ⟨t, _, hexec, htaken, setHold_of_held, setHold_of_other⟩

/-- Settles O26: the state after the taking is that of `takeRequest`, by its case. -/
theorem requestEnters : Obligations.RequestEnters := by
  intro q s new full
  refine ⟨(takeRequest q s).2, fun hview => ?_, fun hview => ⟨fun old hold => ?_, fun hnone hroom => ?_,
    fun old hnone hfull hold => ⟨fun hlower => ?_, fun hlower => ?_⟩⟩, fun rest s0 hrequests hs => ?_,
    fun f rest => exec_showView_absent, fun f rest hready hparse hview => ?_⟩
  · rw [takeRequest_of_undefined hview]
    rfl
  · rw [takeRequest_of_replaced hview hold]
    obtain ⟨_, horigin⟩ := requestOf_some hold
    exact enterOver_cases (by decide) fun x _ hx => hx.trans horigin.symm
  · rw [takeRequest_of_room hview hnone hroom]
    exact judgeEntry_entered ((requestOf_none_iff ..).mp hnone)
  · rw [takeRequest_of_evicted hview hnone hfull hold hlower]
    exact enterOver_cases (by decide) fun x hx horigin => absurd horigin ((requestOf_none_iff ..).mp hnone x hx)
  · rw [takeRequest_of_full hview hnone hfull hold hlower]
    rfl
  · rw [exec_viewRequest_of_cons hrequests, hs]
  · simpa only [takeRequest_refused_iff hview] using exec_showView_taken hready hparse hview

/-- Settles O27, by what ends the request; each end is `endAndChoose` with its outcome. -/
theorem requestEnds : Obligations.RequestEnds := by
  refine ⟨fun q s hq => ?ends, fun o rest s hnone hwithdrawals => ?absent,
    fun f rest s hnone hready hpayload => exec_withdraw_absent hready hpayload hnone⟩
  case ends =>
    intro finish
    have hfinish : ∀ outcome, outcome ≠ .done → endAndChoose q outcome s = finish outcome (owedDwell s.now q) s :=
      fun outcome hne => endAndChoose_eq q outcome _ s (if_neg hne).symm
    refine ⟨fun d hshown hd hreached => ?_, fun hreached => ?_, fun rest s0 hwithdrawals hs => ?_,
      fun f rest hhost hready hpayload => ?_⟩
    · rw [exec_dwellDeadlineExpiry_of_due hq hshown hd hreached]
      exact congrArg _ (endAndChoose_eq q .done 0 s rfl)
    · rw [exec_lifetimeDeadlineExpiry_of_reached hq hreached, hfinish _ (by decide)]
    · rw [exec_withdrawal_of_cons hwithdrawals, ← hs, takeWithdrawal_of_some hq, hfinish _ (by decide)]
    · rw [← hfinish _ (by decide), ← takeWithdrawal_of_some hq, hhost]
      exact exec_withdraw_taken hready hpayload (hhost ▸ hq)
  case absent =>
    exact (exec_withdrawal_of_cons hwithdrawals).trans (congrArg _ (takeWithdrawal_of_none hnone))

/-- Settles O28, by the state of the source. -/
theorem rotationAndDeferral : Obligations.RotationAndDeferral := by
  refine fun s => ⟨fun d => exec_rotationDeadlineExpiry_of_due, fun d hd hreached => ?deferral,
    fun c n rest hpath => ?notice⟩
  case deferral =>
    rw [exec_deferralDeadlineExpiry_of_due hd hreached]
    refine ⟨fun hstate => ?_, fun hstate hwaits => ?_, fun hstate hnone => ?_⟩
    · rw [elapseDeferral_of_request hstate]; rfl
    · rw [elapseDeferral_of_rotating hstate, if_neg hwaits]; rfl
    · rw [elapseDeferral_of_rotating hstate, if_pos hnone]; rfl
  case notice =>
    intro s1
    let s0 := s.setWires { s.wires with camToSched := upd s.wires.camToSched c rest }
    rw [exec_cameraNoticeAtScheduler_of_cons hpath]
    refine ⟨fun hstate hshows => congrArg _ ?_, fun hstate hhides => congrArg _ ?_,
      fun hstate hlocked => congrArg _ ?_, fun hstate hother => congrArg _ ?_, fun hstate => congrArg _ ?_⟩
    · exact (takeSchedNotice_of_rotating (s := s0) c n hstate).trans (advanceUnshowable_of_showable hshows)
    · exact (takeSchedNotice_of_rotating (s := s0) c n hstate).trans (advanceUnshowable_of_unshowable hhides)
    · exact (takeSchedNotice_of_blank (s := s0) c n hstate).trans (if_pos hlocked)
    · exact (takeSchedNotice_of_blank (s := s0) c n hstate).trans (if_neg hother)
    · exact takeSchedNotice_of_shown (s := s0) c n hstate

/-- Settles O29, command by command. -/
theorem viewCommands : Obligations.ViewCommands := by
  intro f rest s hheld
  have huse : ∀ v, viewInUse v s = true ↔ _ := fun v => viewInUse_iff v s
  refine ⟨fun v cfg hready hparse => ?put, fun v hready hparse hview hrotation hrequests hhold hrules => ?drop,
    fun v hready hparse => ⟨exec_dropView_absent hready hheld hparse, fun hview hnamed => ?inUse⟩,
    fun es hready => exec_setRotation_absent hready hheld, fun es hready hparse hdefined => ?rotation,
    fun m hready hparse => ?minShow⟩
  case put =>
    obtain ⟨t, hexec, htaken⟩ := exec_putView_taken hready hheld hparse
    refine ⟨t, _, hexec, htaken, fun hstate hshows => ?_, fun hstate hhides => ?_, putView_of_blank v cfg,
      putView_of_shown v cfg⟩
    · rw [putView_of_rotating v cfg hstate]
      exact advanceUnshowable_of_showable hshows
    · rw [putView_of_rotating v cfg hstate]
      exact advanceUnshowable_of_unshowable hhides
  case drop =>
    refine exec_dropView_taken hready hheld hparse hview fun hused => ?_
    rcases (huse v).mp hused with ⟨e, he, hv⟩ | ⟨r, rule, hr, a, b, c, d, hmem⟩ | ⟨q, hq, hv⟩ | hv
    · exact hrotation e he hv
    · exact hrules r rule hr a b c d hmem
    · exact hrequests q hq hv
    · exact hhold hv
  case inUse =>
    refine exec_dropView_inUse hready hheld hparse hview ((huse v).mpr ?_)
    exact (or_congr_right (or_assoc.symm.trans or_comm)).mp hnamed
  case rotation =>
    obtain ⟨t, hexec, htaken⟩ := exec_setRotation_taken hready hheld hparse hdefined
    exact ⟨t, _, hexec, htaken, setRotation_of_rotation es, setRotation_of_shown es⟩
  case minShow =>
    obtain ⟨t, hexec, htaken⟩ := exec_setMinshow_taken hready hheld hparse
    refine ⟨t, _, hexec, htaken, setMinShow_of_none m, fun d hd => ⟨fun hearly => ?_, fun hreached hstate => ?_,
      fun hreached hstate => ?_⟩⟩
    · rw [setMinShow_of_deferral m hd, hearly]; rfl
    · rw [setMinShow_of_deferral m hd, if_pos hreached]
      exact elapseDeferral_of_request hstate
    · rw [setMinShow_of_deferral m hd, if_pos hreached]
      exact elapseDeferral_of_rotating hstate

/-- Settles O30: every request has ended, and the choice from the restored rotation is R89's. -/
theorem scheduleRestored : Obligations.ScheduleRestored := by
  intro p s hhanded
  obtain ⟨src, hstate, hkept, hrestored⟩ := restoreSchedule_eq p s
  have hchosen := chooseSource_chosen (scheduleLoaded p src s)
  refine ⟨_, exec_restoreSchedule_handed hhanded, ?_⟩
  rw [hrestored]
  have hsearch : search (scheduleLoaded p src s).sched 0 =
    search { s.sched with views := p.views, rotation := p.rotation } 0 := rfl
  cases hfound : search (scheduleLoaded p src s).sched 0 with
  | some k =>
    have hk : k < p.rotation.length := lt_length_of_positionShowable (List.find?_some hfound)
    rw [hchosen.visit rfl rfl k _ hfound (List.getElem?_eq_getElem hk)]
    refine ⟨rfl, rfl, rfl, rfl, rfl, rfl, rfl, rfl, fun k' e hk' he => ?_, fun hnone => ?_⟩
    · cases hfound.symm.trans (hsearch.trans hk')
      cases he.symm.trans (List.getElem?_eq_getElem hk)
      exact ⟨rfl, rfl⟩
    · cases hfound.symm.trans (hsearch.trans hnone)
  | none =>
    obtain ⟨hblank, hother⟩ := hchosen.blank rfl rfl hfound
    have hnever : ∀ k, search { s.sched with views := p.views, rotation := p.rotation } 0 ≠ some k := fun k hk => by
      cases hfound.symm.trans (hsearch.trans hk)
    by_cases hs : s.sched.source.state = .blank
    · rw [hblank (hstate.trans hs)]
      refine ⟨rfl, rfl, rfl, rfl, rfl, rfl, rfl, rfl, fun k e hk => absurd hk (hnever k),
        fun _ => ⟨fun _ => ⟨?_, rfl⟩, fun hne => absurd hs hne⟩⟩
      show { src with index := 0 } = _
      rw [hkept (by rw [hs]; decide)]
    · rw [hother fun h => hs (hstate.symm.trans h)]
      exact ⟨rfl, rfl, rfl, rfl, rfl, rfl, rfl, rfl, fun k e hk => absurd hk (hnever k),
        fun _ => ⟨fun h => absurd h hs, fun _ => ⟨rfl, rfl⟩⟩⟩

end Sys2Proof.ViewSchedule
end

section
/-! What every command is made of: the few kinds of change of the state, and for every operation of every block that it
is a sequence of such changes. A property that each kind of change keeps is kept by every command. Where the properties
`ZoneBlind` to `SessionBlind` bear every change of the paths, here reports are offered with their priorities in range,
and the presentations on their way change by the scheduler and the compositor alone. -/

namespace Sys2Proof.Machine

open Sys2Proof.Safety

/-! ### Priorities of 0 to 3 (R21, R46) -/

/-- Every zone's report priority is of 0 to 3 (R21). -/
def ZonesRanged (e : ZoneEngine) : Prop := ∀ z zone, e.table.get z = some zone → zone.cfg.priority ≤ 3

/-- Every rule's report priorities are of 0 to 3 (R46). -/
def RulesRanged (e : RuleEngine) : Prop := ∀ r rule, e.table.get r = some rule → reportsRanged rule.cfg

/-- The report priorities that a profile holds are of 0 to 3 (R203). -/
structure ProfileRanged (p : Profile) : Prop where
  zones : ∀ z cfg, p.zones.get z = some cfg → cfg.priority ≤ 3
  rules : ∀ r cfg, p.rules.get r = some cfg → reportsRanged cfg

/-- Every priority is of 0 to 3 on its way to the report queue and wherever a report will take it from. -/
structure RangesLaw (s : State) : Prop where
  offers : ∀ r ∈ s.wires.offers, r.priority ≤ 3
  zones : ZonesRanged s.zoneEngine
  rules : RulesRanged s.ruleEngine
  applying : ∀ p, s.store.applying = some p → ProfileRanged p

/-! ### The kinds of change -/

/-- The three queues of the host link controller hold at most 4 each (R160, R162, R163). -/
structure LinkSized (l : HostLink) : Prop where
  commands : l.commands.length ≤ 4
  cache : l.cache.length ≤ 4
  immediate : l.immediate.length ≤ 4

/-- The request set holds at most 8, never two of one origin (R83). -/
structure RequestsLaw (x : Scheduler) : Prop where
  size : x.requests.length ≤ 8
  origins : (x.requests.map (·.origin)).Nodup

/-- The scheduler with a new record, with these presentations on their way and these reports offered. -/
def rescheduled (x : Scheduler) (ps : List Presentation) (os : List Report) (s : State) : State :=
  (s.setSched x).setWires { s.wires with presentations := ps, offers := os }

/-- The scheduler has acted: it has changed its record, has sent presentations and has offered reports of priority 0 to
3, and its laws hold after as they did before. -/
structure Rescheduled (s t : State) : Prop where
  frame : ∃ x ps os, t = rescheduled x ps os s ∧ ∀ r ∈ os, r ∈ s.wires.offers ∨ r.priority ≤ 3
  requests : RequestsLaw s.sched → RequestsLaw t.sched
  screen : RequestsLaw s.sched → ScreenLaw s → ScreenLaw t

/-- A change of the report queue other than the entry of a report. -/
inductive Delivered (q : ReportQueue) : ReportQueue → Prop
  | filtered (f : Filter) : Delivered q { q with filter := f }
  | started {stalled : Bool} {r : Record} {resend : Bool} (h : frameDue q stalled = some (r, resend)) :
      Delivered q (startReport q r resend)
  | completed (now : Time) (seq : Nat) (resend : Bool) : Delivered q (completeReport now seq resend q)
  | opened (mode : DeliveryMode) (window retransmit : Nat) : Delivered q (queueOpened mode window retransmit q)
  | closed : Delivered q (queueClosed q)
  | round : Delivered q (startRound q)
  | stall : Delivered q (stallQueue q)
  | acked {seq : Nat} {left : List Record} (now : Time) (online : Option Nat)
      (h : recordsAfter seq q.records = some left) : Delivered q (ackQueue now left online q)

/-- A change of the state of one kind. Where reports get their priorities, the change keeps these in range if they are
asked to be. -/
inductive Change (ranged : Prop) (s : State) : State → Prop
  | now (x : Time) : Change ranged s (s.setNow x)
  | cams (x : Vector Camera 6) : Change ranged s (s.setCams x)
  | pins (x : Vector Level 8) : Change ranged s (s.setExtPins x)
  | lines (x : Vector Line 8) : Change ranged s (s.setLines x)
  | fresh (x : Nat) : Change ranged s (s.setFresh x)
  | zones {x : ZoneEngine} (h : ranged → ZonesRanged x) : Change ranged s (s.setZones x)
  | rules {x : RuleEngine} (h : ranged → RulesRanged x) : Change ranged s (s.setRules x)
  | store {x : ProfileStore} (h : ranged → ∀ p, x.applying = some p → ProfileRanged p) :
      Change ranged s (s.setStore x)
  | head {x : HeadLink} (h : s.head.queue.length ≤ 8 → x.queue.length ≤ 8) : Change ranged s (s.setHead x)
  | link {x : HostLink} (h : LinkSized s.link → LinkSized x) : Change ranged s (s.setLink x)
  | delivered {q : ReportQueue} (h : Delivered s.reports q) : Change ranged s (s.setReports q)
  | entered {k : ReportKind} {r : Report} {rest : List Report} (h : nextOffer k [] s.wires.offers = some (r, rest)) :
      Change ranged s ((s.setWires { s.wires with offers := rest }).setReports (takeReport r s.reports))
  | paths {x : Wires} (hoffers : x.offers = s.wires.offers)
      (hpresentations : x.presentations = s.wires.presentations) : Change ranged s (s.setWires x)
  | offer {r : Report} (h : ranged → r.priority ≤ 3) : Change ranged s (s.offer r)
  | comp {x : Compositor} (h : x.pending.getD x.applied = s.comp.pending.getD s.comp.applied) :
      Change ranged s (s.setComp x)
  | presented {p : Presentation} {rest : List Presentation} (h : s.wires.presentations = p :: rest) :
      Change ranged s ((s.setWires { s.wires with presentations := rest }).setComp { s.comp with pending := some p })
  | rescheduled {t : State} (h : Rescheduled s t) : Change ranged s t
  | reset (straps : Straps) (rate : HostRate) (std : Standard) : Change ranged s (startBlocks straps rate std s)

/-- A property that every kind of change keeps, and that implies the ranges of priorities where they are asked for. -/
structure Kept (ranged : Prop) (P : State → Prop) : Prop where
  change : ∀ {s t}, Change ranged s t → P s → P t
  ranges : ranged → ∀ {s}, P s → RangesLaw s

section
variable {ranged : Prop} {P : State → Prop} {s : State}

/-- The keeping through the elements of a list, where each keeps the property. -/
theorem foldl_keeps_mem {α : Type} {step : State → α → State} {l : List α} (hstep : ∀ s, ∀ a ∈ l, P s → P (step s a))
    (h : P s) : P (l.foldl step s) := by
  induction l generalizing s with
  | nil => exact h
  | cons a l ih =>
    exact ih (fun s b hb => hstep s b (List.mem_cons_of_mem _ hb)) (hstep s a List.mem_cons_self h)

/-- The judgement keeps a property that the command of every operand its payload can parse to keeps. -/
theorem judged_keeps_parsed {α : Type} {parse : List Byte → Except Turndown α} {ap : α → State → Answer × State}
    (h : ∀ p x s, parse p = .ok x → P s → P (ap x s).2) : JudgementKeeps P (judged parse ap) := by
  intro p s hs
  unfold judged
  split
  next hparse => exact h p _ s hparse hs
  · exact hs

/-! ### The paths -/

theorem Kept.paths (hP : Kept ranged P) {x : Wires} (hoffers : x.offers = s.wires.offers)
    (hpresentations : x.presentations = s.wires.presentations) (h : P s) : P (s.setWires x) :=
  hP.change (.paths hoffers hpresentations) h

theorem Kept.offer (hP : Kept ranged P) {r : Report} (hr : ranged → r.priority ≤ 3) (h : P s) : P (s.offer r) :=
  hP.change (.offer hr) h

/-! ### Cameras (chapter 01) -/

theorem Kept.setCam (hP : Kept ranged P) (c : CameraId) (x : Camera) (h : P s) : P (s.setCam c x) :=
  hP.change (.cams _) h

theorem Kept.tickFresh (hP : Kept ranged P) (h : P s) : P s.tickFresh := hP.change (.fresh _) h

theorem Kept.sendTransition (hP : Kept ranged P) (m : CameraNotice → CameraMessage) (c : CameraId) (new : Camera)
    (changed : Bool) (h : P s) : P (sendTransition m c new changed s) :=
  hP.offer (fun _ => (by decide : 2 ≤ 3)) (hP.paths rfl rfl (hP.paths rfl rfl (hP.setCam _ _ h)))

theorem Kept.searchField (hP : Kept ranged P) (c : CameraId) (f : FieldInfo) (h : P s) : P (searchField c f s) := by
  unfold Machine.searchField
  dsimp only
  split
  · exact hP.setCam _ _ h
  · split
    · exact hP.tickFresh (hP.sendTransition _ _ _ _ h)
    · exact hP.tickFresh (hP.setCam _ _ h)

theorem Kept.lockedField (hP : Kept ranged P) (c : CameraId) (st : Standard) (f : FieldInfo) (h : P s) :
    P (lockedField c st f s) := by
  unfold Machine.lockedField
  dsimp only
  split
  · exact hP.paths rfl rfl (hP.tickFresh (hP.setCam _ _ h))
  · exact hP.tickFresh (hP.setCam _ _ h)

theorem Kept.takeFieldEnd (hP : Kept ranged P) (c : CameraId) (f : FieldInfo) (h : P s) : P (takeFieldEnd c f s) := by
  unfold Machine.takeFieldEnd
  dsimp only
  split
  · exact h
  · exact hP.searchField c f h
  · exact hP.searchField c f h
  · split
    · exact hP.setCam _ _ h
    · split
      · exact hP.lockedField _ _ _ h
      · exact hP.tickFresh (hP.sendTransition _ _ _ _ h)

theorem Kept.expireRun (hP : Kept ranged P) (c : CameraId) (h : P s) : P (expireRun c s) := by
  unfold Machine.expireRun
  split
  · exact hP.setCam _ _ h
  · exact h

theorem Kept.expireLoss (hP : Kept ranged P) (c : CameraId) (h : P s) : P (expireLoss c s) := by
  unfold Machine.expireLoss
  dsimp only
  split
  · exact hP.sendTransition _ _ _ _ h
  · exact h

theorem Kept.expireLost (hP : Kept ranged P) (c : CameraId) (h : P s) : P (expireLost c s) := by
  unfold Machine.expireLost
  dsimp only
  split
  · exact hP.sendTransition _ _ _ _ h
  · exact h

theorem Kept.takeFirstLine (hP : Kept ranged P) (c : CameraId) (h : P s) : P (takeFirstLine c s) := by
  unfold Machine.takeFirstLine
  dsimp only
  split
  · exact hP.setCam _ _ h
  · exact h

theorem Kept.writeCamera (hP : Kept ranged P) (m : CameraNotice → CameraMessage) (c : CameraId) (cfg : CameraConfig)
    (h : P s) : P (writeCamera m c cfg s) := by
  unfold Machine.writeCamera
  dsimp only
  split
  · exact hP.sendTransition _ _ _ _ h
  · split
    · exact hP.sendTransition _ _ _ _ h
    · exact hP.setCam _ _ h

/-! ### Zones (chapter 02) -/

/-- A zone of the table reports with a priority in range. -/
theorem Kept.zoneRanged (hP : Kept ranged P) {z : ZoneId} {zone : Zone} (hz : s.zoneEngine.table.get z = some zone)
    (h : P s) : ranged → zone.cfg.priority ≤ 3 :=
  fun hasked => (hP.ranges hasked h).zones z zone hz

theorem Kept.setZone (hP : Kept ranged P) (z : ZoneId) {o : Option Zone}
    (ho : ranged → ∀ zone, o = some zone → zone.cfg.priority ≤ 3) (h : P s) : P (s.setZone z o) :=
  hP.change (.zones fun hasked => upd_keeps (law := fun zone : Zone => zone.cfg.priority ≤ 3) (hP.ranges hasked h).zones
    (ho hasked)) h

theorem Kept.setSomeZone (hP : Kept ranged P) (z : ZoneId) {zone : Zone} (hzone : ranged → zone.cfg.priority ≤ 3)
    (h : P s) : P (s.setZone z (some zone)) :=
  hP.setZone z (fun hasked _ hx => Option.some.inj hx ▸ hzone hasked) h

theorem Kept.zoneTransition (hP : Kept ranged P) (z : ZoneId) {zone : Zone} (st : ZoneState) (cause : ZoneCause)
    (stamp : Time) (hzone : ranged → zone.cfg.priority ≤ 3) (h : P s) : P (zoneTransition z zone st cause stamp s) := by
  have hset : ∀ run, P (s.setZone z (some { zone with run := run })) := fun _ => hP.setSomeZone z hzone h
  unfold Machine.zoneTransition
  dsimp only
  split
  · exact hP.offer hzone (hP.paths rfl rfl (hset _))
  · exact hP.paths rfl rfl (hset _)

/-- The zone's entries on their way and its place in the field in progress are discarded (R16, R32). -/
theorem Kept.discard (hP : Kept ranged P) (gone : ZoneId → Bool) (h : P s) :
    P (disqualify gone (purgeSummaries gone s)) :=
  hP.change (.cams _) (hP.paths rfl rfl h)

theorem Kept.learnField (hP : Kept ranged P) (cls : SensClass) (z : ZoneId) {zone : Zone} (mean : Nat) (stamp : Time)
    (hzone : ranged → zone.cfg.priority ≤ 3) (h : P s) : P (learnField cls z zone mean stamp s) := by
  unfold Machine.learnField
  dsimp only
  split
  · exact hP.zoneTransition _ _ _ _ (fun hasked => hzone hasked) h
  · exact hP.setSomeZone _ (fun hasked => hzone hasked) h

theorem Kept.quietField (hP : Kept ranged P) (cls : SensClass) (z : ZoneId) {zone : Zone} (reference mean : Nat)
    (stamp : Time) (hzone : ranged → zone.cfg.priority ≤ 3) (h : P s) :
    P (quietField cls z zone reference mean stamp s) := by
  unfold Machine.quietField
  dsimp only
  split
  · exact hP.zoneTransition _ _ _ _ (fun hasked => hzone hasked) h
  · exact hP.setSomeZone _ (fun hasked => hzone hasked) h

theorem Kept.activeField (hP : Kept ranged P) (cls : SensClass) (z : ZoneId) {zone : Zone} (reference mean : Nat)
    (stamp : Time) (hzone : ranged → zone.cfg.priority ≤ 3) (h : P s) :
    P (activeField cls z zone reference mean stamp s) := by
  unfold Machine.activeField
  dsimp only
  split
  · exact hP.zoneTransition _ _ _ _ (fun hasked => hzone hasked) h
  · split
    · exact hP.zoneTransition _ _ _ _ (fun hasked => hzone hasked) h
    · exact hP.setSomeZone _ (fun hasked => hzone hasked) h

theorem Kept.takeEntry (hP : Kept ranged P) (stamp : Time) (s : State) (entry : ZoneId × Nat) (h : P s) :
    P (takeEntry stamp s entry) := by
  unfold Machine.takeEntry
  split
  · exact h
  next zone hz =>
    have hzone := hP.zoneRanged hz h
    dsimp only
    split
    · exact h
    · exact h
    · exact hP.learnField _ _ _ _ hzone h
    · exact hP.quietField _ _ _ _ _ hzone h
    · exact hP.activeField _ _ _ _ _ hzone h

theorem Kept.execFieldSummary (hP : Kept ranged P) (c : CameraId) (h : P s) :
    ∃ t, execFieldSummary c s = .next t ∧ P t := by
  refine ⟨_, rfl, ?_⟩
  split
  · exact foldl_keeps (hP.takeEntry _) _ _ (hP.paths rfl rfl h)
  · exact h

theorem Kept.noticeZone (hP : Kept ranged P) (n : CameraNotice) (c : CameraId) (s : State) (z : ZoneId) (h : P s) :
    P (noticeZone n c s z) := by
  unfold Machine.noticeZone
  split
  · exact h
  next zone hz =>
    have hmoved : ∀ st cause, P (Machine.zoneTransition z zone st cause s.now s) := fun st cause =>
      hP.zoneTransition z st cause _ (hP.zoneRanged hz h) h
    split
    · split
      · split
        · exact h
        · exact h
        · exact hmoved _ _
      · split
        · split
          · exact hmoved _ _
          · exact hmoved _ _
        · exact h
    · exact h

theorem Kept.takeZoneNotice (hP : Kept ranged P) (c : CameraId) (n : CameraNotice) (h : P s) :
    P (takeZoneNotice c n s) :=
  foldl_keeps (hP.noticeZone n c) _ _ (hP.change (.zones fun hasked => (hP.ranges hasked h).zones) h)

theorem Kept.execCameraNoticeAtZones (hP : Kept ranged P) (c : CameraId) (h : P s) :
    ∃ t, execCameraNoticeAtZones c s = .next t ∧ P t := by
  have hdropped : P (dropCameraMessage c s) := hP.paths rfl rfl h
  refine ⟨_, rfl, ?_⟩
  split
  · exact hP.takeZoneNotice c _ hdropped
  · split
    · exact hP.takeZoneNotice c _ hdropped
    · exact h
  · exact h

theorem Kept.putZone (hP : Kept ranged P) (z : ZoneId) {cfg : ZoneConfig} (hcfg : cfg.priority ≤ 3) (h : P s) :
    P (putZone z cfg s) := by
  have hgone := hP.discard (· == z) h
  unfold Machine.putZone
  split
  · split
    · exact hP.zoneTransition _ _ _ _ (fun _ => hcfg) h
    · exact hP.setSomeZone _ (fun _ => hcfg) h
  · dsimp only
    split
    · exact hP.setSomeZone _ (fun _ => hcfg) h
    · exact hP.zoneTransition _ _ _ _ (fun _ => hcfg) h
    · exact hP.zoneTransition _ _ _ _ (fun _ => hcfg) hgone
    · split
      · exact hP.zoneTransition _ _ _ _ (fun _ => hcfg) hgone
      · exact hP.setSomeZone _ (fun _ => hcfg) h

theorem Kept.dropZone (hP : Kept ranged P) {z : ZoneId} {zone : Zone} (hz : s.zoneEngine.table.get z = some zone)
    (h : P s) : P (dropZone z zone s) := by
  have hgone := hP.discard (· == z) h
  unfold Machine.dropZone
  dsimp only
  refine hP.setZone z (fun _ _ hx => nomatch hx) ?_
  split
  · exact hgone
  · exact hP.zoneTransition _ _ _ _ (hP.zoneRanged hz h) hgone

/-- The restored classes and zones are those of the profile that is applied (R44). -/
theorem Kept.restoreZones (hP : Kept ranged P) {p : Profile} (hp : ranged → ProfileRanged p) (h : P s) :
    P (restoreZones p s) := by
  refine hP.paths rfl rfl (hP.change (.zones fun hasked z zone hzone => ?_) (hP.discard _ h))
  simp only [Vector.get_eq_getElem, Vector.getElem_map, Option.map_eq_some_iff] at hzone
  obtain ⟨cfg, hcfg, rfl⟩ := hzone
  exact (hp hasked).zones z cfg hcfg

theorem Kept.judgeDropZone (hP : Kept ranged P) : JudgementKeeps P judgeDropZone := by
  refine configuration_keeps (judged_keeps fun z s h => ?_)
  split
  · exact h
  next hz =>
    split
    · exact h
    · exact hP.dropZone hz h

theorem Kept.judgeRelearnZone (hP : Kept ranged P) : JudgementKeeps P judgeRelearnZone := by
  refine judged_keeps fun z s h => ?_
  split
  · exact h
  next hz =>
    split
    · exact hP.zoneTransition _ _ _ _ (hP.zoneRanged hz h) (hP.paths rfl rfl h)
    · exact h

end

end Sys2Proof.Machine
end

section
/-! What every command is made of, continued: the rule engine, the contact lines, the head link, the profile store and
the compositor. -/

namespace Sys2Proof.Machine

open Sys2Proof.Safety

section
variable {ranged : Prop} {P : State → Prop} {s : State}

/-! ### Rules (chapter 03) -/

/-- A rule of the table reports with priorities in range. -/
theorem Kept.ruleRanged (hP : Kept ranged P) {r : RuleId} {rule : Rule} (hr : s.ruleEngine.table.get r = some rule)
    (h : P s) : ranged → reportsRanged rule.cfg :=
  fun hasked => (hP.ranges hasked h).rules r rule hr

theorem Kept.setRule (hP : Kept ranged P) (r : RuleId) {o : Option Rule}
    (ho : ranged → ∀ rule, o = some rule → reportsRanged rule.cfg) (h : P s) : P (s.setRule r o) :=
  hP.change (.rules fun hasked => upd_keeps (law := fun rule : Rule => reportsRanged rule.cfg)
    (hP.ranges hasked h).rules (ho hasked)) h

theorem Kept.setSomeRule (hP : Kept ranged P) (r : RuleId) {rule : Rule} (hrule : ranged → reportsRanged rule.cfg)
    (h : P s) : P (s.setRule r (some rule)) :=
  hP.setRule r (fun hasked _ hx => Option.some.inj hx ▸ hrule hasked) h

theorem Kept.sendAction (hP : Kept ranged P) (r : RuleId) {rule : Rule} (hrule : ranged → reportsRanged rule.cfg)
    {a : Action} (ha : a ∈ rule.cfg.actions) (h : P s) : P (sendAction r rule s a) := by
  unfold Machine.sendAction
  split
  · exact hP.offer (fun hasked => hrule hasked _ _ ha) h
  all_goals exact hP.paths rfl rfl h

theorem Kept.fireRule (hP : Kept ranged P) (r : RuleId) {rule : Rule} (hrule : ranged → reportsRanged rule.cfg)
    (h : P s) : P (fireRule r rule s) :=
  foldl_keeps_mem (fun _ _ ha h => hP.sendAction r (rule := firedRule s.now rule) hrule ha h) (hP.setSomeRule r hrule h)

theorem Kept.releaseLatch (hP : Kept ranged P) (r : RuleId) (s : State) (a : Action) (h : P s) :
    P (releaseLatch r s a) := by
  unfold Machine.releaseLatch
  split
  · exact hP.paths rfl rfl h
  · exact h

theorem Kept.releaseReport (hP : Kept ranged P) (r : RuleId) {rule : Rule} (cause : ClearCause)
    (hrule : ranged → reportsRanged rule.cfg) {a : Action} (ha : a ∈ rule.cfg.actions) (h : P s) :
    P (releaseReport r rule cause s a) := by
  unfold Machine.releaseReport
  split
  · exact hP.offer (fun hasked => hrule hasked _ _ ha) h
  · exact h

theorem Kept.releaseRule (hP : Kept ranged P) (r : RuleId) {rule : Rule} (cause : ClearCause)
    (hrule : ranged → reportsRanged rule.cfg) (h : P s) : P (releaseRule r rule cause s) := by
  unfold Machine.releaseRule
  dsimp only
  refine foldl_keeps_mem (fun _ _ ha h => hP.releaseReport r cause hrule ha h) (foldl_keeps (hP.releaseLatch r) _ _ ?_)
  split
  · exact hP.paths rfl rfl h
  · exact h

theorem Kept.settleRule (hP : Kept ranged P) (r : RuleId) {rule : Rule} (st : RuleState)
    (hrule : ranged → reportsRanged rule.cfg) (h : P s) : P (settleRule r rule st s) :=
  hP.setSomeRule r (fun hasked => hrule hasked) h

theorem Kept.awaitTerm (hP : Kept ranged P) (r : RuleId) {rule : Rule} (n : Nat)
    (hrule : ranged → reportsRanged rule.cfg) (h : P s) : P (awaitTerm r rule n s) :=
  hP.setSomeRule r (fun hasked => hrule hasked) h

theorem Kept.idleEvent (hP : Kept ranged P) (e e' : RuleEngine) (r : RuleId) {rule : Rule}
    (hrule : ranged → reportsRanged rule.cfg) (h : P s) : P (idleEvent e e' r rule s) := by
  unfold Machine.idleEvent
  split
  · split
    · exact hP.awaitTerm r _ hrule h
    · exact h
  · split
    · exact hP.fireRule r hrule h
    · exact h

theorem Kept.stepEvent (hP : Kept ranged P) (e e' : RuleEngine) (r : RuleId) {rule : Rule}
    (hrule : ranged → reportsRanged rule.cfg) (h : P s) : P (stepEvent e e' r rule s) := by
  unfold Machine.stepEvent
  dsimp only
  split
  · split
    · exact hP.fireRule r hrule h
    · exact hP.awaitTerm r _ hrule h
  · split
    · exact hP.awaitTerm r _ hrule h
    · exact h

theorem Kept.firedEvent (hP : Kept ranged P) (e' : RuleEngine) (r : RuleId) {rule : Rule}
    (hrule : ranged → reportsRanged rule.cfg) (h : P s) : P (firedEvent e' r rule s) := by
  unfold Machine.firedEvent
  split
  · exact h
  · split
    · exact hP.settleRule r _ hrule (hP.releaseRule r _ hrule h)
    · exact hP.setSomeRule r (fun hasked => hrule hasked) h

theorem Kept.cooldownEvent (hP : Kept ranged P) (e' : RuleEngine) (r : RuleId) {rule : Rule}
    (hrule : ranged → reportsRanged rule.cfg) (h : P s) : P (cooldownEvent e' r rule s) := by
  unfold Machine.cooldownEvent
  split
  · exact hP.settleRule r _ hrule h
  · exact h

theorem Kept.termEvent (hP : Kept ranged P) (e e' : RuleEngine) (r : RuleId) {rule : Rule}
    (hrule : ranged → reportsRanged rule.cfg) (h : P s) : P (termEvent e e' r rule s) := by
  unfold Machine.termEvent
  split
  · exact h
  · exact hP.idleEvent e e' r hrule h
  · exact hP.stepEvent e e' r hrule h
  · exact hP.firedEvent e' r hrule h
  · exact hP.cooldownEvent e' r hrule h

theorem Kept.meetRule (hP : Kept ranged P) (e e' : RuleEngine) (s : State) (r : RuleId) (h : P s) :
    P (meetRule e e' s r) := by
  unfold Machine.meetRule
  split
  · exact h
  next hr =>
    split
    · exact hP.termEvent e e' r (hP.ruleRanged hr h) h
    · exact h

theorem Kept.takeCopies (hP : Kept ranged P) {e' : RuleEngine} (htable : e'.table = s.ruleEngine.table) (h : P s) :
    P (takeCopies e' s) :=
  foldl_keeps (hP.meetRule _ _) _ _ (hP.change (.rules fun hasked r rule hr =>
    (hP.ranges hasked h).rules r rule (htable ▸ hr)) h)

theorem Kept.execZoneTransition (hP : Kept ranged P) (h : P s) : ∃ t, execZoneTransition s = .next t ∧ P t := by
  refine ⟨_, rfl, ?_⟩
  split
  · exact hP.takeCopies (s := dropZoneMessage s) rfl (hP.paths rfl rfl h)
  · exact h

theorem Kept.execLineTransition (hP : Kept ranged P) (l : LineId) (h : P s) :
    ∃ t, execLineTransition l s = .next t ∧ P t := by
  refine ⟨_, rfl, ?_⟩
  split
  · exact hP.takeCopies (s := dropLineMessage l s) rfl (hP.paths rfl rfl h)
  · exact h

theorem Kept.execRestartNotice (hP : Kept ranged P) (h : P s) : ∃ t, execRestartNotice s = .next t ∧ P t := by
  refine ⟨_, rfl, ?_⟩
  split
  · exact hP.change (.rules fun hasked => (hP.ranges hasked h).rules) (hP.paths rfl rfl h)
  · exact h

theorem Kept.expireStep (hP : Kept ranged P) (r : RuleId) (h : P s) : P (expireStep r s) := by
  unfold Machine.expireStep
  split
  · exact h
  next hr =>
    split
    · exact hP.settleRule r _ (hP.ruleRanged hr h) h
    · exact h

theorem Kept.expireCooldown (hP : Kept ranged P) (r : RuleId) (h : P s) : P (expireCooldown r s) := by
  unfold Machine.expireCooldown
  split
  · exact h
  next hr =>
    have hrule := hP.ruleRanged hr h
    split
    · exact hP.settleRule r _ hrule (hP.releaseRule r _ hrule h)
    · exact h

theorem Kept.disarmRule (hP : Kept ranged P) (r : RuleId) {rule : Rule} (cause : ClearCause)
    (hrule : ranged → reportsRanged rule.cfg) (h : P s) : P (disarmRule r rule cause s) := by
  unfold Machine.disarmRule
  dsimp only
  refine hP.setSomeRule r (fun hasked => hrule hasked) ?_
  split
  · exact hP.releaseRule r _ hrule h
  · exact h

theorem Kept.armRule (hP : Kept ranged P) (r : RuleId) {rule : Rule} (hrule : ranged → reportsRanged rule.cfg)
    (h : P s) : P (armRule r rule s) := by
  unfold Machine.armRule
  dsimp only
  split
  · exact hP.fireRule r (fun hasked => hrule hasked) h
  · exact hP.settleRule r _ (fun hasked => hrule hasked) h

theorem Kept.storeRule (hP : Kept ranged P) (r : RuleId) {cfg : RuleConfig} (run : RuleRun)
    (hcfg : ranged → reportsRanged cfg) (h : P s) : P (storeRule r cfg run s) := by
  unfold Machine.storeRule
  split
  · exact hP.armRule r hcfg h
  · exact hP.setSomeRule r hcfg h

theorem Kept.putRule (hP : Kept ranged P) (r : RuleId) {cfg : RuleConfig} (hcfg : reportsRanged cfg) (h : P s) :
    P (putRule r cfg s) := by
  unfold Machine.putRule
  split
  · exact hP.storeRule r _ (fun _ => hcfg) h
  next hr => exact hP.storeRule r _ (fun _ => hcfg) (hP.disarmRule r _ (hP.ruleRanged hr h) h)

theorem Kept.setArmed (hP : Kept ranged P) (r : RuleId) {rule : Rule} (armed : Bool)
    (hrule : ranged → reportsRanged rule.cfg) (h : P s) : P (setArmed r rule armed s) := by
  unfold Machine.setArmed
  split
  · split
    · exact h
    · exact hP.armRule r hrule h
  · exact hP.disarmRule r _ hrule h

theorem Kept.displaceRule (hP : Kept ranged P) (s : State) (r : RuleId) (h : P s) : P (displaceRule s r) := by
  unfold Machine.displaceRule
  split
  · exact h
  next hr => exact hP.disarmRule r _ (hP.ruleRanged hr h) h

theorem Kept.removeRules (hP : Kept ranged P) (h : P s) : P (removeRules s) :=
  hP.change (.rules fun _ r rule hr => by simp [Vector.get_eq_getElem] at hr) (foldl_keeps hP.displaceRule _ _ h)

theorem Kept.restoreRules (hP : Kept ranged P) {p : Profile} (hp : ranged → ProfileRanged p) (h : P s) :
    P (restoreRules p s) := by
  refine foldl_keeps (fun s r h => ?_) _ _ h
  unfold restoreRule
  split
  · exact hP.setRule r (fun _ _ hx => nomatch hx) h
  next hcfg => exact hP.storeRule r _ (fun hasked => (hp hasked).rules r _ hcfg) h

/-- A command on a defined rule keeps a property that its effect on a rule of the table keeps. -/
theorem onRule_keeps_defined {r : RuleId} {f : Rule → State → Answer × State} (h : P s)
    (hf : ∀ rule, s.ruleEngine.table.get r = some rule → P (f rule s).2) : P (onRule r f s).2 := by
  unfold onRule
  split
  · exact h
  next hr => exact hf _ hr

theorem Kept.judgeDropRule (hP : Kept ranged P) : JudgementKeeps P judgeDropRule :=
  configuration_keeps (judged_keeps fun _ _ h => onRule_keeps_defined h fun _ hr =>
    hP.setRule _ (fun _ _ hx => nomatch hx) (hP.disarmRule _ _ (hP.ruleRanged hr h) h))

theorem Kept.judgeArmRule (hP : Kept ranged P) : JudgementKeeps P judgeArmRule :=
  configuration_keeps (judged_keeps fun _ _ h => onRule_keeps_defined h fun _ hr =>
    hP.setArmed _ _ (hP.ruleRanged hr h) h)

/-! ### Contact lines (chapter 06) -/

theorem Kept.setLine (hP : Kept ranged P) (l : LineId) (x : Line) (h : P s) : P (s.setLine l x) :=
  hP.change (.lines _) h

theorem Kept.sendLineChange (hP : Kept ranged P) (t : LineChange) (h : P s) : P (sendLineChange t s) :=
  hP.offer (fun _ => (by decide : 1 ≤ 3)) (hP.paths rfl rfl h)

theorem Kept.acceptChange (hP : Kept ranged P) (l : LineId) (stamp : Time) (h : P s) : P (acceptChange l stamp s) :=
  hP.sendLineChange _ (hP.setLine _ _ h)

theorem Kept.beginChange (hP : Kept ranged P) (l : LineId) (h : P s) : P (beginChange l s) := by
  unfold Machine.beginChange
  dsimp only
  split
  · exact hP.acceptChange _ _ h
  · exact hP.setLine _ _ h

theorem Kept.judgePin (hP : Kept ranged P) (l : LineId) (h : P s) : P (judgePin l s) := by
  unfold Machine.judgePin
  split
  · exact hP.beginChange l h
  · exact h

theorem Kept.takeLevelChange (hP : Kept ranged P) (l : LineId) (h : P s) : P (takeLevelChange l s) := by
  unfold Machine.takeLevelChange
  dsimp only
  split
  · exact hP.setLine _ _ h
  · split
    · exact hP.beginChange _ h
    · exact h

theorem Kept.execPinLevelChange (hP : Kept ranged P) (l : LineId) (h : P s) :
    ∃ t, execPinLevelChange l s = .next t ∧ P t := by
  have hpin : P (s.setExtPins (upd s.extPins l (otherLevel (s.extPins.get l)))) := hP.change (.pins _) h
  refine ⟨_, rfl, ?_⟩
  dsimp only
  split
  · exact hP.takeLevelChange _ hpin
  · exact hpin

theorem Kept.expireDebounce (hP : Kept ranged P) (l : LineId) (h : P s) : P (expireDebounce l s) := by
  unfold Machine.expireDebounce
  split
  · split
    · exact hP.acceptChange _ _ h
    · exact h
  · exact h

theorem Kept.claimLine (hP : Kept ranged P) (l : LineId) (r : RuleId) (present : Bool) (h : P s) :
    P (claimLine l r present s) := by
  unfold Machine.claimLine
  dsimp only
  split
  · exact hP.setLine _ _ h
  · exact h

theorem Kept.pulseLine (hP : Kept ranged P) (l : LineId) (steps : Nat) (h : P s) : P (pulseLine l steps s) := by
  unfold Machine.pulseLine
  dsimp only
  split
  · exact hP.setLine _ _ h
  · exact h

theorem Kept.execLatchClaim (hP : Kept ranged P) (h : P s) : ∃ t, execLatchClaim s = .next t ∧ P t := by
  refine ⟨_, rfl, ?_⟩
  split
  · exact hP.claimLine _ _ _ (hP.paths rfl rfl h)
  · exact h

theorem Kept.execLatchDrop (hP : Kept ranged P) (h : P s) : ∃ t, execLatchDrop s = .next t ∧ P t := by
  refine ⟨_, rfl, ?_⟩
  split
  · exact hP.claimLine _ _ _ (hP.paths rfl rfl h)
  · exact h

theorem Kept.execPulseClaim (hP : Kept ranged P) (h : P s) : ∃ t, execPulseClaim s = .next t ∧ P t := by
  refine ⟨_, rfl, ?_⟩
  split
  · exact hP.pulseLine _ _ (hP.paths rfl rfl h)
  · exact h

theorem Kept.expirePulse (hP : Kept ranged P) (l : LineId) (h : P s) : P (expirePulse l s) := by
  unfold Machine.expirePulse
  dsimp only
  split
  · exact hP.setLine _ _ h
  · exact h

theorem Kept.clearAccepted (hP : Kept ranged P) (l : LineId) (h : P s) : P (clearAccepted l s) := by
  unfold Machine.clearAccepted
  dsimp only
  split
  · exact hP.sendLineChange _ (hP.setLine _ _ h)
  · exact hP.setLine _ _ h

theorem Kept.storeLine (hP : Kept ranged P) (l : LineId) (cfg : LineConfig) (h : P s) : P (storeLine l cfg s) :=
  hP.setLine _ _ h

theorem Kept.writeInput (hP : Kept ranged P) (l : LineId) (cfg : LineConfig) (h : P s) : P (writeInput l cfg s) := by
  have hcleared := hP.storeLine l cfg (hP.clearAccepted l h)
  unfold Machine.writeInput
  split
  · exact hcleared
  · split
    · exact hP.storeLine _ _ h
    · exact hP.judgePin _ hcleared
  · exact hP.setLine _ _ hcleared

theorem Kept.writeOther (hP : Kept ranged P) (l : LineId) (cfg : LineConfig) (h : P s) : P (writeOther l cfg s) := by
  unfold Machine.writeOther
  dsimp only
  split
  · refine hP.storeLine _ _ ?_
    split
    · exact hP.setLine _ _ h
    · exact h
  · exact hP.judgePin _ (hP.storeLine _ _ (hP.setLine _ _ h))
  · split
    · exact hP.storeLine _ _ h
    · exact hP.setLine _ _ (hP.storeLine _ _ h)

theorem Kept.writeLine (hP : Kept ranged P) (l : LineId) (cfg : LineConfig) (h : P s) : P (writeLine l cfg s) := by
  unfold Machine.writeLine
  split
  · exact hP.writeInput _ _ h
  · exact hP.writeOther _ _ h

theorem Kept.restoreLines (hP : Kept ranged P) (p : Profile) (h : P s) : P (restoreLines p s) :=
  foldl_keeps (fun _ _ h => hP.writeLine _ _ h) _ _ h

theorem Kept.judgeSetLine (hP : Kept ranged P) : JudgementKeeps P judgeSetLine := by
  refine configuration_keeps (judged_keeps fun x s h => ?_)
  dsimp only
  split
  · exact h
  · exact hP.writeLine _ _ h

/-! ### Full resets (§10.7) -/

theorem Kept.fullReset (hP : Kept ranged P) (straps : Straps) (rate : HostRate) (std : Standard) (h : P s) :
    P (fullReset straps rate std s) := by
  refine foldl_keeps (fun s l h => ?_) _ _ (hP.change (.reset straps rate std) h)
  unfold startPin
  split
  · exact hP.judgePin _ h
  · exact h

/-! ### The head link (chapter 07) -/

/-- The relay queue of a state after a change of the head link that does not lengthen it. -/
theorem Kept.headNoLonger (hP : Kept ranged P) {x : HeadLink} (hx : x.queue.length ≤ s.head.queue.length) (h : P s) :
    P (s.setHead x) :=
  hP.change (.head hx.trans) h

theorem relayPriority_le (r : RelayResult) : relayPriority r ≤ 3 := by
  cases r <;> decide

theorem Kept.endInFlight (hP : Kept ranged P) (t : Transaction) (r : RelayResult) (h : P s) :
    P (endInFlight t r s) :=
  hP.offer (fun _ => relayPriority_le r) (hP.headNoLonger (by simp) h)

theorem Kept.failAttempt (hP : Kept ranged P) {t : Transaction} {rest : List Transaction}
    (hqueue : s.head.queue = t :: rest) (f : Failure) (h : P s) : P (failAttempt t f s) := by
  unfold Machine.failAttempt
  split
  · exact hP.endInFlight _ _ h
  · split
    · exact hP.headNoLonger (by simp [hqueue]) h
    · exact hP.endInFlight _ _ h

theorem Kept.completeRequest (hP : Kept ranged P) (h : P s) : P (completeRequest s) := by
  unfold Machine.completeRequest
  split
  · split
    · exact hP.endInFlight _ _ h
    · exact hP.headNoLonger le_rfl h
  · exact h

theorem Kept.judgeReply (hP : Kept ranged P) (addr tag status : Byte) (crc : Half) {t : Transaction}
    {rest : List Transaction} (hqueue : s.head.queue = t :: rest) (h : P s) :
    P (judgeReply addr tag status crc t s) := by
  unfold Machine.judgeReply
  split
  · exact hP.failAttempt hqueue _ h
  · split
    · exact hP.endInFlight _ _ h
    · exact hP.headNoLonger le_rfl h

theorem Kept.headByte (hP : Kept ranged P) (s : State) (b : Byte) (h : P s) : P (headByte s b) := by
  unfold Machine.headByte
  split
  next hqueue =>
    split
    · exact hP.judgeReply _ _ _ _ hqueue h
    · exact hP.headNoLonger le_rfl h
  · exact h

theorem Kept.takeReply (hP : Kept ranged P) (rate : HeadRate) (good : Bool) (sent : List Byte) (h : P s) :
    P (takeReply rate good sent s) := by
  unfold Machine.takeReply
  split
  · split
    · exact foldl_keeps hP.headByte _ _ h
    · exact foldl_keeps hP.headByte _ _ (hP.tickFresh h)
  · exact h

theorem Kept.expireReply (hP : Kept ranged P) (h : P s) : P (expireReply s) := by
  unfold Machine.expireReply
  split
  next hqueue =>
    split
    · exact hP.failAttempt hqueue _ h
    · exact h
  · exact h

theorem length_queue_linkTakes (x : HeadLink) : (linkTakes x).queue.length = x.queue.length := by
  unfold linkTakes
  split
  · rfl
  next hqueue => simp [sendFrame, hqueue]

theorem length_queue_enterTransaction (o : Origin) (head : HeadAddr) (op : HeadOp) (x : HeadLink) :
    (enterTransaction o head op x).queue.length = x.queue.length + 1 := by
  unfold enterTransaction
  dsimp only
  split
  · simp [length_queue_linkTakes]
  · simp

theorem length_queue_gapEnd (x : HeadLink) : (gapEnd x).queue.length = x.queue.length := by
  unfold gapEnd
  split
  · rfl
  next hqueue =>
    split
    · simp [sendFrame, hqueue]
    · exact length_queue_linkTakes x

/-- A transaction enters a queue of fewer than 8 (R140–R142). -/
theorem Kept.enterTransaction (hP : Kept ranged P) (o : Origin) (head : HeadAddr) (op : HeadOp)
    (hroom : s.head.queue.length < 8) (h : P s) : P (s.setHead (enterTransaction o head op s.head)) :=
  hP.change (.head fun _ => (length_queue_enterTransaction o head op s.head).trans_le hroom) h

theorem Kept.takeRecall (hP : Kept ranged P) (r : Recall) (h : P s) : P (takeRecall r s) := by
  unfold Machine.takeRecall
  split
  · exact hP.offer (fun _ => (by decide : 1 ≤ 3)) (hP.headNoLonger (by simp) h)
  · split
    next hroom => exact hP.enterTransaction _ _ _ hroom h
    · exact hP.offer (fun _ => (by decide : 2 ≤ 3)) h

theorem Kept.execRecall (hP : Kept ranged P) (h : P s) : ∃ t, execRecall s = .next t ∧ P t := by
  refine ⟨_, rfl, ?_⟩
  split
  · exact hP.takeRecall _ (hP.paths rfl rfl h)
  · exact h

theorem Kept.execTurnaroundGapEnd (hP : Kept ranged P) (h : P s) : ∃ t, execTurnaroundGapEnd s = .next t ∧ P t := by
  refine ⟨_, rfl, ?_⟩
  split
  · exact hP.headNoLonger (length_queue_gapEnd _).le h
  · exact h

theorem Kept.judgeRelay (hP : Kept ranged P) : JudgementKeeps P judgeRelay := by
  refine judged_keeps fun x s h => ?_
  dsimp only
  split
  next hroom => exact hP.enterTransaction _ _ _ hroom h
  · exact h

theorem Kept.cancelInFlight (hP : Kept ranged P) {t : Transaction} (hqueue : s.head.queue ≠ []) (h : P s) :
    P (cancelInFlight t s) := by
  unfold Machine.cancelInFlight
  split
  · exact hP.offer (fun _ => (by decide : 1 ≤ 3)) (hP.headNoLonger (by simp) h)
  · have hpos := List.length_pos_of_ne_nil hqueue
    refine hP.headNoLonger ?_ h
    simp only [List.length_cons, List.length_tail]
    omega

theorem Kept.judgeCancelRelay (hP : Kept ranged P) : JudgementKeeps P judgeCancelRelay := by
  refine judged_keeps fun tid s h => ?_
  split
  next t hflying =>
    refine hP.cancelInFlight (fun hnil => ?_) h
    simp [inFlightOf, hnil] at hflying
  · split
    · exact hP.offer (fun _ => (by decide : 1 ≤ 3)) (hP.headNoLonger (List.length_filter_le _ _) h)
    · exact h

/-! ### The profile store (chapter 10) -/

/-- A change of the store that leaves the profile being applied. -/
theorem Kept.storeSame (hP : Kept ranged P) {x : ProfileStore} (hx : x.applying = s.store.applying) (h : P s) :
    P (s.setStore x) :=
  hP.change (.store fun hasked p hp => (hP.ranges hasked h).applying p (hx ▸ hp)) h

/-- A PROFILE report has priority 2 (R208). -/
theorem Kept.endOperation (hP : Kept ranged P) (x : ProfileStore) {r : Report} (hr : r.priority = 2) (h : P s) :
    P (endOperation x r s) :=
  hP.offer (fun _ => hr.trans_le (by decide)) (hP.change (.store fun _ _ hp => nomatch hp) h)

theorem applying_putSlot (id : SlotId) (slot : Slot) (dir : Option DirectoryEntry) (x : ProfileStore) :
    (putSlot id slot dir x).applying = x.applying := by
  cases id <;> rfl

theorem Kept.takeCommit (hP : Kept ranged P) (h : P s) : P (takeCommit s) := by
  unfold Machine.takeCommit
  split
  · exact hP.storeSame (applying_putSlot ..) h
  · exact hP.endOperation _ rfl h

theorem Kept.completeWrite (hP : Kept ranged P) (stored : Option SlotImage) (h : P s) : P (completeWrite stored s) := by
  unfold Machine.completeWrite
  split
  · exact hP.storeSame (applying_putSlot ..) h
  · exact h

theorem Kept.completeVerify (hP : Kept ranged P) (good : Bool) (h : P s) : P (completeVerify good s) := by
  unfold Machine.completeVerify
  split
  · split
    · exact hP.storeSame rfl h
    · exact hP.endOperation _ rfl h
  · exact h

theorem Kept.completeGeneration (hP : Kept ranged P) (readBack afterErase : Word32) (h : P s) :
    P (completeGeneration readBack afterErase s) := by
  unfold Machine.completeGeneration
  split
  · dsimp only
    split
    · exact hP.endOperation _ rfl h
    · exact hP.endOperation _ rfl h
  · exact h

theorem Kept.takePartNotice (hP : Kept ranged P) (p : Part) (h : P s) : P (takePartNotice p s) := by
  unfold Machine.takePartNotice
  split
  · dsimp only
    split
    · exact hP.endOperation _ rfl h
    · exact hP.storeSame rfl h
  · exact h

theorem Kept.completeErase (hP : Kept ranged P) (readA readB : Word32) (h : P s) : P (completeErase readA readB s) := by
  unfold Machine.completeErase
  split
  · refine hP.endOperation _ ?_ h
    unfold eraseReport
    split
    · rfl
    · split <;> rfl
  · exact h

theorem Kept.judgeCommit (hP : Kept ranged P) : JudgementKeeps P judgeCommit := by
  refine judged_keeps fun _ s h => ?_
  split
  · exact hP.takeCommit h
  · exact h

theorem Kept.judgeRestore (hP : Kept ranged P) : JudgementKeeps P judgeRestore := by
  refine judged_keeps fun _ s h => ?_
  split
  · split
    · exact hP.storeSame rfl h
    · exact h
  · exact h

theorem Kept.judgeErase (hP : Kept ranged P) : JudgementKeeps P judgeErase := by
  refine judged_keeps fun _ s h => ?_
  split
  · exact hP.storeSame rfl h
  · exact h

/-- A block takes its part of the profile that is applied (R204). -/
theorem Kept.takePart (hP : Kept ranged P) {part : Part} {f : Profile → State → State} (h : P s)
    (hf : ∀ p, (ranged → ProfileRanged p) → P (f p s)) : P (takePart part f s) := by
  unfold Machine.takePart
  split
  next p hp =>
    split
    · exact hP.storeSame rfl (hf p fun hasked => (hP.ranges hasked h).applying p hp)
    · exact h
  · exact h

theorem Kept.execRestoreRulesArm (hP : Kept ranged P) (h : P s) : ∃ t, execRestoreRulesArm s = .next t ∧ P t := by
  refine ⟨_, rfl, ?_⟩
  split
  · exact h
  · exact hP.takePart h fun _ hp => hP.restoreRules hp h

/-! ### The compositor (chapter 04) -/

theorem Kept.composeFrame (hP : Kept ranged P) (h : P s) : P (composeFrame s) := by
  have hframe : ∀ frame, P (s.setComp { s.comp with output := frame }) := fun _ => hP.change (.comp rfl) h
  unfold Machine.composeFrame
  split
  · exact hframe _
  · split
    · exact hframe _
    · exact hP.tickFresh (hframe _)

theorem Kept.startFrame (hP : Kept ranged P) (h : P s) : P (startFrame s) := by
  unfold Machine.startFrame
  split
  · exact hP.composeFrame h
  next hpending =>
    exact hP.composeFrame (hP.offer (fun _ => Nat.zero_le _) (hP.change (.comp (by rw [hpending]; rfl)) h))

theorem Kept.execPresentation (hP : Kept ranged P) (h : P s) : ∃ t, execPresentation s = .next t ∧ P t := by
  refine ⟨_, rfl, ?_⟩
  split
  next hpresentations => exact hP.change (.presented hpresentations) h
  · exact h

end

end Sys2Proof.Machine
end

section
/-! What every command is made of, continued: the host link controller, the sessions and the report queue. -/

namespace Sys2Proof.Machine

open Sys2Proof.Safety

/-! ### The queues of the host link controller (R160, R162, R163) -/

theorem LinkSized.offerImmediate {l : HostLink} (h : LinkSized l) (f : ImmediateFrame) :
    LinkSized (offerImmediate f l) := by
  unfold Machine.offerImmediate
  split
  next hroom => exact ⟨h.commands, h.cache, by simpa using hroom⟩
  · exact h

theorem LinkSized.huntAgain {l : HostLink} (h : LinkSized l) : LinkSized (huntAgain l) :=
  ⟨h.commands, h.cache, h.immediate⟩

theorem LinkSized.refuseFrame {l : HostLink} (h : LinkSized l) (seq : Byte) (reason : NakReason) :
    LinkSized (refuseFrame seq reason l) :=
  h.huntAgain.offerImmediate _

theorem LinkSized.offerCommand {l : HostLink} (h : LinkSized l) (f : Frame) : LinkSized (offerCommand f l) := by
  unfold Machine.offerCommand
  split
  next hroom => exact ⟨by simpa using hroom, h.cache, h.immediate⟩
  · exact h.offerImmediate _

theorem LinkSized.takeValid {l : HostLink} (h : LinkSized l) (now : Time) (f : Frame) :
    LinkSized (takeValid now f l) := by
  have hrestarted : LinkSized { l with session := restartSilence now l.session } :=
    ⟨h.commands, h.cache, h.immediate⟩
  unfold Machine.takeValid
  dsimp only
  split
  · exact ⟨h.commands, by simpa using h.cache, h.immediate⟩
  · split
    · exact hrestarted
    · exact hrestarted.offerCommand f

theorem LinkSized.judgeFrame {l : HostLink} (h : LinkSized l) (now : Time) (f : Frame) :
    LinkSized (judgeFrame now f l) := by
  unfold Machine.judgeFrame
  split
  · exact h.refuseFrame _ _
  · split
    · exact h.refuseFrame _ _
    · exact h.huntAgain.takeValid now f

theorem LinkSized.awaitByte {l : HostLink} (h : LinkSized l) (now : Time) (r : Receiver) (good : Bool) :
    LinkSized (awaitByte now r good l) :=
  ⟨h.commands, h.cache, h.immediate⟩

theorem LinkSized.headerByte {l : HostLink} (h : LinkSized l) (now : Time) (got : List Byte) (b : Byte) (good : Bool) :
    LinkSized (headerByte now got b good l) := by
  unfold Machine.headerByte
  split
  · split
    · exact h.refuseFrame _ _
    · split
      · exact h.awaitByte _ _ _
      · exact h.awaitByte _ _ _
  · exact h.awaitByte _ _ _

theorem LinkSized.bodyByte {l : HostLink} (h : LinkSized l) (now : Time) (len seq kind : Byte) (got : List Byte)
    (b : Byte) (good : Bool) : LinkSized (bodyByte now len seq kind got b good l) := by
  unfold Machine.bodyByte
  split
  · exact h.awaitByte _ _ _
  · exact h.awaitByte _ _ _

theorem LinkSized.checkByte {l : HostLink} (h : LinkSized l) (now : Time) (len seq kind : Byte)
    (payload got : List Byte) (b : Byte) (good : Bool) :
    LinkSized (checkByte now len seq kind payload got b good l) := by
  unfold Machine.checkByte
  split
  · exact LinkSized.judgeFrame (l := { l with badStop := l.badStop || !good }) ⟨h.commands, h.cache, h.immediate⟩ _ _
  · exact h.awaitByte _ _ _

theorem LinkSized.receiveByte {l : HostLink} (h : LinkSized l) (now : Time) (b : Byte) (good : Bool) :
    LinkSized (receiveByte now b good l) := by
  unfold Machine.receiveByte
  split
  · split
    · exact h.huntAgain.awaitByte _ _ _
    · exact h
  · exact h.headerByte _ _ _ _
  · exact h.bodyByte _ _ _ _ _ _ _
  · exact h.checkByte _ _ _ _ _ _ _ _

/-- A reply enters a cache of fewer than 4, or in place of its oldest entry (R163). -/
theorem LinkSized.cacheReply {l : HostLink} (h : LinkSized l) (f : Frame) (a : Answer) :
    LinkSized (cacheReply f a l) := by
  refine ⟨h.commands, ?_, h.immediate⟩
  have hcache := h.cache
  unfold Machine.cacheReply
  split <;> simp <;> omega

theorem LinkSized.switchRate {l : HostLink} (h : LinkSized l) (r : HostRate) : LinkSized (switchRate r l) := by
  unfold Machine.switchRate
  split
  · exact h
  · exact ⟨h.commands, h.cache, h.immediate⟩

theorem length_of_startReply {es cache : List CacheEntry} {bytes : List Byte}
    (h : startReply es = some (bytes, cache)) : cache.length = es.length := by
  induction es generalizing cache with
  | nil => cases h
  | cons e es ih =>
    unfold startReply at h
    split at h
    · cases h; rfl
    · obtain ⟨⟨_, rest⟩, hrest, heq⟩ := Option.map_eq_some_iff.mp h
      cases heq
      exact congrArg (· + 1) (ih hrest)

section
variable {ranged : Prop} {P : State → Prop} {s : State}

/-! ### The transmitter and the taking of a host command (R164, R165) -/

/-- A change of the link that leaves its three queues. -/
theorem Kept.linkBeside (hP : Kept ranged P) {x : HostLink} (hcommands : x.commands = s.link.commands)
    (hcache : x.cache = s.link.cache) (himmediate : x.immediate = s.link.immediate) (h : P s) : P (s.setLink x) :=
  hP.change (.link fun hsized =>
    ⟨hcommands ▸ hsized.commands, hcache ▸ hsized.cache, himmediate ▸ hsized.immediate⟩) h

theorem Kept.delivered (hP : Kept ranged P) {q : ReportQueue} (hq : Delivered s.reports q) (h : P s) :
    P (s.setReports q) :=
  hP.change (.delivered hq) h

theorem Kept.kick (hP : Kept ranged P) (h : P s) : P s.kick := by
  rcases kick_cases s with
    hk | ⟨_, f, fs, hfs, hk⟩ | ⟨_, _, bytes, cache, hreply, hk⟩ | ⟨_, _, _, r, resend, hdue, hk⟩ <;> rw [hk]
  · exact h
  · exact hP.change (.link fun hsized => ⟨hsized.commands, hsized.cache, by
      have himmediate := hsized.immediate
      simp only [hfs, List.length_cons] at himmediate
      exact (Nat.le_succ _).trans himmediate⟩) h
  · exact hP.change (.link fun hsized => ⟨hsized.commands, (length_of_startReply hreply).trans_le hsized.cache,
      hsized.immediate⟩) h
  · exact hP.linkBeside rfl rfl rfl (hP.delivered (.started hdue) h)

theorem Kept.takeFrame (hP : Kept ranged P) {j : Judgement} (hj : JudgementKeeps P j) (any : Bool) {f : Frame}
    {rest : List Frame} (hcommands : s.link.commands = f :: rest) (h : P s) : P (takeFrame any j f rest s) := by
  have htaken : P (s.setLink { s.link with commands := rest }) := hP.change (.link fun hsized => ⟨by
    have hfull := hsized.commands
    simp only [hcommands, List.length_cons] at hfull
    exact (Nat.le_succ _).trans hfull, hsized.cache, hsized.immediate⟩) h
  unfold Machine.takeFrame
  dsimp only
  refine hP.kick (hP.change (.link fun hsized => hsized.cacheReply _ _) ?_)
  split
  · exact htaken
  · exact hj _ _ htaken

theorem Kept.takeWhen (hP : Kept ranged P) {j : Judgement} (hj : JudgementKeeps P j) (test : Byte → Bool) (any : Bool)
    (h : P s) : P (takeWhen test any j s) := by
  unfold Machine.takeWhen
  split
  next hcommands =>
    split
    · exact hP.takeFrame hj any hcommands h
    · exact h
  · exact h

theorem Kept.takeCommands (hP : Kept ranged P) (hj : ∀ kind, JudgementKeeps P (hostCommand kind).2) (n : Nat) :
    ∀ s, P s → P (takeCommands n s) := by
  induction n with
  | zero => exact fun _ h => h
  | succ n ih =>
    intro s h
    refine ih _ ?_
    unfold takeOldest
    split
    next hcommands =>
      split
      · exact hP.takeFrame (hj _) _ hcommands h
      · exact h
    · exact h

theorem Kept.checkCommands (hP : Kept ranged P) (hj : ∀ kind, JudgementKeeps P (hostCommand kind).2) (h : P s) :
    P (checkCommands s) :=
  hP.kick (hP.takeCommands hj _ _ h)

theorem Kept.receiveHostByte (hP : Kept ranged P) (hj : ∀ kind, JudgementKeeps P (hostCommand kind).2) (b : Byte)
    (good : Bool) (h : P s) : P (receiveHostByte b good s) := by
  have hreceived : P (s.setLink (receiveByte s.now b good s.link)) :=
    hP.change (.link fun hsized => hsized.receiveByte _ _ _) h
  unfold Machine.receiveHostByte
  dsimp only
  split
  · exact hP.checkCommands hj hreceived
  · exact hP.kick hreceived

theorem Kept.completeReply (hP : Kept ranged P) (hj : ∀ kind, JudgementKeeps P (hostCommand kind).2) (s3 : Level)
    (h : P s) : P (completeReply s3 s) := by
  have hsent : ∀ l, LinkSized l → LinkSized { l with tx := none, cache := l.cache.map sentEntry } := fun l hsized =>
    ⟨hsized.commands, by simpa using hsized.cache, hsized.immediate⟩
  unfold Machine.completeReply
  dsimp only
  split
  · exact hP.fullReset _ _ _ (hP.change (.link (hsent _)) h)
  · exact hP.checkCommands hj (hP.change (.link fun hsized => (hsent _ hsized).switchRate _) h)
  · exact hP.checkCommands hj (hP.change (.link (hsent _)) h)

theorem Kept.completeFrame (hP : Kept ranged P) (hj : ∀ kind, JudgementKeeps P (hostCommand kind).2) (s3 : Level)
    (h : P s) : P (completeFrame s3 s) := by
  have hfree : P (s.setLink { s.link with tx := none }) := hP.linkBeside rfl rfl rfl h
  unfold Machine.completeFrame
  split
  · exact h
  · split
    · exact hP.kick hfree
    · exact hP.completeReply hj s3 h
    · exact hP.kick (hP.delivered (.completed _ _ _) hfree)

theorem Kept.expireGap (hP : Kept ranged P) (h : P s) : P (expireGap s) := by
  unfold Machine.expireGap
  split
  · exact hP.kick (hP.change (.link fun hsized => hsized.refuseFrame _ _) h)
  · exact h

/-! ### Sessions and the report queue (chapters 05 and 08) -/

theorem Kept.closeLink (hP : Kept ranged P) (h : P s) : P (closeLink s) := by
  have hclosed : P (s.setLink { s.link with session := { s.link.session with state := .closed, deadline := none } }) :=
    hP.linkBeside rfl rfl rfl h
  exact hP.paths rfl rfl (hP.delivered .closed hclosed)

theorem Kept.openSession (hP : Kept ranged P) (q : OpenRequest) (h : P s) : P (openSession q s) := by
  have hopened : P (s.setLink { s.link with session :=
      ⟨.opened, q.mode, q.window, q.retransmit, q.silence, silenceFrom s.now q.silence⟩ }) :=
    hP.linkBeside rfl rfl rfl h
  exact hP.paths rfl rfl (hP.delivered (.opened q.mode q.window q.retransmit) hopened)

theorem Kept.closeWith (hP : Kept ranged P) (reason : SessionReason) (h : P s) : P (closeWith reason s) :=
  hP.offer (fun _ => le_rfl) (hP.closeLink h)

theorem Kept.expireSilence (hP : Kept ranged P) (h : P s) : P (expireSilence s) := by
  unfold Machine.expireSilence
  split
  · exact hP.closeWith _ h
  · exact h

theorem Kept.execPushStallNotice (hP : Kept ranged P) (h : P s) : ∃ t, execPushStallNotice s = .next t ∧ P t := by
  refine ⟨_, rfl, ?_⟩
  split
  · exact hP.closeWith _ h
  · exact h

theorem Kept.expireRetransmit (hP : Kept ranged P) (h : P s) : P (expireRetransmit s) := by
  unfold Machine.expireRetransmit
  split
  · split
    · exact hP.kick (hP.delivered .round h)
    · exact hP.paths rfl rfl (hP.delivered .stall h)
  · exact h

theorem Kept.execReportOffer (hP : Kept ranged P) (k : ReportKind) (h : P s) :
    ∃ t, execReportOffer k s = .next t ∧ P t := by
  refine ⟨_, rfl, ?_⟩
  split
  next hoffer => exact hP.kick (hP.change (.entered hoffer) h)
  · exact h

theorem Kept.writeFilter (hP : Kept ranged P) (f : Filter) (h : P s) : P (writeFilter f s) :=
  hP.delivered (.filtered f) h

theorem Kept.judgeAck (hP : Kept ranged P) : JudgementKeeps P judgeAck := by
  refine judged_keeps fun seq s h => ?_
  split
  · exact h
  next hleft => exact hP.delivered (.acked _ _ hleft) h

/-! ### Priorities in range, from what is parsed (R46, R180, R203) -/

theorem natField_le {lo hi v i n : Nat} (h : natField lo hi v i = .ok n) : n ≤ hi := by
  unfold natField at h
  split at h
  next hrange => cases h; exact hrange.2
  · cases h

/-- A zone record that PUT_ZONE accepts has a report priority of 0 to 3 (R180). -/
theorem parseZone_priority {p : List Byte} {z : ZoneId} {cfg : ZoneConfig} (h : parseZone p = .ok (z, cfg)) :
    cfg.priority ≤ 3 := by
  unfold parseZone at h
  split at h
  · iterate 11 obtain ⟨_, -, h⟩ := bind_ok h
    obtain ⟨n, hpriority, h⟩ := bind_ok h
    iterate 2 obtain ⟨_, -, h⟩ := bind_ok h
    cases h
    exact natField_le hpriority
  · cases h

/-- A REPORT action that PUT_RULE accepts has a priority of 0 to 3 (R67). -/
theorem actionField_report {raw : RawAction} {i p : Nat} {c : Bool} (h : actionField raw i = .ok (.report p c)) :
    p ≤ 3 := by
  rcases raw with ⟨_, _⟩ | ⟨_, _, _, _, _⟩ | ⟨_, _, _⟩ | ⟨_, _⟩
  · obtain ⟨n, hpriority, h⟩ := bind_ok h
    obtain ⟨_, -, h⟩ := bind_ok h
    cases h
    exact natField_le hpriority
  · iterate 5 obtain ⟨_, -, h⟩ := bind_ok h
    cases h
  · obtain ⟨_, -, h⟩ := bind_ok h
    split at h
    · obtain ⟨_, -, h⟩ := bind_ok h
      cases h
    · obtain ⟨_, -, h⟩ := bind_ok h
      cases h
    · cases h
  · iterate 2 obtain ⟨_, -, h⟩ := bind_ok h
    cases h

theorem actionFields_report {raws : List RawAction} {i : Nat} {as : List Action} (h : actionFields raws i = .ok as) :
    ∀ p c, .report p c ∈ as → p ≤ 3 := by
  induction raws generalizing i as with
  | nil => cases h; exact fun _ _ hmem => nomatch hmem
  | cons raw raws ih =>
    obtain ⟨a, ha, h⟩ := bind_ok h
    obtain ⟨rest, hrest, h⟩ := bind_ok h
    cases h
    intro p c hmem
    rcases List.mem_cons.mp hmem with rfl | hmem
    · exact actionField_report ha
    · exact ih hrest p c hmem

/-- A rule record that PUT_RULE accepts gives its reports priorities of 0 to 3 (R67). -/
theorem parseRule_ranged {p : List Byte} {r : RuleId} {cfg : RuleConfig} (h : parseRule p = .ok (r, cfg)) :
    reportsRanged cfg := by
  unfold parseRule at h
  split at h
  · iterate 5 obtain ⟨_, -, h⟩ := bind_ok h
    obtain ⟨as, hactions, h⟩ := bind_ok h
    cases h
    exact actionFields_report hactions
  · cases h

theorem accepted_iff {α : Type} [DecidableEq α] {r : Except Turndown α} {x : α} : accepted r x = true ↔ r = .ok x := by
  cases r <;> simp [accepted]

/-- The profile of a slot that passes the checks of R203 has its priorities in range. -/
theorem profileRanged_of_checked {slot : Slot} {p : Profile} (h : checkedProfile slot = some p) : ProfileRanged p := by
  obtain ⟨_, _, _, hranges, _⟩ := (checkedProfile_eq_some_iff slot p).mp h
  simp only [rangesGood, Bool.and_eq_true] at hranges
  obtain ⟨⟨⟨⟨⟨⟨⟨⟨⟨⟨⟨⟨⟨_, hzones⟩, hrules⟩, _⟩, _⟩, _⟩, _⟩, _⟩, _⟩, _⟩, _⟩, _⟩, _⟩, _⟩ := hranges
  exact ⟨fun z cfg hz => parseZone_priority (accepted_iff.mp ((tableGood_iff ..).mp hzones z cfg hz)),
    fun r cfg hr => parseRule_ranged (accepted_iff.mp ((tableGood_iff ..).mp hrules r cfg hr))⟩

theorem Kept.judgePutZone (hP : Kept ranged P) : JudgementKeeps P judgePutZone :=
  configuration_keeps (judged_keeps_parsed fun _ _ _ hparse h => hP.putZone _ (parseZone_priority hparse) h)

theorem Kept.judgePutRule (hP : Kept ranged P) : JudgementKeeps P judgePutRule := by
  refine configuration_keeps (judged_keeps_parsed fun _ _ s hparse h => ?_)
  dsimp only
  split
  · exact h
  · exact hP.putRule _ (parseRule_ranged hparse) h

theorem Kept.completeRead (hP : Kept ranged P) (good : Bool) (h : P s) : P (completeRead good s) := by
  unfold Machine.completeRead
  split
  · split
    next p hread =>
      refine hP.change (.store fun _ q hq => ?_) h
      cases hq
      split at hread
      · exact profileRanged_of_checked hread
      · cases hread
    · exact hP.endOperation _ rfl h
  · exact h

end

end Sys2Proof.Machine
end

section
/-! What every command is made of, continued: the presentation scheduler. Between its acts and the choice of the source
the screen is not settled; the choice settles it. -/

namespace Sys2Proof.Machine

open Sys2Proof.Safety

/-! ### The screen before and after the choice of the source (R86, R88, R89, R97) -/

/-- What is still on screen, before the scheduler chooses again, agrees with the newest presentation. -/
structure ScreenPending (s : State) : Prop where
  held : s.sched.source.state = .hold → ∀ v, s.sched.hold = some v → newestPresentation s = .hold v
  request : s.sched.source.state = .request → ∀ q ∈ s.sched.requests, s.sched.source.shown = some q.origin →
    newestPresentation s = .request q.view q.origin
  blank : s.sched.source.state = .blank → newestPresentation s = .blank
  others : s.sched.source.state ≠ .request → s.sched.source.shown = none

/-- The entries of a set without two of one origin are told by their origins (R83). -/
theorem RequestsLaw.eq_of_origin {x : Scheduler} (h : RequestsLaw x) {q q' : Request} (hq : q ∈ x.requests)
    (hq' : q' ∈ x.requests) (horigin : q.origin = q'.origin) : q = q' :=
  List.inj_on_of_nodup_map h.origins hq hq' horigin

theorem screenPending_of_law {s : State} (hreq : RequestsLaw s.sched) (h : ScreenLaw s) : ScreenPending s where
  held _ := h.held
  request hstate q hq hshown := by
    obtain ⟨q', hq', hshown', hnewest⟩ := h.request hstate
    obtain rfl := hreq.eq_of_origin hq hq' (Option.some.inj (hshown.symm.trans hshown'))
    exact hnewest
  blank := h.blank
  others := h.others

/-- With a request's end on screen nothing is shown any longer (R86). -/
theorem screenPending_of_unshown {s : State} (hstate : s.sched.source.state = .request)
    (hshown : s.sched.source.shown = none) : ScreenPending s where
  held hhold := by simp [hstate] at hhold
  request _ _ _ h := by simp [hshown] at h
  blank hblank := by simp [hstate] at hblank
  others hother := absurd hstate hother

theorem newestPresentation_selectSource (c : SourceChoice) (s : State) :
    newestPresentation (selectSource c s) = presentationOf c := by
  simp [newestPresentation, selectSource, State.sendPresentation]

theorem origin_pauseRequest (now : Time) (q : Request) : (pauseRequest now q).origin = q.origin := by
  unfold pauseRequest; split <;> rfl

theorem origin_showRequest (now : Time) (o : Origin) (q : Request) : (showRequest now o q).origin = q.origin := by
  unfold showRequest; split <;> rfl

theorem view_pauseRequest (now : Time) (q : Request) : (pauseRequest now q).view = q.view := by
  unfold pauseRequest; split <;> rfl

theorem view_showRequest (now : Time) (o : Origin) (q : Request) : (showRequest now o q).view = q.view := by
  unfold showRequest; split <;> rfl

theorem origins_requestsUnder (now : Time) (c : SourceChoice) (rs : List Request) :
    (requestsUnder now c rs).map (·.origin) = rs.map (·.origin) := by
  cases c <;> simp [requestsUnder, Function.comp_def, origin_pauseRequest, origin_showRequest]

theorem RequestsLaw.of_origins {x y : Scheduler} (h : RequestsLaw x)
    (horigins : y.requests.map (·.origin) = x.requests.map (·.origin)) : RequestsLaw y :=
  ⟨by rw [← List.length_map (f := (·.origin)), horigins, List.length_map]; exact h.size, horigins ▸ h.origins⟩

theorem requestsLaw_selectSource (c : SourceChoice) {s : State} (h : RequestsLaw s.sched) :
    RequestsLaw (selectSource c s).sched :=
  h.of_origins (origins_requestsUnder s.now c s.sched.requests)

/-- The hold is on screen (R88, R89). -/
theorem screenLaw_select_hold {v : ViewId} {s : State} (hhold : s.sched.hold = some v) :
    ScreenLaw (selectSource (.hold v) s) where
  hold := iff_of_true (Option.isSome_iff_exists.mpr ⟨v, hhold⟩) rfl
  held v' hv' := by
    rw [newestPresentation_selectSource, Option.some.inj (hhold.symm.trans hv')]; rfl
  request := nofun
  rotating := nofun
  blank := nofun
  others _ := rfl
  empty hnone := absurd (hhold.symm.trans hnone) nofun

/-- A request of the set is on screen (R86, R89). -/
theorem screenLaw_select_request {q : Request} {s : State} (hhold : s.sched.hold = none)
    (hq : q ∈ s.sched.requests) : ScreenLaw (selectSource (.request q) s) where
  hold := iff_of_false (Option.not_isSome_iff_eq_none.mpr hhold) nofun
  held v hv := absurd (hhold.symm.trans hv) nofun
  request _ := by
    refine ⟨showRequest s.now q.origin (pauseRequest s.now q),
      List.mem_map_of_mem (List.mem_map_of_mem hq), ?_, ?_⟩
    · rw [origin_showRequest, origin_pauseRequest]; rfl
    · rw [newestPresentation_selectSource, origin_showRequest, origin_pauseRequest, view_showRequest, view_pauseRequest]
      rfl
  rotating := nofun
  blank := nofun
  others hother := absurd rfl hother
  empty _ hempty := by
    have hnone : s.sched.requests.map (·.origin) = [] := by
      rw [← origins_requestsUnder s.now (.request q)]
      exact congrArg (List.map (·.origin)) hempty
    exact absurd (List.map_eq_nil_iff.mp hnone) (List.ne_nil_of_mem hq)

/-- The rotation or BLANK is on screen (R89). -/
theorem screenLaw_select_rotation {s : State} (hhold : s.sched.hold = none) :
    ScreenLaw (selectSource (rotationChoice s.sched) s) := by
  have hblank : ScreenLaw (selectSource .blank s) :=
    { hold := iff_of_false (Option.not_isSome_iff_eq_none.mpr hhold) nofun
      held := fun v hv => absurd (hhold.symm.trans hv) nofun
      request := nofun
      rotating := nofun
      blank := fun _ => newestPresentation_selectSource ..
      others := fun _ => rfl
      empty := fun _ _ => .inr rfl }
  unfold rotationChoice
  split
  next k _ =>
    split
    next e he =>
      exact
        { hold := iff_of_false (Option.not_isSome_iff_eq_none.mpr hhold) nofun
          held := fun v hv => absurd (hhold.symm.trans hv) nofun
          request := nofun
          rotating := fun _ => ⟨e, he, newestPresentation_selectSource ..⟩
          blank := nofun
          others := fun _ => rfl
          empty := fun _ _ => .inl rfl }
    · exact hblank
  · exact hblank

/-- A source that is selected by R89 agrees with hold, requests and presentation, whatever was on screen. -/
theorem screenLaw_selectSource (s : State) : ScreenLaw (selectSource (sourceChoice s.sched) s) := by
  unfold sourceChoice
  split
  next hhold => exact screenLaw_select_hold hhold
  next hhold =>
    split
    next htop => exact screenLaw_select_request hhold (mem_of_topRequest htop)
    · exact screenLaw_select_rotation hhold

/-- The source that R89 yields again agrees with hold, requests and presentation. -/
theorem screenLaw_of_sameSource {s : State} (h : ScreenPending s)
    (hsame : sameSource s.sched.source (sourceChoice s.sched) = true) : ScreenLaw s := by
  unfold sourceChoice at hsame
  split at hsame
  next v hhold =>
    have hstate : s.sched.source.state = .hold := eq_of_beq hsame
    exact
      { hold := iff_of_true (Option.isSome_iff_exists.mpr ⟨v, hhold⟩) hstate
        held := h.held hstate
        request := fun hother => absurd (hstate.symm.trans hother) nofun
        rotating := fun hother => absurd (hstate.symm.trans hother) nofun
        blank := fun hother => absurd (hstate.symm.trans hother) nofun
        others := h.others
        empty := fun hnone => absurd (hhold.symm.trans hnone) nofun }
  next hhold =>
    split at hsame
    next q htop =>
      obtain ⟨hstate, hshown⟩ := (Bool.and_eq_true _ _).mp hsame
      replace hstate : s.sched.source.state = .request := eq_of_beq hstate
      replace hshown : s.sched.source.shown = some q.origin := eq_of_beq hshown
      have hq := mem_of_topRequest htop
      exact
        { hold := iff_of_false (Option.not_isSome_iff_eq_none.mpr hhold) (by simp [hstate])
          held := fun v hv => absurd (hhold.symm.trans hv) nofun
          request := fun _ => ⟨q, hq, hshown, h.request hstate q hq hshown⟩
          rotating := fun hother => absurd (hstate.symm.trans hother) nofun
          blank := fun hother => absurd (hstate.symm.trans hother) nofun
          others := h.others
          empty := fun _ hempty => absurd hempty (List.ne_nil_of_mem hq) }
    next htop =>
      have hstate : s.sched.source.state = .blank := by
        unfold rotationChoice at hsame
        split at hsame
        · split at hsame
          · exact absurd hsame Bool.false_ne_true
          · exact eq_of_beq hsame
        · exact eq_of_beq hsame
      exact
        { hold := iff_of_false (Option.not_isSome_iff_eq_none.mpr hhold) (by simp [hstate])
          held := fun v hv => absurd (hhold.symm.trans hv) nofun
          request := fun hother => absurd (hstate.symm.trans hother) nofun
          rotating := fun hother => absurd (hstate.symm.trans hother) nofun
          blank := h.blank
          others := h.others
          empty := fun _ _ => .inr hstate }

/-- The choice of the source settles the screen. -/
theorem screenLaw_chooseSource {s : State} (h : ScreenPending s) : ScreenLaw (chooseSource s) := by
  unfold chooseSource
  dsimp only
  split
  next hsame => exact screenLaw_of_sameSource h hsame
  · exact screenLaw_selectSource s

theorem requestsLaw_chooseSource {s : State} (h : RequestsLaw s.sched) : RequestsLaw (chooseSource s).sched := by
  unfold chooseSource
  dsimp only
  split
  · exact h
  · exact requestsLaw_selectSource _ h

/-! ### The scheduler has acted -/

section
variable {s : State} {x : Scheduler} {os : List Report}

/-- The scheduler has a new record and further reports are offered. -/
def acted (x : Scheduler) (os : List Report) (s : State) : State :=
  rescheduled x s.wires.presentations (s.wires.offers ++ os) s

theorem Rescheduled.of_acted (hos : ∀ r ∈ os, r.priority ≤ 3) (hreq : RequestsLaw s.sched → RequestsLaw x)
    (hscreen : RequestsLaw s.sched → ScreenLaw s → ScreenLaw (acted x os s)) : Rescheduled s (acted x os s) where
  frame := ⟨x, _, _, rfl, fun r hr => (List.mem_append.mp hr).imp_right (hos r)⟩
  requests := hreq
  screen := hscreen

/-- The scheduler has acted and chosen the source, which settles the screen. -/
theorem Rescheduled.of_chosen (hos : ∀ r ∈ os, r.priority ≤ 3) (hreq : RequestsLaw s.sched → RequestsLaw x)
    (hpending : RequestsLaw s.sched → ScreenLaw s → ScreenPending (acted x os s)) :
    Rescheduled s (chooseSource (acted x os s)) where
  frame := by
    have hoffers : ∀ r ∈ s.wires.offers ++ os, r ∈ s.wires.offers ∨ r.priority ≤ 3 := fun r hr =>
      (List.mem_append.mp hr).imp_right (hos r)
    unfold chooseSource
    dsimp only
    split
    · exact ⟨x, _, _, rfl, hoffers⟩
    · exact ⟨_, _, _, rfl, hoffers⟩
  requests h := requestsLaw_chooseSource (hreq h)
  screen h hlaw := screenLaw_chooseSource (hpending h hlaw)

theorem acted_nil (x : Scheduler) (s : State) : acted x [] s = s.setSched x := by
  rw [acted, List.append_nil]; rfl

end

section
variable {ranged : Prop} {P : State → Prop} {s : State}

theorem Kept.chooseSource (hP : Kept ranged P) (h : P s) : P (chooseSource s) := by
  have hsame : acted s.sched [] s = s := acted_nil ..
  have hchosen := Rescheduled.of_chosen (s := s) (x := s.sched) (os := []) nofun id
    fun hreq hlaw => by rw [hsame]; exact screenPending_of_law hreq hlaw
  rw [hsame] at hchosen
  exact hP.change (.rescheduled hchosen) h

/-- A change of the scheduler's record that leaves the laws as they are. -/
theorem Kept.setSched (hP : Kept ranged P) {x : Scheduler} (hreq : RequestsLaw s.sched → RequestsLaw x)
    (hscreen : ScreenLaw s → ScreenLaw (s.setSched x)) (h : P s) : P (s.setSched x) := by
  have hacted := Rescheduled.of_acted (s := s) (x := x) (os := []) nofun hreq
    fun _ hlaw => by rw [acted_nil]; exact hscreen hlaw
  rw [acted_nil] at hacted
  exact hP.change (.rescheduled hacted) h

/-- A change of the scheduler's record with the choice of the source behind it. -/
theorem Kept.setSchedChoose (hP : Kept ranged P) {x : Scheduler} (hreq : RequestsLaw s.sched → RequestsLaw x)
    (hpending : ScreenPending s → ScreenPending (s.setSched x)) (h : P s) :
    P (Machine.chooseSource (s.setSched x)) := by
  have hchosen := Rescheduled.of_chosen (s := s) (x := x) (os := []) nofun hreq
    fun hreq hlaw => by rw [acted_nil]; exact hpending (screenPending_of_law hreq hlaw)
  rw [acted_nil] at hchosen
  exact hP.change (.rescheduled hchosen) h

/-- What the laws on the scheduler speak of. -/
def onDisplay (x : Scheduler) : List Request × Option ViewId × List RotationEntry × SourceState × Nat × Option Origin :=
  (x.requests, x.hold, x.rotation, x.source.state, x.source.index, x.source.shown)

/-- The law on the screen speaks of what is on display and of the newest presentation alone. -/
theorem screenLaw_of_onDisplay {s t : State} (h : ScreenLaw s) (hsched : onDisplay t.sched = onDisplay s.sched)
    (hnewest : newestPresentation t = newestPresentation s) : ScreenLaw t := by
  simp only [onDisplay, Prod.mk.injEq] at hsched
  obtain ⟨hrequests, hhold, hrotation, hstate, hindex, hshown⟩ := hsched
  refine ⟨?_, ?_, ?_, ?_, ?_, ?_, ?_⟩ <;> simp only [hrequests, hhold, hrotation, hstate, hindex, hshown, hnewest]
  · exact h.hold
  · exact h.held
  · exact h.request
  · exact h.rotating
  · exact h.blank
  · exact h.others
  · exact h.empty

/-- A change of the copies, the views, the minimum show or a deadline. -/
theorem Kept.schedBeside (hP : Kept ranged P) {x : Scheduler} (hx : onDisplay x = onDisplay s.sched) (h : P s) :
    P (s.setSched x) :=
  hP.setSched (fun hreq => hreq.of_origins (congrArg (fun d => d.1.map (·.origin)) hx))
    (fun hlaw => screenLaw_of_onDisplay hlaw hx rfl) h

/-! ### The ends of requests (R86, R87) -/

theorem RequestsLaw.of_sublist {x y : Scheduler} (h : RequestsLaw x) (hsub : y.requests.Sublist x.requests) :
    RequestsLaw y :=
  ⟨hsub.length_le.trans h.size, (hsub.map _).nodup h.origins⟩

theorem onScreen_eq_true_iff (x : Scheduler) (o : Origin) :
    onScreen x o = true ↔ x.source.state = .request ∧ x.source.shown = some o := by
  simp [onScreen]

/-- The record after a request has left the set (R86). -/
theorem source_endRequest_of_shown {q : Request} (outcome : RequestOutcome)
    (hshown : onScreen s.sched q.origin = true) :
    (endRequest q outcome s).sched.source = { s.sched.source with shown := none } :=
  if_pos hshown

theorem source_endRequest_of_unseen {q : Request} (outcome : RequestOutcome)
    (hunseen : ¬ onScreen s.sched q.origin = true) : (endRequest q outcome s).sched.source = s.sched.source :=
  if_neg hunseen

/-- With the end of the request that is on screen nothing is shown any longer. -/
theorem screenPending_endRequest {q : Request} (outcome : RequestOutcome)
    (hshown : onScreen s.sched q.origin = true) : ScreenPending (endRequest q outcome s) := by
  have hsource := source_endRequest_of_shown outcome hshown
  exact screenPending_of_unshown (by rw [hsource]; exact ((onScreen_eq_true_iff ..).mp hshown).1) (by rw [hsource])

/-- The end of a request that is not on screen leaves the shown one in the set. -/
theorem screenLaw_endRequest {q : Request} (outcome : RequestOutcome) (hunseen : ¬ onScreen s.sched q.origin = true)
    (h : ScreenLaw s) : ScreenLaw (endRequest q outcome s) := by
  have hsource := source_endRequest_of_unseen outcome hunseen
  have hentry : s.sched.source.state = .request → ∃ q' ∈ (endRequest q outcome s).sched.requests,
      s.sched.source.shown = some q'.origin ∧ newestPresentation s = .request q'.view q'.origin := fun hstate => by
    obtain ⟨q', hq', hshown, hnewest⟩ := h.request hstate
    refine ⟨q', List.mem_filter.mpr ⟨hq', ?_⟩, hshown, hnewest⟩
    exact bne_iff_ne.mpr fun horigin => hunseen ((onScreen_eq_true_iff ..).mpr ⟨hstate, horigin ▸ hshown⟩)
  refine ⟨?_, h.held, ?_, ?_, ?_, ?_, fun hhold hempty => ?_⟩ <;> rw [hsource]
  · exact h.hold
  · exact hentry
  · exact h.rotating
  · exact h.blank
  · exact h.others
  · cases hstate : s.sched.source.state with
    | hold => exact absurd (h.hold.mpr hstate) (by rw [show s.sched.hold = none from hhold]; exact Bool.false_ne_true)
    | request =>
      obtain ⟨q', hq', _⟩ := hentry hstate
      rw [hempty] at hq'
      cases hq'
    | rotating => exact .inl rfl
    | blank => exact .inr rfl

theorem requestReport_priority (q : Request) (outcome : RequestOutcome) :
    ∀ r ∈ [requestReport s.now q outcome], r.priority ≤ 3 :=
  List.forall_mem_singleton.mpr (Nat.zero_le 3)

theorem Kept.endAndChoose (hP : Kept ranged P) (q : Request) (outcome : RequestOutcome) (h : P s) :
    P (endAndChoose q outcome s) := by
  have hreq : RequestsLaw s.sched → RequestsLaw (endRequest q outcome s).sched := fun hreq =>
    hreq.of_sublist List.filter_sublist
  unfold Machine.endAndChoose
  split
  next hshown => exact hP.change (.rescheduled (.of_chosen (requestReport_priority q outcome) hreq
      fun _ _ => screenPending_endRequest outcome hshown)) h
  next hunseen => exact hP.change (.rescheduled (.of_acted (requestReport_priority q outcome) hreq
      fun _ => screenLaw_endRequest outcome hunseen)) h

theorem Kept.expireDwell (hP : Kept ranged P) (h : P s) : P (expireDwell s) := by
  unfold Machine.expireDwell
  split
  · exact h
  · split
    · exact h
    · split
      · exact hP.endAndChoose _ _ h
      · exact h

theorem Kept.expireLifetime (hP : Kept ranged P) (o : Origin) (h : P s) : P (expireLifetime o s) := by
  unfold Machine.expireLifetime
  split
  · exact h
  · split
    · exact hP.endAndChoose _ _ h
    · exact h

theorem Kept.takeWithdrawal (hP : Kept ranged P) (o : Origin) (h : P s) : P (takeWithdrawal o s) := by
  unfold Machine.takeWithdrawal
  split
  · exact h
  · exact hP.endAndChoose _ _ h

theorem Kept.execWithdrawal (hP : Kept ranged P) (h : P s) : ∃ t, execWithdrawal s = .next t ∧ P t := by
  refine ⟨_, rfl, ?_⟩
  split
  · exact hP.takeWithdrawal _ (hP.paths rfl rfl h)
  · exact h

theorem Kept.judgeWithdraw (hP : Kept ranged P) : JudgementKeeps P judgeWithdraw := by
  refine judged_keeps fun _ s h => ?_
  split
  · exact h
  · exact hP.takeWithdrawal _ h

/-! ### Requests entering, and preemption (R85, R93) -/

/-- A new entry leaves the shown source as it is. -/
theorem screenLaw_enterRequest (q : ViewRequest) (h : ScreenLaw s) : ScreenLaw (enterRequest q s) where
  hold := h.hold
  held := h.held
  request hstate := by
    obtain ⟨q', hq', hshown, hnewest⟩ := h.request hstate
    exact ⟨q', List.mem_append_left _ hq', hshown, hnewest⟩
  rotating := h.rotating
  blank := h.blank
  others := h.others
  empty _ hempty := absurd hempty (List.append_ne_nil_of_right_ne_nil _ (List.cons_ne_nil _ _))

/-- A request of a new origin enters a set of fewer than 8 (R83, R85). -/
theorem requestsLaw_enterRequest {q : ViewRequest} (h : RequestsLaw s.sched) (hroom : s.sched.requests.length < 8)
    (hfree : ∀ x ∈ s.sched.requests, x.origin ≠ q.origin) : RequestsLaw (enterRequest q s).sched where
  size := by
    show (s.sched.requests ++ [newEntry s.now q]).length ≤ 8
    rw [List.length_append]; exact hroom
  origins := by
    show ((s.sched.requests ++ [newEntry s.now q]).map (·.origin)).Nodup
    rw [List.map_append, List.nodup_append]
    refine ⟨h.origins, List.nodup_singleton _, fun o ho o' ho' => ?_⟩
    obtain ⟨x, hx, rfl⟩ := List.mem_map.mp ho
    rw [List.map_singleton, List.mem_singleton] at ho'
    exact ho' ▸ hfree x hx

/-- A request enters in place of an entry (R83, R85). -/
theorem requestsLaw_enterOver {old : Request} {outcome : RequestOutcome} {q : ViewRequest}
    (hold : old ∈ s.sched.requests) (hfree : ∀ x ∈ s.sched.requests, x.origin = q.origin → x.origin = old.origin)
    (h : RequestsLaw s.sched) : RequestsLaw (enterRequest q (endRequest old outcome s)).sched := by
  have hleft : (s.sched.requests.filter fun x => x.origin != old.origin).length < s.sched.requests.length :=
    List.length_filter_lt_length_iff_exists.mpr ⟨old, hold, by simp⟩
  refine requestsLaw_enterRequest (h.of_sublist List.filter_sublist) (hleft.trans_le h.size) fun x hx horigin => ?_
  obtain ⟨hmem, hne⟩ := List.mem_filter.mp hx
  exact bne_iff_ne.mp hne (hfree x hmem horigin)

theorem Kept.preempt (hP : Kept ranged P) (h : P s) : P (preempt s) := by
  unfold Machine.preempt
  split
  · exact hP.chooseSource h
  · exact hP.schedBeside rfl h

theorem Kept.judgeEntry (hP : Kept ranged P) (o : Origin) (h : P s) : P (judgeEntry o s) := by
  unfold Machine.judgeEntry
  split
  · exact h
  · exact hP.chooseSource h
  · exact hP.preempt h
  · split
    · exact hP.preempt h
    · exact h

/-- A request enters in place of an entry, which was on screen or was not (R85, R93). -/
theorem Kept.enterOver (hP : Kept ranged P) {old : Request} (outcome : RequestOutcome) {q : ViewRequest}
    (hold : old ∈ s.sched.requests)
    (hfree : ∀ x ∈ s.sched.requests, x.origin = q.origin → x.origin = old.origin) (h : P s) :
    P (enterOver old outcome q s) := by
  have hreq := requestsLaw_enterOver (outcome := outcome) hold hfree
  have hos := requestReport_priority (s := s) old outcome
  have hentered : enterRequest q (endRequest old outcome s) =
      acted (enterRequest q (endRequest old outcome s)).sched [requestReport s.now old outcome] s := rfl
  unfold Machine.enterOver
  dsimp only
  split
  next hshown =>
    have hsource : (enterRequest q (endRequest old outcome s)).sched.source = _ :=
      source_endRequest_of_shown outcome hshown
    have hpending := screenPending_of_unshown (s := enterRequest q (endRequest old outcome s))
      (by rw [hsource]; exact ((onScreen_eq_true_iff ..).mp hshown).1) (by rw [hsource])
    have hchosen := Rescheduled.of_chosen hos hreq fun _ _ => hentered ▸ hpending
    exact hP.change (.rescheduled hchosen) h
  next hunseen =>
    have hacted := Rescheduled.of_acted hos hreq fun _ hlaw =>
      screenLaw_enterRequest q (screenLaw_endRequest outcome hunseen hlaw)
    exact hP.judgeEntry _ (hP.change (.rescheduled hacted) h)

theorem Kept.takeRequest (hP : Kept ranged P) (q : ViewRequest) (h : P s) : P (takeRequest q s).2 := by
  have hrefused : ∀ outcome, P (refuseRequest q outcome s) := fun _ => hP.offer (fun _ => Nat.zero_le 3) h
  unfold Machine.takeRequest
  split
  · exact hrefused _
  · split
    next old hsome =>
      obtain ⟨hmem, horigin⟩ := requestOf_some hsome
      exact hP.enterOver _ hmem (fun _ _ hx => hx.trans horigin.symm) h
    next hnone =>
      have hfree := (requestOf_none_iff ..).mp hnone
      split
      next hroom =>
        exact hP.judgeEntry _ (hP.setSched (fun hreq => requestsLaw_enterRequest hreq hroom hfree)
          (screenLaw_enterRequest q) h)
      · split
        next hcandidate =>
          split
          · exact hP.enterOver _ (mem_of_evictionCandidate hcandidate)
              (fun x hx horigin => absurd horigin (hfree x hx)) h
          · exact hrefused _
        · exact h

theorem Kept.execViewRequest (hP : Kept ranged P) (h : P s) : ∃ t, execViewRequest s = .next t ∧ P t := by
  refine ⟨_, rfl, ?_⟩
  split
  · exact hP.takeRequest _ (hP.paths rfl rfl h)
  · exact h

theorem Kept.judgeShowView (hP : Kept ranged P) : JudgementKeeps P judgeShowView := by
  refine judged_keeps fun q s h => ?_
  have htaken := hP.takeRequest q h
  split
  · exact h
  · split
    next heq => exact congrArg Prod.snd heq ▸ htaken
    next heq => exact congrArg Prod.snd heq ▸ htaken

/-! ### Deferral and rotation (R82, R91–R96) -/

theorem Kept.elapseDeferral (hP : Kept ranged P) (h : P s) : P (elapseDeferral s) := by
  have hdiscarded : P (s.setSched { s.sched with source := { s.sched.source with deferral := none } }) :=
    hP.schedBeside rfl h
  unfold Machine.elapseDeferral
  dsimp only
  split
  · exact hP.chooseSource hdiscarded
  · split
    · exact hdiscarded
    · exact hP.chooseSource hdiscarded
  · exact hdiscarded

theorem Kept.expireDeferral (hP : Kept ranged P) (h : P s) : P (expireDeferral s) := by
  unfold Machine.expireDeferral
  split
  · exact hP.elapseDeferral h
  · exact h

theorem Kept.setMinShow (hP : Kept ranged P) (m : Nat) (h : P s) : P (setMinShow m s) := by
  have hwritten : P (s.setSched { s.sched with minShow := m }) := hP.schedBeside rfl h
  unfold Machine.setMinShow
  dsimp only
  split
  · exact hwritten
  · split
    · exact hP.elapseDeferral hwritten
    · exact hP.schedBeside rfl hwritten

/-- The index and the rotation list enter the screen by the choice alone (R91). -/
theorem Kept.advance (hP : Kept ranged P) (h : P s) : P (advance s) :=
  hP.setSchedChoose (fun hreq => ⟨hreq.size, hreq.origins⟩)
    (fun hpending => ⟨hpending.held, hpending.request, hpending.blank, hpending.others⟩) h

theorem Kept.expireRotation (hP : Kept ranged P) (h : P s) : P (expireRotation s) := by
  unfold Machine.expireRotation
  split
  · exact hP.advance h
  · exact h

theorem Kept.advanceUnshowable (hP : Kept ranged P) (h : P s) : P (advanceUnshowable s) := by
  unfold Machine.advanceUnshowable
  split
  · exact h
  · exact hP.advance h

theorem Kept.takeSchedNotice (hP : Kept ranged P) (c : CameraId) (n : CameraNotice) (h : P s) :
    P (takeSchedNotice c n s) := by
  have hcopied : P (s.setSched { s.sched with camCopy := upd s.sched.camCopy c n.new }) := hP.schedBeside rfl h
  unfold Machine.takeSchedNotice
  dsimp only
  split
  · exact hP.advanceUnshowable hcopied
  · split
    · exact hP.chooseSource hcopied
    · exact hcopied
  · exact hcopied

theorem Kept.execCameraNoticeAtScheduler (hP : Kept ranged P) (c : CameraId) (h : P s) :
    ∃ t, execCameraNoticeAtScheduler c s = .next t ∧ P t := by
  refine ⟨_, rfl, ?_⟩
  split
  · exact hP.takeSchedNotice _ _ (hP.paths rfl rfl h)
  · exact h

theorem Kept.putView (hP : Kept ranged P) (v : ViewId) (cfg : ViewConfig) (h : P s) : P (putView v cfg s) := by
  have hstored : P (s.setSched { s.sched with views := upd s.sched.views v (some cfg) }) := hP.schedBeside rfl h
  unfold Machine.putView
  dsimp only
  split
  · exact hP.advanceUnshowable hstored
  · exact hP.chooseSource hstored
  · exact hstored

theorem Kept.judgeDropView (hP : Kept ranged P) : JudgementKeeps P judgeDropView := by
  refine configuration_keeps (judged_keeps fun v s h => ?_)
  split
  · exact h
  · split
    · exact h
    · exact hP.schedBeside rfl h

/-- A new rotation list enters the screen by the choice, or waits behind a request or the hold (R81). -/
theorem Kept.setRotation (hP : Kept ranged P) (es : List RotationEntry) (h : P s) : P (setRotation es s) := by
  have hreq : RequestsLaw s.sched →
      RequestsLaw { s.sched with rotation := es, source := { s.sched.source with index := 0 } } := fun hreq =>
    ⟨hreq.size, hreq.origins⟩
  have hchosen := hP.setSchedChoose hreq
    (fun hpending => ⟨hpending.held, hpending.request, hpending.blank, hpending.others⟩) h
  unfold Machine.setRotation
  dsimp only
  split
  · exact hchosen
  · exact hchosen
  next hrotating _ => exact hP.setSched hreq (fun hlaw => ⟨hlaw.hold, hlaw.held, hlaw.request,
      fun hstate => absurd hstate hrotating, hlaw.blank, hlaw.others, hlaw.empty⟩) h

theorem Kept.judgeSetRotation (hP : Kept ranged P) : JudgementKeeps P judgeSetRotation := by
  refine configuration_keeps (judged_keeps fun es s h => ?_)
  split
  · exact h
  · exact hP.setRotation _ h

/-! ### The hold and the restored schedule (R88, R102) -/

/-- The hold is selected at once, whatever was on screen (R88). -/
theorem rescheduled_hold (v : ViewId) (s : State) :
    Rescheduled s (selectSource (.hold v) (s.setSched { s.sched with hold := some v })) where
  frame := ⟨_, _, s.wires.offers, rfl, fun _ => .inl⟩
  requests hreq := requestsLaw_selectSource (.hold v) (s := s.setSched { s.sched with hold := some v })
    ⟨hreq.size, hreq.origins⟩
  screen _ _ := screenLaw_select_hold rfl

theorem Kept.setHold (hP : Kept ranged P) (v : ViewId) (h : P s) : P (setHold v s) := by
  unfold Machine.setHold
  split
  · exact h
  · exact hP.change (.rescheduled (rescheduled_hold v s)) h

theorem Kept.judgeHold (hP : Kept ranged P) : JudgementKeeps P judgeHold := by
  refine judged_keeps fun v s h => ?_
  split
  · exact h
  · exact hP.setHold _ h

theorem Kept.releaseHold (hP : Kept ranged P) (h : P s) : P (releaseHold s) := by
  unfold Machine.releaseHold
  split
  · exact h
  · exact hP.setSchedChoose (fun hreq => ⟨hreq.size, hreq.origins⟩)
      (fun hpending => ⟨fun _ _ hnone => (nomatch hnone), hpending.request, hpending.blank, hpending.others⟩) h

/-- Every request ends and the hold is cleared; the choice from the restored rotation settles the screen (R102). -/
theorem Kept.restoreSchedule (hP : Kept ranged P) (p : Profile) (h : P s) : P (restoreSchedule p s) := by
  obtain ⟨src, hstate, hkept, hrestored⟩ := restoreSchedule_eq p s
  rw [hrestored]
  refine hP.change (.rescheduled (.of_chosen (fun r hr => ?_) (fun _ => ⟨Nat.zero_le _, List.nodup_nil⟩)
    fun _ hlaw => ⟨fun _ _ hnone => (nomatch hnone), fun _ _ hq => (nomatch hq), fun hblank => ?_, fun hother => ?_⟩)) h
  · obtain ⟨q, _, rfl⟩ := List.mem_map.mp hr
    exact Nat.zero_le 3
  · exact hlaw.blank (hstate.symm.trans hblank)
  · replace hother : s.sched.source.state ≠ .request := fun hsame => hother (hstate.trans hsame)
    exact (congrArg Source.shown (hkept hother)).trans (hlaw.others hother)

end

end Sys2Proof.Machine
end

section
/-! What every command is made of, concluded: a property that every kind of change keeps is kept by every command. -/

namespace Sys2Proof.Machine

open Sys2Proof.Safety

section
variable {ranged : Prop} {P : State → Prop} {s : State}

/-- The judgement of every kind of host command is made of changes. -/
theorem Kept.hostCommand (hP : Kept ranged P) (kind : Byte) : JudgementKeeps P (hostCommand kind).2 := by
  unfold Machine.hostCommand
  split
  · exact query_keeps
  · exact judged_keeps fun q _ h => hP.openSession q h
  · exact judged_keeps fun _ _ h => hP.closeLink h
  · exact query_keeps
  · exact query_keeps
  · exact judged_keeps fun _ _ h => hP.linkBeside rfl rfl rfl h
  · exact query_keeps
  · exact configuration_keeps (judged_keeps fun x _ h => hP.writeCamera .notice x.1 x.2 h)
  · exact query_keeps
  · exact configuration_keeps (judged_keeps fun _ _ h => hP.change (.zones fun hasked => (hP.ranges hasked h).zones) h)
  · exact query_keeps
  · exact hP.judgePutZone
  · exact hP.judgeDropZone
  · exact hP.judgeRelearnZone
  · exact ZoneBlind.judgeGetZone
  · exact hP.judgePutRule
  · exact hP.judgeDropRule
  · exact hP.judgeArmRule
  · exact RuleBlind.judgeGetRule
  · exact configuration_keeps (judged_keeps fun x _ h => hP.putView x.1 x.2 h)
  · exact hP.judgeDropView
  · exact hP.judgeSetRotation
  · exact configuration_keeps (judged_keeps fun m _ h => hP.setMinShow m h)
  · exact hP.judgeShowView
  · exact hP.judgeWithdraw
  · exact hP.judgeHold
  · exact judged_keeps fun _ _ h => hP.releaseHold h
  · exact query_keeps
  · exact configuration_keeps (judged_keeps fun f _ h => hP.writeFilter f h)
  · exact SessionBlind.judgePull
  · exact hP.judgeAck
  · exact hP.judgeSetLine
  · exact judged_keeps fun _ _ h => hP.setLine _ _ h
  · exact query_keeps
  · exact configuration_keeps (judged_keeps fun _ _ h => hP.headNoLonger le_rfl h)
  · exact hP.judgeRelay
  · exact hP.judgeCancelRelay
  · exact query_keeps
  · exact hP.judgeCommit
  · exact hP.judgeRestore
  · exact hP.judgeErase
  · exact query_keeps
  · exact fun _ _ h => h

/-- Every command is made of changes: it answers with a state in which the property holds again. -/
theorem Kept.exec (hP : Kept ranged P) (i : Instr) (h : P s) : ∃ t, exec i s = .next t ∧ P t := by
  have hcommand : ∀ {i kind}, hostKind i = some kind → ∃ t, Machine.exec i s = .next t ∧ P t := fun hi => by
    obtain ⟨test, any, hexec⟩ := exec_hostKind hi s
    exact ⟨_, hexec, hP.takeWhen (hP.hostCommand _) test any h⟩
  match i with
  | .powerOn _ => exact ⟨_, rfl, hP.fullReset _ _ _ h⟩
  | .resetLine _ => exact ⟨_, rfl, hP.fullReset _ _ _ h⟩
  | .timeBaseTick => exact ⟨_, rfl, hP.change (.now _) h⟩
  | .fieldEnd c f => exact ⟨_, rfl, hP.takeFieldEnd c f h⟩
  | .runDeadlineExpiry c => exact ⟨_, rfl, hP.expireRun c h⟩
  | .lossDeadlineExpiry c => exact ⟨_, rfl, hP.expireLoss c h⟩
  | .lostDeadlineExpiry c => exact ⟨_, rfl, hP.expireLost c h⟩
  | .firstActiveLine c => exact ⟨_, rfl, hP.takeFirstLine c h⟩
  | .fieldSummary c => exact hP.execFieldSummary c h
  | .cameraNoticeAtZones c => exact hP.execCameraNoticeAtZones c h
  | .zoneTransition => exact hP.execZoneTransition h
  | .lineTransition l => exact hP.execLineTransition l h
  | .restartNotice => exact hP.execRestartNotice h
  | .stepDeadlineExpiry r => exact ⟨_, rfl, hP.expireStep r h⟩
  | .cooldownDeadlineExpiry r => exact ⟨_, rfl, hP.expireCooldown r h⟩
  | .viewRequest => exact hP.execViewRequest h
  | .withdrawal => exact hP.execWithdrawal h
  | .cameraNoticeAtScheduler c => exact hP.execCameraNoticeAtScheduler c h
  | .dwellDeadlineExpiry => exact ⟨_, rfl, hP.expireDwell h⟩
  | .lifetimeDeadlineExpiry o => exact ⟨_, rfl, hP.expireLifetime o h⟩
  | .rotationDeadlineExpiry => exact ⟨_, rfl, hP.expireRotation h⟩
  | .deferralDeadlineExpiry => exact ⟨_, rfl, hP.expireDeferral h⟩
  | .presentation => exact hP.execPresentation h
  | .outputFrameStart => exact ⟨_, rfl, hP.startFrame h⟩
  | .reportOffer k => exact hP.execReportOffer k h
  | .retransmitDeadlineExpiry => exact ⟨_, rfl, hP.expireRetransmit h⟩
  | .pushStallNotice => exact hP.execPushStallNotice h
  | .pinLevelChange l => exact hP.execPinLevelChange l h
  | .debounceDeadlineExpiry l => exact ⟨_, rfl, hP.expireDebounce l h⟩
  | .latchClaim => exact hP.execLatchClaim h
  | .latchDrop => exact hP.execLatchDrop h
  | .pulseClaim => exact hP.execPulseClaim h
  | .pulseDeadlineExpiry l => exact ⟨_, rfl, hP.expirePulse l h⟩
  | .recall => exact hP.execRecall h
  | .requestFrameComplete => exact ⟨_, rfl, hP.completeRequest h⟩
  | .replyFrame _ _ _ _ => exact ⟨_, rfl, hP.takeReply _ _ _ h⟩
  | .replyDeadlineExpiry => exact ⟨_, rfl, hP.expireReply h⟩
  | .turnaroundGapEnd => exact hP.execTurnaroundGapEnd h
  | .hostByteReceived _ _ => exact ⟨_, rfl, hP.receiveHostByte hP.hostCommand _ _ h⟩
  | .gapDeadlineExpiry => exact ⟨_, rfl, hP.expireGap h⟩
  | .silenceDeadlineExpiry => exact ⟨_, rfl, hP.expireSilence h⟩
  | .frameTxComplete _ => exact ⟨_, rfl, hP.completeFrame hP.hostCommand _ h⟩
  | .unknownKind => exact ⟨_, rfl, hP.takeWhen (hP.hostCommand 0x00) _ _ h⟩
  | .restoreZones => exact ⟨_, rfl, hP.takePart h fun _ hp => hP.restoreZones hp h⟩
  | .restoreLines => exact ⟨_, rfl, hP.takePart h fun p _ => hP.restoreLines p h⟩
  | .restoreSchedule => exact ⟨_, rfl, hP.takePart h fun p _ => hP.restoreSchedule p h⟩
  | .restoreRulesRemove => exact ⟨_, rfl, hP.takePart h fun _ _ => hP.removeRules h⟩
  | .restoreRulesArm => exact hP.execRestoreRulesArm h
  | .restoreCamera c => exact ⟨_, rfl, hP.takePart h fun p _ => hP.writeCamera _ c (p.cameras.get c) h⟩
  | .restoreFilter => exact ⟨_, rfl, hP.takePart h fun p _ => hP.writeFilter p.filter h⟩
  | .restoreHeadlink => exact ⟨_, rfl, hP.takePart h fun _ _ => hP.headNoLonger le_rfl h⟩
  | .partTakenNotice p => exact ⟨_, rfl, hP.takePartNotice p h⟩
  | .restoreReadDone good => exact ⟨_, rfl, hP.completeRead good h⟩
  | .commitWriteDone stored => exact ⟨_, rfl, hP.completeWrite stored h⟩
  | .commitVerifyDone good => exact ⟨_, rfl, hP.completeVerify good h⟩
  | .generationWriteDone back erased => exact ⟨_, rfl, hP.completeGeneration back erased h⟩
  | .erasePrepareDone a b => exact ⟨_, rfl, hP.completeErase a b h⟩
  | .setCamera | .getCamera | .setClass | .getClass | .putZone | .dropZone | .relearnZone | .getZone | .putRule
  | .dropRule | .armRule | .getRule | .putView | .dropView | .setRotation | .setMinshow | .showView | .withdraw
  | .hold | .release | .getScreen | .setFilter | .pull | .ack | .setLine | .driveLine | .getLines | .relay
  | .cancelRelay | .setHeadlink | .getRelays | .hello | .openSession | .closeSession | .ping | .setLink | .restart
  | .time | .commit | .restore | .eraseProfile | .getProfile => exact hcommand rfl

/-- A command has one outcome, and in it the property holds. -/
theorem Kept.next (hP : Kept ranged P) {i : Instr} {t : State} (h : P s) (hexec : Machine.exec i s = .next t) :
    P t := by
  obtain ⟨u, hnext, hkept⟩ := hP.exec i h
  cases hexec.symm.trans hnext
  exact hkept

end

end Sys2Proof.Machine
end

section
/-! The laws on the queues and on the screen (R83, R88, R89, R97, R98, R110–R112, R119–R121, R124, R140, R160, R162,
R163), through every kind of change. -/

namespace Sys2Proof.Machine

open Sys2Proof.Safety

/-! ### Sequences and priorities in the order of entry (R110–R112) -/

/-- Of each record, by its sequence and priority: how many have entered since it is at least itself, at most those that
are behind it and for each that was displaced a rise in their priorities, and more than for any behind it. -/
def KeysOrdered (next : Nat) : List (Nat × Nat) → Prop
  | [] => True
  | k :: ks => (1 ≤ enteredSince k.1 next ∧ enteredSince k.1 next ≤ 1 + ks.length + (ks.map (·.2)).sum ∧
      ∀ x ∈ ks, enteredSince x.1 next < enteredSince k.1 next) ∧ KeysOrdered next ks

/-- The sequences and priorities of the report queue's records, oldest first, under its next sequence. -/
structure KeysLaw (next : Nat) (ks : List (Nat × Nat)) : Prop where
  sequence : 1 ≤ next ∧ next ≤ 65535
  range : ∀ k ∈ ks, 1 ≤ k.1 ∧ k.1 ≤ 65535
  order : KeysOrdered next ks
  priorities : ∀ k ∈ ks, k.2 ≤ 3

theorem keysOrdered_of_append {next : Nat} {ks ks' : List (Nat × Nat)} (h : KeysOrdered next (ks ++ ks')) :
    KeysOrdered next ks' := by
  induction ks with
  | nil => exact h
  | cons k ks ih => exact ih h.2

theorem KeysLaw.of_append {next : Nat} {ks ks' : List (Nat × Nat)} (h : KeysLaw next (ks ++ ks')) :
    KeysLaw next ks' where
  sequence := h.sequence
  range k hk := h.range k (List.mem_append_right _ hk)
  order := keysOrdered_of_append h.order
  priorities k hk := h.priorities k (List.mem_append_right _ hk)

theorem nodup_of_keysOrdered {next : Nat} {ks : List (Nat × Nat)} (h : KeysOrdered next ks) :
    (ks.map (·.1)).Nodup := by
  induction ks with
  | nil => exact List.nodup_nil
  | cons k ks ih =>
    obtain ⟨⟨_, _, hbehind⟩, hks⟩ := h
    refine List.nodup_cons.mpr ⟨fun hmem => ?_, ih hks⟩
    obtain ⟨x, hx, hsame⟩ := List.mem_map.mp hmem
    exact absurd (hbehind x hx) (by rw [hsame]; exact lt_irrefl _)

theorem sum_le_of_priorities {ks : List (Nat × Nat)} (h : ∀ k ∈ ks, k.2 ≤ 3) : (ks.map (·.2)).sum ≤ 3 * ks.length := by
  induction ks with
  | nil => exact Nat.zero_le _
  | cons k ks ih =>
    obtain ⟨hk, hks⟩ := List.forall_mem_cons.mp h
    have hsum := ih hks
    simp only [List.map_cons, List.sum_cons, List.length_cons]
    omega

/-- Sequences run from 1 to 65535 and from there to 1, so another entry is one more, short of a full round (R110). -/
theorem enteredSince_nextSequence {seq next : Nat} (hseq : 1 ≤ seq ∧ seq ≤ 65535)
    (hfew : enteredSince seq next < 65534) : enteredSince seq (nextSequence next) = enteredSince seq next + 1 := by
  unfold enteredSince nextSequence at *
  split <;> omega

theorem enteredSince_own (next : Nat) : enteredSince next (nextSequence next) = 1 := by
  unfold enteredSince nextSequence
  split <;> omega

theorem nextSequence_range {next : Nat} (hnext : 1 ≤ next ∧ next ≤ 65535) :
    1 ≤ nextSequence next ∧ nextSequence next ≤ 65535 := by
  unfold nextSequence
  split <;> omega

/-- At most 32 records with priorities to 3 have seen far fewer than 65535 enter. -/
theorem KeysLaw.few {next : Nat} {ks : List (Nat × Nat)} (h : KeysLaw next ks) (hsize : ks.length ≤ 32) :
    ∀ k ∈ ks, enteredSince k.1 (nextSequence next) = enteredSince k.1 next + 1 := by
  intro k hk
  refine enteredSince_nextSequence (h.range k hk) ?_
  obtain ⟨before, behind, rfl⟩ := List.append_of_mem hk
  obtain ⟨⟨_, hfew, _⟩, _⟩ := keysOrdered_of_append h.order
  have hsum := sum_le_of_priorities fun x hx => h.priorities x (List.mem_append_right _ (List.mem_cons_of_mem _ hx))
  simp only [List.length_append, List.length_cons] at hsize
  omega

/-- A record enters: for each that is there one more has entered, and one more is behind it (R110, R111). -/
theorem keysOrdered_enter {next p : Nat} {ks : List (Nat × Nat)}
    (hone : ∀ k ∈ ks, enteredSince k.1 (nextSequence next) = enteredSince k.1 next + 1) (h : KeysOrdered next ks) :
    KeysOrdered (nextSequence next) (ks ++ [(next, p)]) := by
  induction ks with
  | nil => exact ⟨⟨(enteredSince_own next).ge, (enteredSince_own next).le, nofun⟩, trivial⟩
  | cons k ks ih =>
    obtain ⟨hk, hks⟩ := List.forall_mem_cons.mp hone
    obtain ⟨⟨hself, hfew, hbehind⟩, hrest⟩ := h
    rw [List.cons_append]
    refine ⟨⟨by omega, ?_, fun x hx => ?_⟩, ih hks hrest⟩
    · simp only [List.length_append, List.length_singleton, List.map_append, List.map_singleton, List.sum_append,
        List.sum_singleton]
      omega
    · rcases List.mem_append.mp hx with hx | hx
      · rw [hks x hx, hk]
        exact Nat.succ_lt_succ (hbehind x hx)
      · rw [List.mem_singleton.mp hx, enteredSince_own next]
        omega

/-- A record enters in place of one of lower priority: behind each that stood before that one as many stand as before,
and their priorities have risen (R112). -/
theorem keysOrdered_displace {next p : Nat} {v : Nat × Nat} {older newer : List (Nat × Nat)}
    (hlower : v.2 < p)
    (hone : ∀ k ∈ older ++ v :: newer, enteredSince k.1 (nextSequence next) = enteredSince k.1 next + 1)
    (h : KeysOrdered next (older ++ v :: newer)) :
    KeysOrdered (nextSequence next) (older ++ newer ++ [(next, p)]) := by
  induction older with
  | nil => exact keysOrdered_enter (List.forall_mem_cons.mp hone).2 h.2
  | cons k older ih =>
    obtain ⟨hk, hks⟩ := List.forall_mem_cons.mp hone
    rw [List.cons_append] at h
    obtain ⟨⟨hself, hfew, hbehind⟩, hrest⟩ := h
    have hleft : ∀ x ∈ older ++ newer, x ∈ older ++ v :: newer := fun x hx =>
      (List.mem_append.mp hx).elim (List.mem_append_left _) fun hx =>
        List.mem_append_right _ (List.mem_cons_of_mem _ hx)
    rw [List.cons_append, List.cons_append]
    refine ⟨⟨by omega, ?_, fun x hx => ?_⟩, ih hks hrest⟩
    · simp only [List.length_append, List.length_cons, List.map_append, List.map_cons, List.sum_append,
        List.sum_cons] at hfew ⊢
      omega
    · rcases List.mem_append.mp hx with hx | hx
      · rw [hks x (hleft x hx), hk]
        exact Nat.succ_lt_succ (hbehind x (hleft x hx))
      · rw [List.mem_singleton.mp hx, enteredSince_own next]
        omega

theorem KeysLaw.enter {next p : Nat} {ks : List (Nat × Nat)} (h : KeysLaw next ks) (hroom : ks.length < 32)
    (hp : p ≤ 3) : KeysLaw (nextSequence next) (ks ++ [(next, p)]) where
  sequence := nextSequence_range h.sequence
  range := List.forall_mem_append.mpr ⟨h.range, List.forall_mem_singleton.mpr h.sequence⟩
  order := keysOrdered_enter (h.few hroom.le) h.order
  priorities := List.forall_mem_append.mpr ⟨h.priorities, List.forall_mem_singleton.mpr hp⟩

theorem KeysLaw.displace {next p : Nat} {v : Nat × Nat} {older newer : List (Nat × Nat)}
    (h : KeysLaw next (older ++ v :: newer)) (hsize : (older ++ v :: newer).length ≤ 32) (hlower : v.2 < p)
    (hp : p ≤ 3) : KeysLaw (nextSequence next) (older ++ newer ++ [(next, p)]) := by
  obtain ⟨holder, hnewer⟩ := List.forall_mem_append.mp h.range
  obtain ⟨holder', hnewer'⟩ := List.forall_mem_append.mp h.priorities
  exact
    { sequence := nextSequence_range h.sequence
      range := List.forall_mem_append.mpr ⟨List.forall_mem_append.mpr ⟨holder, (List.forall_mem_cons.mp hnewer).2⟩,
        List.forall_mem_singleton.mpr h.sequence⟩
      order := keysOrdered_displace hlower (h.few hsize) h.order
      priorities := List.forall_mem_append.mpr
        ⟨List.forall_mem_append.mpr ⟨holder', (List.forall_mem_cons.mp hnewer').2⟩,
          List.forall_mem_singleton.mpr hp⟩ }

end Sys2Proof.Machine
end

section
/-! The records of the report queue through every change of it (R110–R112, R116, R117, R119–R121, R124). -/

namespace Sys2Proof.Machine

open Sys2Proof.Safety

/-! ### The law on the records, in a form for lists -/

/-- What the order of entry speaks of in a record. -/
def recordKey (r : Record) : Nat × Nat := (r.seq, r.report.priority)

/-- The law on the records of the report queue: their keys in the order of entry, the marked ones at the oldest end, the
sequences of a round among those of the PUSHED ones. -/
structure EntriesLaw (q : ReportQueue) : Prop where
  keys : KeysLaw q.nextSeq (q.records.map recordKey)
  marks : q.records.Pairwise fun a b => b.mark ≠ .unsent → a.mark ≠ .unsent
  round : ∀ ns, q.delivery.round = some ns → ∀ n ∈ ns, ∃ r ∈ q.records, r.seq = n ∧ r.mark = .pushed

/-- The order of entry, of every split of the records. -/
theorem keysOrdered_iff {next : Nat} (rs : List Record) : KeysOrdered next (rs.map recordKey) ↔
    ∀ before r behind, rs = before ++ r :: behind →
      1 ≤ enteredSince r.seq next ∧
      enteredSince r.seq next ≤ 1 + behind.length + (behind.map (·.report.priority)).sum ∧
      ∀ x ∈ behind, enteredSince x.seq next < enteredSince r.seq next := by
  have hhead : ∀ (r : Record) (behind : List Record),
      (1 ≤ enteredSince (recordKey r).1 next ∧ enteredSince (recordKey r).1 next ≤
          1 + (behind.map recordKey).length + ((behind.map recordKey).map (·.2)).sum ∧
        ∀ x ∈ behind.map recordKey, enteredSince x.1 next < enteredSince (recordKey r).1 next) ↔
      1 ≤ enteredSince r.seq next ∧
        enteredSince r.seq next ≤ 1 + behind.length + (behind.map (·.report.priority)).sum ∧
        ∀ x ∈ behind, enteredSince x.seq next < enteredSince r.seq next := fun r behind => by
    simp only [recordKey, List.length_map, List.map_map, Function.comp_def, List.forall_mem_map]
  induction rs with
  | nil => exact iff_of_true trivial fun before r behind h => by simp at h
  | cons x xs ih =>
    refine (and_congr (hhead x xs) ih).trans ⟨fun ⟨hx, hxs⟩ before r behind hsplit => ?_, fun h =>
      ⟨h [] x xs rfl, fun before r behind hsplit => h (x :: before) r behind (by rw [hsplit]; rfl)⟩⟩
    cases before with
    | nil =>
      obtain ⟨rfl, rfl⟩ := List.cons_eq_cons.mp hsplit
      exact hx
    | cons y before =>
      obtain ⟨_, hsplit⟩ := List.cons_eq_cons.mp hsplit
      exact hxs before r behind hsplit

theorem pairwise_iff_of_split {α : Type} {R : α → α → Prop} {l : List α} :
    l.Pairwise R ↔ ∀ before r behind, l = before ++ r :: behind → ∀ x ∈ before, R x r := by
  constructor
  · rintro h before r behind rfl x hx
    obtain ⟨_, _, hacross⟩ := List.pairwise_append.mp h
    exact hacross x hx r List.mem_cons_self
  · intro h
    induction l with
    | nil => exact List.Pairwise.nil
    | cons a l ih =>
      refine List.Pairwise.cons (fun b hb => ?_) (ih fun before r behind hsplit x hx =>
        h (a :: before) r behind (by rw [hsplit]; rfl) x (List.mem_cons_of_mem _ hx))
      obtain ⟨before, behind, rfl⟩ := List.append_of_mem hb
      exact h (a :: before) b behind rfl a List.mem_cons_self

/-- The law on reports is the law on the queue's records and that on the ranges of priorities. -/
theorem reportsLaw_iff (s : State) : ReportsLaw s ↔ EntriesLaw s.reports ∧ RangesLaw s := by
  have hmarks : (s.reports.records.Pairwise fun a b => b.mark ≠ .unsent → a.mark ≠ .unsent) ↔
      ∀ before r behind, s.reports.records = before ++ r :: behind → r.mark ≠ .unsent →
        ∀ x ∈ before, x.mark ≠ .unsent :=
    pairwise_iff_of_split.trans ⟨fun h before r behind hsplit hr x hx => h before r behind hsplit x hx hr,
      fun h before r behind hsplit x hx hr => h before r behind hsplit hr x hx⟩
  constructor
  · intro h
    exact
      ⟨{ keys :=
          { sequence := h.next
            range := List.forall_mem_map.mpr h.range
            order := (keysOrdered_iff _).mpr h.order
            priorities := List.forall_mem_map.mpr h.priorities }
         marks := hmarks.mpr h.marks
         round := h.round },
       { offers := h.offers
         zones := h.zones
         rules := h.rules
         applying := fun p hp => ⟨(h.applying p hp).1, (h.applying p hp).2⟩ }⟩
  · rintro ⟨h, hranges⟩
    exact
      { next := h.keys.sequence
        range := List.forall_mem_map.mp h.keys.range
        order := (keysOrdered_iff _).mp h.keys.order
        marks := hmarks.mp h.marks
        round := h.round
        priorities := List.forall_mem_map.mp h.keys.priorities
        offers := hranges.offers
        zones := hranges.zones
        rules := hranges.rules
        applying := fun p hp => ⟨(hranges.applying p hp).zones, (hranges.applying p hp).rules⟩ }

theorem EntriesLaw.nodup {q : ReportQueue} (h : EntriesLaw q) : (q.records.map (·.seq)).Nodup := by
  have hkeys := nodup_of_keysOrdered h.keys.order
  rwa [List.map_map] at hkeys

/-- The records are told by their sequences (R110, R111). -/
theorem EntriesLaw.eq_of_seq {q : ReportQueue} (h : EntriesLaw q) {r r' : Record} (hr : r ∈ q.records)
    (hr' : r' ∈ q.records) (hseq : r.seq = r'.seq) : r = r' :=
  List.inj_on_of_nodup_map h.nodup hr hr' hseq

theorem EntriesLaw.seq_ne_of_split {q : ReportQueue} (h : EntriesLaw q) {pre post : List Record} {r : Record}
    (hsplit : q.records = pre ++ r :: post) : ∀ x ∈ pre, x.seq ≠ r.seq := by
  have hnodup := h.nodup
  rw [hsplit, List.map_append, List.map_cons, List.nodup_append] at hnodup
  obtain ⟨_, _, hacross⟩ := hnodup
  exact fun x hx => hacross _ (List.mem_map_of_mem hx) _ List.mem_cons_self

/-! ### Marks (R116, R119, R120) -/

/-- A record that is not PUSHED, behind marked ones only, is marked SENDING or PUSHED (R119, R120). -/
theorem EntriesLaw.remark {q : ReportQueue} (h : EntriesLaw q) {pre post : List Record} {r : Record} {m : DeliveryMark}
    {d : Delivery} (hsplit : q.records = pre ++ r :: post) (hpre : ∀ x ∈ pre, x.mark ≠ .unsent) (hm : m ≠ .unsent)
    (hr : r.mark ≠ .pushed) (hround : d.round = q.delivery.round) :
    EntriesLaw { q with records := pre ++ { r with mark := m } :: post, delivery := d } := by
  have hkeys := h.keys
  have hmarks := h.marks
  rw [hsplit] at hkeys hmarks
  obtain ⟨hmarksPre, hmarksPost, _⟩ := List.pairwise_append.mp hmarks
  obtain ⟨_, hmarksPost⟩ := List.pairwise_cons.mp hmarksPost
  refine ⟨?_, ?_, fun ns hns n hn => ?_⟩
  · simpa only [List.map_append, List.map_cons, recordKey] using hkeys
  · exact List.pairwise_append.mpr ⟨hmarksPre, List.pairwise_cons.mpr ⟨fun _ _ _ => hm, hmarksPost⟩,
      fun x hx _ _ _ => hpre x hx⟩
  · obtain ⟨w, hw, hseq, hpushed⟩ := h.round ns (hround ▸ hns) n hn
    rw [hsplit, List.mem_append, List.mem_cons] at hw
    rcases hw with hw | rfl | hw
    · exact ⟨w, List.mem_append_left _ hw, hseq, hpushed⟩
    · exact absurd hpushed hr
    · exact ⟨w, List.mem_append_right _ (List.mem_cons_of_mem _ hw), hseq, hpushed⟩

/-- The record that a sequence names, if it is SENDING, is the one that a mark by that sequence changes. -/
theorem split_of_isSending {n : Nat} {rs : List Record} (h : isSending n rs = true) :
    ∃ pre r post, rs = pre ++ r :: post ∧ r.mark = .sending ∧
      ∀ m, markRecord n m rs = pre ++ { r with mark := m } :: post := by
  unfold isSending at h
  split at h
  next r hr =>
    obtain ⟨hseq, pre, post, rfl, hpre⟩ := List.find?_eq_some_iff_append.mp hr
    exact ⟨pre, r, post, rfl, eq_of_beq h, fun m => markRecord_split m (eq_of_beq hseq) (by simpa using hpre)⟩
  · cases h

theorem EntriesLaw.sending {q : ReportQueue} (h : EntriesLaw q) {r : Record} (hr : oldestUnsent q.records = some r) :
    EntriesLaw { q with records := markRecord r.seq .sending q.records } := by
  obtain ⟨hunsent, pre, post, hsplit, hpre⟩ := List.find?_eq_some_iff_append.mp hr
  rw [hsplit, markRecord_split _ rfl (h.seq_ne_of_split hsplit)]
  exact h.remark hsplit (by simpa using hpre) (by decide) (by rw [eq_of_beq hunsent]; decide) rfl

theorem EntriesLaw.pushed {q : ReportQueue} (h : EntriesLaw q) {n : Nat} {d : Delivery}
    (hsending : isSending n q.records = true) (hround : d.round = q.delivery.round) :
    EntriesLaw { q with records := markRecord n .pushed q.records, delivery := d } := by
  obtain ⟨pre, r, post, hsplit, hr, hmark⟩ := split_of_isSending hsending
  rw [hmark]
  refine h.remark hsplit (fun x hx => ?_) (by decide) (by rw [hr]; decide) hround
  exact pairwise_iff_of_split.mp h.marks pre r post hsplit x hx (by rw [hr]; decide)

theorem EntriesLaw.unsent {q : ReportQueue} (h : EntriesLaw q) {d : Delivery} (hround : d.round = none) :
    EntriesLaw { q with records := unsentRecords q.records, delivery := d } where
  keys := by
    have hsame : (unsentRecords q.records).map recordKey = q.records.map recordKey := by
      simp only [unsentRecords, List.map_map]; rfl
    exact hsame ▸ h.keys
  marks := by
    simp only [unsentRecords, List.pairwise_map]
    exact List.pairwise_of_forall fun _ _ hne => absurd rfl hne
  round ns hns := absurd (hround.symm.trans hns) nofun

/-- A change of the delivery state whose round is none or within the one that was. -/
theorem EntriesLaw.deliver {q : ReportQueue} (h : EntriesLaw q) {d : Delivery}
    (hround : ∀ ns, d.round = some ns → ∀ n ∈ ns, ∃ r ∈ q.records, r.seq = n ∧ r.mark = .pushed) :
    EntriesLaw { q with delivery := d } :=
  ⟨h.keys, h.marks, hround⟩

/-! ### Entry and overflow (R111, R112) -/

theorem EntriesLaw.enter {q : ReportQueue} (h : EntriesLaw q) {r : Report} {rs : List Record}
    (hsub : rs.Sublist q.records)
    (hkeys : KeysLaw (nextSequence q.nextSeq) (rs.map recordKey ++ [(q.nextSeq, r.priority)]))
    (hpushed : ∀ w ∈ q.records, w.mark = .pushed → w ∈ rs) (dropped : Nat) :
    EntriesLaw (enterRecord r { q with records := rs, dropped := dropped }) where
  keys := by rw [enterRecord, List.map_append]; exact hkeys
  marks := List.pairwise_append.mpr ⟨h.marks.sublist hsub, List.pairwise_singleton _ _,
    fun _ _ b hb hne => absurd (by rw [List.mem_singleton.mp hb]) hne⟩
  round ns hns n hn := by
    obtain ⟨w, hw, hseq, hmark⟩ := h.round ns hns n hn
    exact ⟨w, List.mem_append_left _ (hpushed w hw hmark), hseq, hmark⟩

/-- The victim is UNSENT and yields to a report of higher priority (R112). -/
theorem EntriesLaw.displace {q : ReportQueue} (h : EntriesLaw q) {r : Report} {v : Record} (hr : r.priority ≤ 3)
    (hsize : q.records.length ≤ 32) (hv : victimOf q.records = some v) (hlower : v.report.priority < r.priority)
    (dropped : Nat) : EntriesLaw (enterRecord r
      { q with records := q.records.filter fun x => x.seq != v.seq, dropped := dropped }) := by
  obtain ⟨hmem, hunsent⟩ := victimOf_mem hv
  refine h.enter List.filter_sublist ?_ (fun w hw hpushed => List.mem_filter.mpr ⟨hw, bne_iff_ne.mpr fun hseq => ?_⟩)
    dropped
  · obtain ⟨older, newer, hsplit⟩ := List.append_of_mem hmem
    have hkeys := h.keys
    have hnodup := h.nodup
    rw [hsplit] at hkeys hnodup hsize ⊢
    rw [filter_seq_split hnodup, List.map_append]
    rw [List.map_append, List.map_cons] at hkeys
    refine hkeys.displace ?_ hlower hr
    simpa using hsize
  · rw [h.eq_of_seq hw hmem hseq, hunsent] at hpushed
    cases hpushed

theorem EntriesLaw.takeReport {q : ReportQueue} (h : EntriesLaw q) {r : Report} (hr : r.priority ≤ 3)
    (hsize : q.records.length ≤ 32) : EntriesLaw (takeReport r q) := by
  have hdropped : EntriesLaw (countDrop q) := ⟨h.keys, h.marks, h.round⟩
  unfold Machine.takeReport
  split
  · split
    next hroom =>
      exact h.enter (List.Sublist.refl _) (h.keys.enter (by rwa [List.length_map]) hr) (fun _ hw _ => hw) q.dropped
    · unfold overflow
      split
      next hv =>
        split
        next hlower => exact h.displace hr hsize hv hlower _
        · exact hdropped
      · exact hdropped
  · exact h

/-! ### Acknowledgement (R123, R124) -/

theorem suffix_of_recordsAfter {seq : Nat} {rs left : List Record} (h : recordsAfter seq rs = some left) :
    ∃ removed, rs = removed ++ left := by
  induction rs with
  | nil => cases h
  | cons r rs ih =>
    unfold recordsAfter at h
    split at h
    · exact ⟨[r], by rw [← Option.some.inj h]; rfl⟩
    · obtain ⟨removed, hsplit⟩ := ih h
      exact ⟨r :: removed, by rw [hsplit]; rfl⟩

/-- A round after an ACK names records that are left (R124). -/
theorem mem_of_roundAfter {left : List Record} {online : Option Nat} {round : Option (List Nat)} {ns : List Nat}
    (h : roundAfter left online round = some ns) :
    ∀ n ∈ ns, (∃ ms, round = some ms ∧ n ∈ ms) ∧ ∃ r ∈ left, r.seq = n := by
  unfold roundAfter at h
  split at h
  · cases h
  · split at h
    · cases h; exact nofun
    · cases h
  next m ms =>
    split at h
    · cases h
    next hkept =>
      cases h
      intro n hn
      obtain ⟨hmem, hleft⟩ := List.mem_filter.mp hn
      obtain ⟨r, hr, hseq⟩ := List.any_eq_true.mp hleft
      exact ⟨⟨_, rfl, hmem⟩, r, hr, eq_of_beq hseq⟩

theorem EntriesLaw.acked {q : ReportQueue} (h : EntriesLaw q) {seq : Nat} {left : List Record} (now : Time)
    (online : Option Nat) (hleft : recordsAfter seq q.records = some left) :
    EntriesLaw (ackQueue now left online q) := by
  obtain ⟨removed, hsplit⟩ := suffix_of_recordsAfter hleft
  have hkeys := h.keys
  have hmarks := h.marks
  rw [hsplit] at hkeys hmarks
  rw [List.map_append] at hkeys
  obtain ⟨_, hmarks, _⟩ := List.pairwise_append.mp hmarks
  refine ⟨hkeys.of_append, hmarks, fun ns hns n hn => ?_⟩
  obtain ⟨⟨ms, hms, hmem⟩, r, hr, hseq⟩ := mem_of_roundAfter hns n hn
  obtain ⟨w, hw, hwseq, hpushed⟩ := h.round ms hms n hmem
  have hsame := h.eq_of_seq (hsplit ▸ List.mem_append_right _ hr) hw (hseq.trans hwseq.symm)
  exact ⟨r, hr, hseq, hsame ▸ hpushed⟩

/-! ### Every change of the report queue -/

/-- A first send is of the oldest UNSENT record, a resend leaves the round (R119). -/
theorem EntriesLaw.started {q : ReportQueue} (h : EntriesLaw q) {stalled : Bool} {r : Record} {resend : Bool}
    (hdue : frameDue q stalled = some (r, resend)) : EntriesLaw (startReport q r resend) := by
  unfold frameDue at hdue
  split at hdue
  · split at hdue
    next n ns hround =>
      obtain ⟨r, _, hr⟩ := Option.map_eq_some_iff.mp hdue
      cases hr
      refine h.deliver fun ms hms m hm => h.round _ hround m (List.mem_cons_of_mem _ ?_)
      rw [hround] at hms
      cases hms
      exact hm
    · cases hdue
    next hround =>
      split at hdue
      · obtain ⟨r, hunsent, hr⟩ := Option.map_eq_some_iff.mp hdue
        cases hr
        exact h.sending hunsent
      · cases hdue
  · cases hdue

theorem EntriesLaw.delivered {q q' : ReportQueue} (h : EntriesLaw q) (hq : Delivered q q') : EntriesLaw q' := by
  cases hq with
  | filtered f => exact ⟨h.keys, h.marks, h.round⟩
  | started hdue => exact h.started hdue
  | completed now seq resend =>
    unfold completeReport
    split
    · split
      · exact h.deliver nofun
      · exact h
    · split
      next hsending => exact h.pushed hsending rfl
      · exact h
  | opened mode window retransmit => exact h.unsent rfl
  | closed => exact h.unsent rfl
  | round =>
    refine h.deliver fun ns hns n hn => ?_
    cases hns
    obtain ⟨r, hr, hseq⟩ := List.mem_map.mp hn
    obtain ⟨hmem, hpushed⟩ := List.mem_filter.mp hr
    exact ⟨r, hmem, hseq, eq_of_beq hpushed⟩
  | stall => exact h.deliver h.round
  | acked now online hleft => exact h.acked now online hleft

end Sys2Proof.Machine
end

section
/-! The laws on the queues, on the window, on the reports and on the screen, kept by every command. -/

namespace Sys2Proof.Machine

open Sys2Proof.Safety

/-! ### Sizes (R83, R111, R140, R160, R162, R163) -/

theorem length_markRecord (n : Nat) (m : DeliveryMark) (rs : List Record) : (markRecord n m rs).length = rs.length := by
  induction rs with
  | nil => rfl
  | cons r rs ih =>
    unfold markRecord
    split
    · rfl
    · exact congrArg (· + 1) ih

theorem length_startReport (q : ReportQueue) (r : Record) (resend : Bool) :
    (startReport q r resend).records.length = q.records.length := by
  unfold startReport
  split
  · rfl
  · exact length_markRecord _ _ _

theorem length_completeReport (now : Time) (seq : Nat) (resend : Bool) (q : ReportQueue) :
    (completeReport now seq resend q).records.length = q.records.length := by
  unfold completeReport
  split
  · split <;> rfl
  · split
    · exact length_markRecord _ _ _
    · rfl

theorem Delivered.length_le {q q' : ReportQueue} (h : Delivered q q') : q'.records.length ≤ q.records.length := by
  cases h with
  | filtered f => exact le_rfl
  | started hdue => exact (length_startReport ..).le
  | completed now seq resend => exact (length_completeReport ..).le
  | opened mode window retransmit => exact (unsentRecords_length _).le
  | closed => exact (unsentRecords_length _).le
  | round => exact le_rfl
  | stall => exact le_rfl
  | acked now online hleft =>
    obtain ⟨removed, hsplit⟩ := suffix_of_recordsAfter hleft
    rw [hsplit]
    exact (List.suffix_append removed _).length_le

/-- A report that finds the queue full enters in place of its victim (R111, R112). -/
theorem length_takeReport_le {r : Report} {q : ReportQueue} (h : q.records.length ≤ 32) :
    (takeReport r q).records.length ≤ 32 := by
  unfold takeReport
  split
  · split
    next hroom => exact (List.length_append ..).trans_le hroom
    · unfold overflow
      split
      next v hv =>
        split
        · have hless : (q.records.filter fun x => x.seq != v.seq).length < q.records.length :=
            List.length_filter_lt_length_iff_exists.mpr ⟨v, (victimOf_mem hv).1, by simp⟩
          exact (List.length_append ..).trans_le (hless.trans_le h)
        · exact h
      · exact h
  · exact h

theorem linkSized_of_queuesLaw {s : State} (h : QueuesLaw s) : LinkSized s.link := ⟨h.commands, h.cache, h.immediate⟩

theorem requestsLaw_of_queuesLaw {s : State} (h : QueuesLaw s) : RequestsLaw s.sched := ⟨h.requests, h.origins⟩

/-- The law on capacities, from the four blocks that hold queues. -/
theorem queuesLaw_of_blocks {s : State} (hreports : s.reports.records.length ≤ 32) (hsched : RequestsLaw s.sched)
    (hhead : s.head.queue.length ≤ 8) (hlink : LinkSized s.link) : QueuesLaw s :=
  ⟨hreports, hsched.size, hsched.origins, hhead, hlink.commands, hlink.cache, hlink.immediate⟩

theorem queuesLaw_change {ranged : Prop} {s t : State} (hchange : Change ranged s t) (h : QueuesLaw s) :
    QueuesLaw t := by
  have hlink := linkSized_of_queuesLaw h
  have hsched := requestsLaw_of_queuesLaw h
  cases hchange with
  | head hx => exact queuesLaw_of_blocks h.records hsched (hx h.relays) hlink
  | link hx => exact queuesLaw_of_blocks h.records hsched h.relays (hx hlink)
  | delivered hq => exact queuesLaw_of_blocks (hq.length_le.trans h.records) hsched h.relays hlink
  | entered _ => exact queuesLaw_of_blocks (length_takeReport_le h.records) hsched h.relays hlink
  | rescheduled hacted =>
    have hrequests := hacted.requests hsched
    obtain ⟨x, ps, os, rfl, _⟩ := hacted.frame
    exact queuesLaw_of_blocks h.records hrequests h.relays hlink
  | reset straps rate std =>
    exact queuesLaw_of_blocks (Nat.le_add_left 1 31) ⟨Nat.zero_le _, List.nodup_nil⟩ (Nat.zero_le _)
      ⟨Nat.zero_le _, Nat.zero_le _, Nat.zero_le _⟩
  | now | cams | pins | lines | fresh | zones | rules | store | paths | offer | comp | presented =>
    exact queuesLaw_of_blocks h.records hsched h.relays hlink

theorem queuesLaw_kept : Kept False QueuesLaw where
  change := queuesLaw_change
  ranges := False.elim

/-! ### The window (R119, R120) -/

/-- The law on the window, of the report queue. -/
def WindowHolds (q : ReportQueue) : Prop :=
  if q.delivery.session = .opened ∧ q.delivery.mode = .push then inDelivery q.records ≤ q.delivery.window
  else inDelivery q.records = 0

/-- Fewer marked records, under the same session, mode and window, are within the window as well. -/
theorem WindowHolds.of_le {q q' : ReportQueue} (h : WindowHolds q) (hsession : q'.delivery.session = q.delivery.session)
    (hmode : q'.delivery.mode = q.delivery.mode) (hwindow : q'.delivery.window = q.delivery.window)
    (hle : inDelivery q'.records ≤ inDelivery q.records) : WindowHolds q' := by
  unfold WindowHolds at h ⊢
  rw [hsession, hmode, hwindow]
  split at h
  next hpush => exact (if_pos hpush).mpr (hle.trans h)
  next hpull => exact (if_neg hpull).mpr (Nat.le_zero.mp (hle.trans_eq h))

theorem windowHolds_of_none {q : ReportQueue} (h : inDelivery q.records = 0) : WindowHolds q := by
  unfold WindowHolds
  split
  · exact h.trans_le (Nat.zero_le _)
  · exact h

theorem inDelivery_append (rs rs' : List Record) : inDelivery (rs ++ rs') = inDelivery rs + inDelivery rs' :=
  List.countP_append

theorem inDelivery_cons (r : Record) (rs : List Record) :
    inDelivery (r :: rs) = inDelivery rs + if r.mark = .unsent then 0 else 1 := by
  rw [inDelivery, List.countP_cons]
  cases hmark : r.mark <;> rfl

/-- A mark is one more at most. -/
theorem inDelivery_markRecord_le (n : Nat) (m : DeliveryMark) (rs : List Record) :
    inDelivery (markRecord n m rs) ≤ inDelivery rs + 1 := by
  induction rs with
  | nil => exact Nat.zero_le _
  | cons r rs ih =>
    unfold markRecord
    split
    · rw [inDelivery_cons, inDelivery_cons]
      split <;> omega
    · rw [inDelivery_cons, inDelivery_cons]
      omega

/-- A record that is SENDING and becomes PUSHED is in delivery as before. -/
theorem inDelivery_pushed {n : Nat} {rs : List Record} (h : isSending n rs = true) :
    inDelivery (markRecord n .pushed rs) = inDelivery rs := by
  obtain ⟨pre, r, post, rfl, hr, hmark⟩ := split_of_isSending h
  rw [hmark, inDelivery_append, inDelivery_append, inDelivery_cons, inDelivery_cons, if_neg (by simp),
    if_neg (by rw [hr]; decide)]

theorem WindowHolds.started {q : ReportQueue} (h : WindowHolds q) {stalled : Bool} {r : Record} {resend : Bool}
    (hdue : frameDue q stalled = some (r, resend)) : WindowHolds (startReport q r resend) := by
  unfold frameDue at hdue
  split at hdue
  next hdelivering =>
    simp only [Bool.and_eq_true, beq_iff_eq] at hdelivering
    split at hdue
    · obtain ⟨r, _, hr⟩ := Option.map_eq_some_iff.mp hdue
      cases hr
      exact h.of_le rfl rfl rfl le_rfl
    · cases hdue
    · split at hdue
      next hroom =>
        obtain ⟨r, _, hr⟩ := Option.map_eq_some_iff.mp hdue
        cases hr
        exact (if_pos hdelivering.1).mpr ((inDelivery_markRecord_le ..).trans hroom)
      · cases hdue
  · cases hdue

theorem WindowHolds.delivered {q q' : ReportQueue} (h : WindowHolds q) (hq : Delivered q q') : WindowHolds q' := by
  cases hq with
  | filtered f => exact h
  | started hdue => exact h.started hdue
  | completed now seq resend =>
    unfold completeReport
    split
    · split
      · exact h.of_le rfl rfl rfl le_rfl
      · exact h
    · split
      next hsending => exact h.of_le rfl rfl rfl (inDelivery_pushed hsending).le
      · exact h
  | opened mode window retransmit => exact windowHolds_of_none (inDelivery_unsentRecords _)
  | closed => exact windowHolds_of_none (inDelivery_unsentRecords _)
  | round => exact h.of_le rfl rfl rfl le_rfl
  | stall => exact h.of_le rfl rfl rfl le_rfl
  | acked now online hleft =>
    obtain ⟨removed, hsplit⟩ := suffix_of_recordsAfter hleft
    refine h.of_le rfl rfl rfl ?_
    rw [hsplit, inDelivery_append]
    exact Nat.le_add_left _ _

/-- A report enters UNSENT, perhaps in place of another record (R110, R112). -/
theorem WindowHolds.takeReport {q : ReportQueue} (h : WindowHolds q) (r : Report) : WindowHolds (takeReport r q) := by
  have hentered : ∀ rs : List Record, inDelivery (rs ++ [⟨q.nextSeq, r, .unsent⟩]) = inDelivery rs := fun rs => by
    rw [inDelivery_append]; rfl
  unfold Machine.takeReport
  split
  · split
    · exact h.of_le rfl rfl rfl (hentered _).le
    · unfold overflow
      split
      · split
        · exact h.of_le rfl rfl rfl ((hentered _).trans_le (List.filter_sublist.countP_le))
        · exact h
      · exact h
  · exact h

theorem windowLaw_kept : Kept False WindowLaw where
  change {s t} hchange (h : WindowHolds s.reports) := by
    cases hchange with
    | delivered hq => exact h.delivered hq
    | entered _ => exact h.takeReport _
    | rescheduled hacted =>
      obtain ⟨x, ps, os, rfl, _⟩ := hacted.frame
      exact h
    | reset straps rate std => exact windowHolds_of_none rfl
    | now | cams | pins | lines | fresh | zones | rules | store | head | link | paths | offer | comp | presented =>
      exact h
  ranges := False.elim

end Sys2Proof.Machine
end

section
/-! The laws on the reports and on the screen, kept by every command, and what they settle. -/

namespace Sys2Proof.Machine

open Sys2Proof.Safety

/-! ### The profile a full reset loads (R206) -/

theorem profileRanged_usable {x : ProfileStore} {id : SlotId} {c : SlotId × Profile} (h : usable x id = some c) :
    ProfileRanged c.2 := by
  unfold usable at h
  split at h
  · obtain ⟨p, hp, rfl⟩ := Option.map_eq_some_iff.mp h
    exact profileRanged_of_checked hp
  · cases h

theorem profileRanged_factory : ProfileRanged factoryProfile where
  zones z cfg hz := by simp [factoryProfile, Vector.get_eq_getElem] at hz
  rules r cfg hr := by simp [factoryProfile, Vector.get_eq_getElem] at hr

theorem profileRanged_loadedProfile (s3 : Level) (x : ProfileStore) :
    ProfileRanged (loadedProfile (chosenSlot s3 x)) := by
  unfold loadedProfile
  split
  next id p hchosen =>
    unfold chosenSlot at hchosen
    split at hchosen
    · rcases Option.or_eq_some_iff.mp hchosen with hfound | ⟨_, hfound⟩
      · exact profileRanged_usable hfound
      · exact profileRanged_usable hfound
    · cases hchosen
  · exact profileRanged_factory

theorem rangesLaw_startBlocks (straps : Straps) (rate : HostRate) (std : Standard) (s : State) :
    RangesLaw (startBlocks straps rate std s) := by
  have hp := profileRanged_loadedProfile straps.s3 (rebuiltStore s.store)
  refine ⟨nofun, fun z zone hz => ?_, fun r rule hr => ?_, nofun⟩
  · simp only [startBlocks, startZones, Vector.get_eq_getElem, Vector.getElem_map, Option.map_eq_some_iff] at hz
    obtain ⟨cfg, hcfg, rfl⟩ := hz
    exact hp.zones z cfg hcfg
  · simp only [startBlocks, startRules, Vector.get_eq_getElem, Vector.getElem_map, Option.map_eq_some_iff] at hr
    obtain ⟨cfg, hcfg, rfl⟩ := hr
    exact hp.rules r cfg hcfg

/-- The start-up report is the only record after a full reset (R114). -/
theorem entriesLaw_startReports (p : Profile) {r : Report} (hr : r.priority ≤ 3) : EntriesLaw (startReports p r) := by
  have hempty : EntriesLaw ⟨p.filter, [], 1, 0, ⟨.closed, .pull, 1, 10, 0, none, none⟩⟩ :=
    ⟨⟨⟨le_rfl, (by decide : 1 ≤ 65535)⟩, nofun, trivial, nofun⟩, List.Pairwise.nil, nofun⟩
  exact hempty.enter (List.Sublist.refl _) (hempty.keys.enter (Nat.zero_lt_succ _) hr) (fun _ hw _ => hw) 0

/-! ### The reports (R105, R111, R119, R121) -/

/-- The ranges of priorities through every kind of change that is asked to keep them. -/
theorem rangesLaw_change {s t : State} (hchange : Change True s t) (h : RangesLaw s) : RangesLaw t := by
  cases hchange with
  | zones hx => exact ⟨h.offers, hx trivial, h.rules, h.applying⟩
  | rules hx => exact ⟨h.offers, h.zones, hx trivial, h.applying⟩
  | store hx => exact ⟨h.offers, h.zones, h.rules, hx trivial⟩
  | paths hoffers _ => exact ⟨fun r hr => h.offers r (hoffers ▸ hr), h.zones, h.rules, h.applying⟩
  | offer hr =>
    exact ⟨List.forall_mem_append.mpr ⟨h.offers, List.forall_mem_singleton.mpr (hr trivial)⟩, h.zones, h.rules,
      h.applying⟩
  | @entered k r rest hoffer =>
    obtain ⟨_, pre, post, hoffers, hrest, _⟩ := nextOffer_some hoffer
    refine ⟨fun x hx => h.offers x ?_, h.zones, h.rules, h.applying⟩
    replace hx : x ∈ rest := hx
    rw [hrest, List.nil_append] at hx
    rw [hoffers]
    exact (List.mem_append.mp hx).elim (List.mem_append_left _) fun hx =>
      List.mem_append_right _ (List.mem_cons_of_mem _ hx)
  | rescheduled hacted =>
    obtain ⟨x, ps, os, rfl, hos⟩ := hacted.frame
    exact ⟨fun r hr => (hos r hr).elim (h.offers r) id, h.zones, h.rules, h.applying⟩
  | reset straps rate std => exact rangesLaw_startBlocks straps rate std s
  | now | cams | pins | lines | fresh | head | link | delivered | comp | presented =>
    exact ⟨h.offers, h.zones, h.rules, h.applying⟩

/-- The law on the records through every kind of change, within the capacity and the ranges. -/
theorem entriesLaw_change {ranged : Prop} {s t : State} (hchange : Change ranged s t)
    (hsize : s.reports.records.length ≤ 32) (hranges : RangesLaw s) (h : EntriesLaw s.reports) :
    EntriesLaw t.reports := by
  cases hchange with
  | delivered hq => exact h.delivered hq
  | @entered k r rest hoffer =>
    obtain ⟨_, pre, post, hoffers, _⟩ := nextOffer_some hoffer
    exact h.takeReport (hranges.offers r (by rw [hoffers]; exact List.mem_append_right _ List.mem_cons_self)) hsize
  | rescheduled hacted =>
    obtain ⟨x, ps, os, rfl, _⟩ := hacted.frame
    exact h
  | reset straps rate std => exact entriesLaw_startReports _ (by decide : 2 ≤ 3)
  | now | cams | pins | lines | fresh | zones | rules | store | head | link | paths | offer | comp | presented =>
    exact h

theorem reportsLaw_kept : Kept True fun s => QueuesLaw s ∧ ReportsLaw s where
  change {s t} hchange h := by
    obtain ⟨hqueues, hreports⟩ := h
    obtain ⟨hentries, hranges⟩ := (reportsLaw_iff s).mp hreports
    exact ⟨queuesLaw_change hchange hqueues, (reportsLaw_iff t).mpr
      ⟨entriesLaw_change hchange hqueues.records hranges hentries, rangesLaw_change hchange hranges⟩⟩
  ranges _ {s} h := ((reportsLaw_iff s).mp h.2).2

/-! ### The screen (R86, R88, R89, R97, R98) -/

theorem screenLaw_startBlocks (straps : Straps) (rate : HostRate) (std : Standard) (s : State) :
    ScreenLaw (startBlocks straps rate std s) where
  hold := iff_of_false Bool.false_ne_true nofun
  held := nofun
  request := nofun
  rotating := nofun
  blank _ := rfl
  others _ := rfl
  empty _ _ := .inr rfl

/-- The presentation that becomes pending is as new as it was on its way (R98). -/
theorem newestPresentation_presented {s : State} {p : Presentation} {rest : List Presentation}
    (h : s.wires.presentations = p :: rest) : newestPresentation
      ((s.setWires { s.wires with presentations := rest }).setComp { s.comp with pending := some p }) =
        newestPresentation s := by
  unfold newestPresentation
  rw [h]
  cases rest with
  | nil => rfl
  | cons x rest => rw [List.getLast?_cons_cons]; rfl

theorem screenLaw_change {ranged : Prop} {s t : State} (hchange : Change ranged s t) (hqueues : QueuesLaw s)
    (h : ScreenLaw s) : ScreenLaw t := by
  cases hchange with
  | paths _ hpresentations =>
    exact screenLaw_of_onDisplay h rfl (by unfold newestPresentation; rw [State.setWires_wires, hpresentations]; rfl)
  | comp hx => exact screenLaw_of_onDisplay h rfl (congrArg (Option.getD _) hx)
  | presented hp => exact screenLaw_of_onDisplay h rfl (newestPresentation_presented hp)
  | rescheduled hacted => exact hacted.screen (requestsLaw_of_queuesLaw hqueues) h
  | reset straps rate std => exact screenLaw_startBlocks straps rate std s
  | now | cams | pins | lines | fresh | zones | rules | store | head | link | delivered | entered | offer =>
    exact screenLaw_of_onDisplay h rfl rfl

theorem screenLaw_kept : Kept False fun s => QueuesLaw s ∧ ScreenLaw s where
  change hchange h := ⟨queuesLaw_change hchange h.1, screenLaw_change hchange h.1 h.2⟩
  ranges := False.elim

end Sys2Proof.Machine

namespace Sys2Proof.ActivityReports

open Sys2Proof.Machine Sys2Proof.Safety

/-- Settles O54: every command is made of changes, and each of the laws is kept by every kind of change. -/
theorem queuesKept : Obligations.QueuesKept :=
  ⟨fun _ _ _ h hexec => queuesLaw_kept.next h hexec, fun _ _ _ h hexec => windowLaw_kept.next h hexec,
    fun _ _ _ hqueues h hexec => (reportsLaw_kept.next ⟨hqueues, h⟩ hexec).2⟩

end Sys2Proof.ActivityReports

namespace Sys2Proof.ViewSchedule

open Sys2Proof.Machine Sys2Proof.Safety

/-- Settles O55: the scheduler's choice settles the screen, and no other change touches it. -/
theorem screenKept : Obligations.ScreenKept :=
  fun _ _ _ hqueues h hexec => (screenLaw_kept.next ⟨hqueues, h⟩ hexec).2

end Sys2Proof.ViewSchedule
end
